-- ==== Sys2Proof/Word.lean ====
section
/-! DEFINITION. The word types of the AP-416 and the eight-fold record its sense channels and snapshot slots use. -/

namespace Sys2Proof

/-- One byte, as the rack line, the PROM bus and the service UART carry it (section 1.5.2). -/
abbrev Byte := BitVec 8

/-- A value of the soak clock: milliseconds since power-on reset, modulo 2^32 (R2). -/
abbrev Time := BitVec 32

/-- A signature: a class in the top 4 bits and a detail in the low 12 (section 1.5.5). -/
abbrev Sig := BitVec 16

/-- A raw code of one sense channel, 0..4095 (R80). -/
abbrev RawCode := BitVec 12

/-- Eight like things: the sense channels 0..7 (R80), the snapshot slots 0..7 (R151). -/
structure Eight (α : Type) where
  c0 : α
  c1 : α
  c2 : α
  c3 : α
  c4 : α
  c5 : α
  c6 : α
  c7 : α
  deriving DecidableEq, Repr

/-- Eight copies of one value. -/
def Eight.all {α : Type} (a : α) : Eight α := ⟨a, a, a, a, a, a, a, a⟩

/-- The member with number `i`; numbers above 7 do not occur and read as member 7. -/
def Eight.get {α : Type} (v : Eight α) : Nat → α
  | 0 => v.c0
  | 1 => v.c1
  | 2 => v.c2
  | 3 => v.c3
  | 4 => v.c4
  | 5 => v.c5
  | 6 => v.c6
  | _ => v.c7

/-- `v` with the member of number `i` replaced; a number above 7 replaces nothing. -/
def Eight.set {α : Type} (v : Eight α) (i : Nat) (a : α) : Eight α :=
  match i with
  | 0 => { v with c0 := a }
  | 1 => { v with c1 := a }
  | 2 => { v with c2 := a }
  | 3 => { v with c3 := a }
  | 4 => { v with c4 := a }
  | 5 => { v with c5 := a }
  | 6 => { v with c6 := a }
  | 7 => { v with c7 := a }
  | _ => v

/-- The same function of every member. -/
def Eight.map {α β : Type} (f : α → β) (v : Eight α) : Eight β :=
  ⟨f v.c0, f v.c1, f v.c2, f v.c3, f v.c4, f v.c5, f v.c6, f v.c7⟩

/-- A function of each member and its partner in a second record. -/
def Eight.zip {α β γ : Type} (f : α → β → γ) (v : Eight α) (w : Eight β) : Eight γ :=
  ⟨f v.c0 w.c0, f v.c1 w.c1, f v.c2 w.c2, f v.c3 w.c3, f v.c4 w.c4, f v.c5 w.c5, f v.c6 w.c6, f v.c7 w.c7⟩

/-- The members in the order of their numbers. -/
def Eight.toList {α : Type} (v : Eight α) : List α :=
  [v.c0, v.c1, v.c2, v.c3, v.c4, v.c5, v.c6, v.c7]

end Sys2Proof
end

