-- ==== Sys2Proof/Syntax.lean ====
section
/-! DEFINITION. The commands of the AP-416: one constructor for each row of spec/opcode_table.json, with the operands that the
outside world gives with the event. -/

namespace Sys2Proof

/-- The header fields of a received notice that the checks of R42 and R43 and its consumer read, and when its sync pattern stood on the line. -/
structure Header where
  /-- the instant at which the sync pattern behind which the frame was gathered began, in bit times since the release of reset (R41) -/
  sync : Int
  /-- source station ID byte -/
  source : Byte
  /-- target station ID byte, 0 for all -/
  target : Byte
  /-- age in ms, 65535 for a stale notice (R39) -/
  age : BitVec 16
  deriving DecidableEq, Repr

/-- The raw levels of the three panel and fixture inputs at one millisecond sample (R5). -/
structure PanelSample where
  /-- seat switch closed -/
  seat : Bool
  /-- push button pressed -/
  button : Bool
  /-- fixture-present line high -/
  fixture : Bool
  deriving DecidableEq, Repr

/-- What one tray-tag slot answers to the header read: its marker and sequence bytes (R170). -/
structure SlotHeader where
  /-- byte 0 of the slot -/
  marker : Byte
  /-- byte 1 of the slot -/
  sequence : Byte
  deriving DecidableEq, Repr

/-- The four slot headers, as step 2 of the closing work reads them, slot 0 first (R170). -/
structure SlotHeaders where
  s0 : SlotHeader
  s1 : SlotHeader
  s2 : SlotHeader
  s3 : SlotHeader
  deriving DecidableEq, Repr

/-- A frame as its carrier ends (R41). -/
structure ReceivedFrame where
  /-- the instant at which its sync pattern began, as in a Header; any, with no bytes, where no sync pattern stood on the line -/
  sync : Int
  /-- the whole bytes that followed the sync pattern -/
  bytes : List Byte
  /-- the carrier ended inside a further byte -/
  insideByte : Bool
  deriving DecidableEq, Repr

/-- The commands, in the order of spec/opcode_table.json. Operands named `bt` are the instant of a line event, in bit times of the
rack line since the release of reset (section 1.5.1). -/
inductive Instr where
  /-- POWER_ON_RESET (R4), with the levels of the station ID straps (R20) -/
  | powerOnReset (straps : BitVec 5)
  /-- DEBOUNCE_FIRST_STATE (R4) -/
  | debounceFirstState
  /-- BUTTON_PRESS (R6) -/
  | buttonPress
  /-- TRAY_SEATED (R15) -/
  | traySeated
  /-- TRAY_REMOVAL (R13) -/
  | trayRemoval
  /-- FIXTURE_FITTED (R17) -/
  | fixtureFitted
  /-- FIXTURE_CHANGE (R16) -/
  | fixtureChange
  /-- START (R7): an ORDER notice of operation 1 -/
  | start (h : Header) (arg : Byte)
  /-- ABORT (R9): an ORDER notice of operation 2 -/
  | abort (h : Header) (arg : Byte)
  /-- QUERY (R182): an ORDER notice of operation 3 -/
  | query (h : Header) (arg : Byte)
  /-- FETCH (R158): an ORDER notice of operation 4; the argument is the slot -/
  | fetch (h : Header) (arg : Byte)
  /-- UNKNOWN_OPERATION (R182): an ORDER notice of operation 0 or 5..255 -/
  | unknownOperation (h : Header) (op arg : Byte)
  /-- CLAIM (R45) -/
  | claim (h : Header) (weight : Byte) (duration : BitVec 16) (cycle : Byte)
  /-- WITHDRAW (R46) -/
  | withdraw (h : Header)
  /-- SETTLED (R46) -/
  | settled (h : Header) (outcome : Byte)
  /-- SIGHTING (R136) -/
  | sighting (h : Header) (sig : Sig) (cycle phase : Byte)
  /-- SAG (R137) -/
  | sag (h : Header) (bus : BitVec 16)
  /-- FRAME_DISCARDED (R41) -/
  | frameDiscarded (frame : ReceivedFrame)
  /-- CARRIER_APPEARS (R25) -/
  | carrierAppears (bt : Nat)
  /-- END_OF_CARRIER (R25) -/
  | endOfCarrier (bt : Nat)
  /-- QUIET_GAP_END (R24) -/
  | quietGapEnd (bt : Nat)
  /-- COLLISION (R30) -/
  | collision (bt : Nat)
  /-- ATTEMPT_COMPLETION (R27); `alertFirst` says which of the two hand-overs of one departure is taken first (R184) -/
  | attemptCompletion (bt : Nat) (alertFirst : Bool)
  /-- JAM_END (R30); `alertFirst` as at ATTEMPT_COMPLETION -/
  | jamEnd (bt : Nat) (alertFirst : Bool)
  /-- BACKOFF_END (R31) -/
  | backoffEnd (bt : Nat)
  /-- HOLD_END (R55) -/
  | holdEnd
  /-- ENTRY_EXPIRY (R47), of the entry of this peer -/
  | entryExpiry (source : Byte)
  /-- ROUND (R80): the eight inputs in units of one code, the panel sample of the same millisecond (R5), and which of a trip
  and a settled report of this round the sequencer takes first (R92) -/
  | round (inputs : Eight Int) (panel : PanelSample) (tripFirst : Bool)
  /-- RAMP_DEADLINE (R67) -/
  | rampDeadline
  /-- ON_TIME_DEADLINE (R70) -/
  | onTimeDeadline
  /-- DRAIN_DEADLINE (R72) -/
  | drainDeadline
  /-- OFF_TIME_DEADLINE (R73) -/
  | offTimeDeadline
  /-- BYTE_RECEIVED (R100) -/
  | byteReceived (b : Byte)
  /-- FRAMING_ERROR (R101) -/
  | framingError
  /-- GAP_DEADLINE (R104) -/
  | gapDeadline
  /-- AWAITED_STAGE_DEADLINE (R110) -/
  | awaitedStageDeadline
  /-- PULSE_DEADLINE (R112) -/
  | pulseDeadline
  /-- OCCURRENCE_CLOSE (R144), of the oldest open occurrence -/
  | occurrenceClose
  /-- ECHO_REMOVAL (R139), of the first stored echo past its retention -/
  | echoRemoval
  /-- PRE_SEGMENT_WRITE_END (R154) -/
  | preSegmentWriteEnd
  /-- POST_ROUND_WRITE_END (R155) -/
  | postRoundWriteEnd
  /-- PIECE_READ_END (R159) -/
  | pieceReadEnd
  /-- SLOT_HEADER_READ_END (R170), with what the tag answered -/
  | slotHeaderReadEnd (slots : SlotHeaders)
  /-- TAG_WRITE_END (R173) -/
  | tagWriteEnd
  /-- POLL_ACKNOWLEDGE (R173) -/
  | pollAcknowledge
  /-- POLL_TIMEOUT (R173) -/
  | pollTimeout
  /-- TAG_NO_ACKNOWLEDGE (R12): at the start of the access, or (`atStart` false) at a later byte of it (R174) -/
  | tagNoAcknowledge (atStart : Bool)
  /-- PROFILE_HEADER_READ_END (R178), with the two bytes read -/
  | profileHeaderReadEnd (hi lo : Byte)
  /-- IMAGE_READ_END (R178), with the bytes read -/
  | imageReadEnd (image : List Byte)
  /-- PROM_NO_ACKNOWLEDGE (R179) -/
  | promNoAcknowledge
  /-- BACKOFF_GENERATOR_ADVANCE (R28) -/
  | backoffGeneratorAdvance (bt : Nat)
  /-- IDLE_FLAG_SET (R100) -/
  | idleFlagSet
  /-- BUTTON_RELEASE (R5) -/
  | buttonRelease
  deriving DecidableEq, Repr

end Sys2Proof
end

