-- ==== Sys2Proof/Decode.lean ====
section
/-! DEFINITION. The AP-416 decodes no instruction words: no row of spec/opcode_table.json gives bits, so no word spells a command. -/

namespace Sys2Proof

/-- No row of the table gives bits (all 53 rows have an empty "fields" and no "fixed"), so no word is a command. -/
def decodeTableWord (_nbits _w : Nat) : Option Instr := none

end Sys2Proof
end

