-- ==== Sys2Proof/Config.lean ====
section
/-! DEFINITION. What the spec leaves open and no command carries. -/

namespace Sys2Proof

/-- FREE VALUE (log entry 12). R157 suspends a readout's read 'at the byte it has reached'; how far a read has come when a capture
request suspends it is a matter of bus timing that the spec does not give. The n-th suspension stops after this many bytes, and no more than
the piece has. -/
opaque Config.bytesReached : Nat → Nat

end Sys2Proof
end

