-- ==== Sys2Proof/Machine/State.lean ====
section
/-! DEFINITION. Everything the spec gives the AP-416 to hold, as plain data, block by block (section 1.3), with the state after reset. -/

namespace Sys2Proof.Machine

/-! ### Outcomes other than a next state -/

/-- No command of the AP-416 stops the part: the spec names no fault of the controller itself, so this type has no constructor. -/
inductive Fault
  deriving DecidableEq, Repr

/-- Why a command has no meaning. -/
inductive Refusal where
  /-- Raised by exec's arm of a command that has no meaning yet; safe, since nothing is claimed of it. No arm raises it. -/
  | notModelled (mnemonic : String)
  deriving DecidableEq, Repr

/-! ### Run controller (chapter 1) -/

/-- The run states of section 1.2. -/
inductive RunState
  | unconfigured | ready | running | closing | done
  deriving DecidableEq, Repr

/-- The verdicts of R165. -/
inductive Verdict
  | none | pass | fail | suspect | incomplete
  deriving DecidableEq, Repr

/-- The end reasons of R10 and R13, and none (R186). -/
inductive EndReason
  | none | complete | stopped | aborted | removed
  deriving DecidableEq, Repr

/-- The last order results of R182. -/
inductive OrderResult
  | none | accepted | refusedState | refusedUnseated | badArgument
  deriving DecidableEq, Repr

/-- The alert states of R184. -/
inductive Alert
  | none | pending | outstanding
  deriving DecidableEq, Repr

/-- The names of the eleven conditions of R183. -/
inductive Condition
  | profileBad | profileClamped | idClash | echoFull | outboundFull | occFull | tableFull | snapMissed | tagFailed
  | noticeDropped | aborted
  deriving DecidableEq, Repr

/-- The eleven conditions, each clear (false) or set (R183). -/
structure Conditions where
  profileBad : Bool
  profileClamped : Bool
  idClash : Bool
  echoFull : Bool
  outboundFull : Bool
  occFull : Bool
  tableFull : Bool
  snapMissed : Bool
  tagFailed : Bool
  noticeDropped : Bool
  aborted : Bool
  deriving DecidableEq, Repr

/-- Run state, verdict, end reason, run times, last order result, conditions and alert (R4). -/
structure RunControl where
  state : RunState
  verdict : Verdict
  endReason : EndReason
  startTime : Time
  endTime : Time
  lastOrder : OrderResult
  conds : Conditions
  alert : Alert
  deriving DecidableEq, Repr

/-- One debounced input (R5): its debounced level, the raw level of the last sample, and for how many consecutive samples the raw
level has differed from the debounced one. -/
structure Debounce where
  level : Bool
  raw : Bool
  differing : Nat
  deriving DecidableEq, Repr

/-- The panel and fixture inputs: how many of the first 20 samples have been taken, and whether the first states have (R4). -/
structure Panel where
  samples : Nat
  firstTaken : Bool
  seat : Debounce
  button : Debounce
  fixture : Debounce
  deriving DecidableEq, Repr

/-! ### Profile (chapter 11) -/

/-- One stage of the stage list: code and maximum wait in units of 100 ms (R106, R110). -/
structure Stage where
  code : BitVec 16
  maxWait : Nat
  deriving DecidableEq, Repr

/-- One entry of the channel table (R82). -/
structure Channel where
  scale : Nat
  low : Nat
  high : Nat
  offLevel : Nat
  dwell : Nat
  windowFlag : Bool
  rampFlag : Bool
  offFlag : Bool
  deriving DecidableEq, Repr

/-- One entry of the class table (R188). -/
structure ClassEntry where
  threshold : Nat
  supplySensitive : Bool
  snapshot : Bool
  deriving DecidableEq, Repr

/-- The profile's fields (R180, R188). -/
structure Profile where
  profileTag : BitVec 16
  /-- A -/
  allowance : Nat
  /-- w -/
  weight : Nat
  /-- D, ms -/
  duration : Nat
  /-- N -/
  cycles : Nat
  /-- seconds -/
  onTime : Nat
  /-- seconds -/
  offTime : Nat
  /-- ms -/
  drainTimeout : Nat
  /-- W, ms -/
  window : Nat
  /-- H, ms -/
  holdOff : Nat
  /-- Q -/
  quorum : Nat
  /-- R, ms -/
  rearm : Nat
  stopOnFail : Bool
  suspectLimit : Nat
  tripLimit : Nat
  tripDwell : Nat
  sagThreshold : Nat
  sagDwell : Nat
  sagHysteresis : Nat
  baudCode : Nat
  leadByte : Byte
  identityCode : BitVec 16
  pulseCode : BitVec 16
  /-- P, ms -/
  pulseInterval : Nat
  errorLow : Nat
  errorHigh : Nat
  /-- P1 -/
  preRounds : Nat
  /-- P2 -/
  postRounds : Nat
  watchPreset : BitVec 64
  /-- entry of class c at position c - 1 -/
  classes : List ClassEntry
  channels : Eight Channel
  stageCount : Nat
  stages : List Stage
  deriving DecidableEq, Repr

/-- How far a profile load has come (R178). -/
inductive Load
  /-- no load in progress -/
  | idle
  /-- step 1, the header read -/
  | header
  /-- step 2, the image read, of this many bytes -/
  | image (length : Nat)
  deriving DecidableEq, Repr

/-! ### Line port (chapter 2) -/

/-- What a queued notice carries (R34). The kinds ORDER and the peers' own notices are never sent by this part. -/
inductive Content
  | claim (weight : Byte) (duration : BitVec 16) (cycle : Byte)
  | withdraw
  | settled (outcome : Byte)
  | sighting (sig : Sig) (cycle phase : Byte)
  | sag (bus : BitVec 16)
  | verdict (payload : List Byte)
  /-- `alert`: whether it is the alert rather than a reply to an order. `taken`: the content, absent until the first attempt (R40) -/
  | status (alert : Bool) (taken : Option (List Byte))
  | detail (payload : List Byte)
  deriving DecidableEq, Repr

/-- One entry of the outbound queue (R34). -/
structure Notice where
  content : Content
  target : Byte
  eventTime : Time
  attempts : Nat
  deriving DecidableEq, Repr

/-- The transmit states of section 2.3. Instants are in bit times since the release of reset. -/
inductive TxState
  | idle
  | defer
  /-- an attempt begun at `since`, driving these bytes, the sync pattern first (R22) -/
  | send (since : Nat) (frame : List Byte)
  /-- a jam that ends at `endsAt` (R30) -/
  | jam (endsAt : Nat)
  /-- a backoff that ends at `endsAt` (R31) -/
  | backoff (endsAt : Nat)
  deriving DecidableEq, Repr

/-- The quiet-gap timer (R25). -/
inductive Gap
  /-- carrier has stopped the timing -/
  | stopped
  /-- timed from this end of carrier -/
  | since (bt : Nat)
  deriving DecidableEq, Repr

/-- The receive framer (R23, R27, R41): it has read the line, hunting for the sync pattern, since this instant, or it is not fed, as in SEND
and JAM. What it gathers behind a sync pattern comes with the command that ends the frame (log entry 13). -/
inductive Framer
  | hunting (since : Nat)
  | notFed
  deriving DecidableEq, Repr

/-- The line port's state (R23). -/
structure LinePort where
  stationId : BitVec 5
  queue : List Notice
  /-- whether the head of the queue is the current notice (section 2.3) -/
  current : Bool
  tx : TxState
  /-- whether a peer's carrier is on the line -/
  carrier : Bool
  gap : Gap
  /-- the most recent end of carrier on the line (R22, R25) -/
  lastEnd : Nat
  framer : Framer
  /-- the backoff generator (R28) -/
  generator : BitVec 16
  /-- the instant of the generator's next advance, in bit times -/
  nextAdvance : Nat
  /-- whether the claim logic has asked to cancel the CLAIM that is on the wire (R37) -/
  cancelAsked : Bool
  deriving DecidableEq, Repr

/-! ### Step roster and claim logic (chapter 3) -/

/-- One roster entry (R44). -/
structure RosterEntry where
  source : Byte
  weight : Byte
  duration : BitVec 16
  arrival : Time
  expiry : Time
  deriving DecidableEq, Repr

/-- The claim states of section 3.2, with the hold deadline where one runs and the reason of a CANCELLING (R49). -/
inductive ClaimState
  | idle
  | blocked
  | held (deadline : Time)
  | queued
  /-- CANCELLING with reason sag; the sag hold runs on to this deadline -/
  | cancellingSag (deadline : Time)
  /-- CANCELLING with reason run end -/
  | cancellingEnd
  | standing
  deriving DecidableEq, Repr

/-- Roster and own claim state (R44, R49). -/
structure ClaimLogic where
  roster : List RosterEntry
  state : ClaimState
  deriving DecidableEq, Repr

/-! ### Power sequencer (chapter 4) -/

/-- The phases (R1). -/
inductive Phase
  | off | waiting | ramp | boot | stress | drain | rest
  deriving DecidableEq, Repr

/-- Why the run is to end at the next arrival in OFF (R61). -/
inductive EndRequest
  | none | stopped | aborted
  deriving DecidableEq, Repr

/-- The three outputs to the board and the listener enable (R62). -/
structure Lines where
  switchClosed : Bool
  resetAsserted : Bool
  strapDriven : Bool
  listenerEnabled : Bool
  deriving DecidableEq, Repr

/-- The power sequencer's state (R61, R62). -/
structure Sequencer where
  phase : Phase
  cycle : Byte
  done : Byte
  endRequest : EndRequest
  rampDeadline : Option Time
  onDeadline : Option Time
  drainDeadline : Option Time
  offDeadline : Option Time
  lines : Lines
  deriving DecidableEq, Repr

/-! ### Rail monitor (chapter 5) -/

/-- What the rail monitor keeps for one channel (R84, R86, R88, R90). -/
structure ChannelWatch where
  windowCount : Nat
  windowLatch : Bool
  inside : Bool
  heldUp : Bool
  restCount : Nat
  restLatch : Bool
  deriving DecidableEq, Repr

/-- The sag detector (R93); it works only while the profile is valid (R95). -/
inductive SagState
  | armed (count : Nat)
  | inForce
  deriving DecidableEq, Repr

/-- One round of the history ring: the raw codes of channels 0..7 (R96). -/
abbrev Round := Eight RawCode

/-- The rail monitor's state (R98). The ring is held oldest round first, and the count of rounds held is its length. -/
structure RailMonitor where
  values : Eight Nat
  watch : Eight ChannelWatch
  tripCount : Nat
  sag : SagState
  ring : List Round
  deriving DecidableEq, Repr

/-! ### Service port listener (chapter 6) -/

/-- The parser's states with its mark buffer (R103). -/
inductive Parser
  | hunt
  | codeHi
  | codeLo (high : Byte)
  | idLen
  | idBytes (length : Nat) (got : List Byte)
  deriving DecidableEq, Repr

/-- The listener's state (R114). The receiver's enable is the line of R62. The trace ring is held oldest byte first, and its count
is its length. -/
structure Listener where
  idleFlag : Bool
  /-- bit/s, as taken at the last enabling (R99); 0 before the first -/
  bitRate : Nat
  parser : Parser
  gapDeadline : Option Time
  trace : List Byte
  identity : Option (List Byte)
  /-- k, in -1..n-1 (R107) -/
  stage : Int
  /-- the stall-reported set -/
  stalled : List Nat
  awaitDeadline : Option Time
  pulseDeadline : Option Time
  deriving DecidableEq, Repr

/-! ### Sighting table (chapter 7) -/

/-- The snapshot slot field of a record (R116). -/
inductive SnapField
  | absent
  | missed
  | slot (i : Nat)
  deriving DecidableEq, Repr

/-- One record (R116). -/
structure Record where
  sig : Sig
  firstSeen : Time
  lastReport : Time
  firstCycle : Byte
  firstPhase : Phase
  occurrences : Nat
  repeats : Nat
  localCount : Nat
  commonCount : Nat
  unjudged : Nat
  late : Nat
  lastOccurrence : Time
  lastClosed : Option Time
  snapshot : SnapField
  deriving DecidableEq, Repr

/-- Records in creation order, watch mask and first-lost latch (R116, R117). -/
structure SightingTable where
  records : List Record
  mask : BitVec 64
  firstLost : Option Sig
  deriving DecidableEq, Repr

/-! ### Coincidence judge (chapter 8) -/

/-- The kind of an echo, with the signature of a sighting (R135). -/
inductive EchoKind
  | sighting (sig : Sig)
  | sag
  deriving DecidableEq, Repr

/-- One echo-list entry (R135). -/
structure Echo where
  kind : EchoKind
  source : Byte
  eventTime : Time
  allowance : Nat
  deriving DecidableEq, Repr

/-- One open occurrence (R140). Its record is the sighting table's record of its signature. -/
structure Occurrence where
  sig : Sig
  time : Time
  closeTime : Time
  matched : List Byte
  sagFlag : Bool
  deriving DecidableEq, Repr

/-- Echo list, occurrence queue and first-refused-echo-source latch (R148). -/
structure Judge where
  echoes : List Echo
  occurrences : List Occurrence
  firstRefused : Option Byte
  deriving DecidableEq, Repr

/-! ### Snapshot store (chapter 9) -/

/-- A slot that is not EMPTY (R151). The content is header and pre-segment, then post-segment, then trace bytes (R190). -/
structure Snapshot where
  /-- COMPLETE rather than CAPTURING -/
  complete : Bool
  sig : Sig
  time : Time
  preCount : Nat
  postCount : Nat
  postTaken : Nat
  traceCount : Nat
  /-- the header and the pre-segment's rounds, as stored -/
  headBytes : List Byte
  /-- the post-segment's rounds stored so far -/
  postBytes : List Byte
  /-- the trace bytes, as stored -/
  traceBytes : List Byte
  checksum : BitVec 32
  deriving DecidableEq, Repr

/-- The capture engine (section 9.2). -/
inductive Engine
  | idle
  /-- PRE: writing these rounds and trace bytes into the slot -/
  | pre (slot : Nat) (rounds : List Round) (trace : List Byte)
  /-- POST: waiting for rounds, or writing one -/
  | post (slot : Nat) (writing : Option Round)
  deriving DecidableEq, Repr

/-- Who holds the store port (R157). -/
inductive PortHolder
  | free | capture | readout
  deriving DecidableEq, Repr

/-- Where the piece in hand of a readout is (R157, R159, R160). -/
inductive ReadStage
  /-- its bytes are being read through the port, the read having begun, or resumed, after this many of them -/
  | reading (reached : Nat)
  /-- waiting for the port -/
  | waiting
  /-- its read is suspended after this many bytes -/
  | suspended (reached : Nat)
  /-- a first piece, read, held until a DETAIL of an earlier readout leaves -/
  | held
  /-- a data piece in the outbound queue -/
  | dataQueued
  /-- the final piece in the outbound queue -/
  | finalQueued
  deriving DecidableEq, Repr

/-- A readout in progress: slot, target, offset of the piece in hand, and its stage (section 9.4). -/
structure Readout where
  slot : Nat
  target : Byte
  offset : Nat
  stage : ReadStage
  deriving DecidableEq, Repr

/-- The fetch results of section 9.4. -/
inductive FetchResult
  | none | reading | sent | empty | busy | refused
  deriving DecidableEq, Repr

/-- The snapshot store's state (R164); a slot that is `none` is EMPTY. -/
structure SnapshotStore where
  slots : Eight (Option Snapshot)
  engine : Engine
  port : PortHolder
  readout : Option Readout
  fetchResult : FetchResult
  firstMissed : Option Sig
  deriving DecidableEq, Repr

/-! ### Closing work and tray tag (chapter 10) -/

/-- What the docket says of one leading record (R168, R171). -/
structure LeadingRecord where
  sig : Sig
  localCount : Nat
  commonCount : Nat
  firstCycle : Byte
  deriving DecidableEq, Repr

/-- The count summary of R167. -/
structure Summary where
  records : Nat
  occurrences : Nat
  localTotal : Nat
  commonTotal : Nat
  unjudgedTotal : Nat
  lateTotal : Nat
  leading : List LeadingRecord
  done : Byte
  identity : Option (List Byte)
  deriving DecidableEq, Repr

/-- Step 4 of the closing work: the tag plan, the docket, the write under way (1..6) and, once it is on the tag, its poll deadline
(R172, R173, R177). -/
structure DocketWrite where
  slot : Nat
  docket : List Byte
  summary : Summary
  number : Nat
  poll : Option Time
  deriving DecidableEq, Repr

/-- The step that the closing work has reached (R11). Steps 3, 5 and 6 take no time. -/
inductive Closing
  /-- no closing work -/
  | none
  /-- step 1 -/
  | drain
  /-- step 2 -/
  | headers
  /-- step 4 -/
  | write (w : DocketWrite)
  deriving DecidableEq, Repr

/-- The marker of one tag slot that a write cut off or not confirmed has left open, with the values that it may have (R174). -/
structure OpenMarker where
  slot : Nat
  values : List Byte
  deriving DecidableEq, Repr

/-! ### The whole part -/

/-- The state of an AP-416. `pending` and `freeIndex` are the model's own fields: the commands that wait, first in first out, and
how many free values have been drawn. `roundTaken` says whether the round of this count of the clock has been taken (R80). `tag` holds
the bytes of the tray tag that this part's own transfers have determined, by tag address, and `openMarker` the marker that they leave open
between a few values. -/
structure State where
  pending : List Instr
  clock : Time
  roundTaken : Bool
  freeIndex : Nat
  panel : Panel
  run : RunControl
  profile : Option Profile
  load : Load
  port : LinePort
  claim : ClaimLogic
  seq : Sequencer
  rail : RailMonitor
  lis : Listener
  table : SightingTable
  judge : Judge
  store : SnapshotStore
  closing : Closing
  tag : List Host.Cell
  openMarker : Option OpenMarker
  deriving DecidableEq, Repr

/-! ### The named updates of one block -/

def State.setPending (s : State) (x : List Instr) : State := { s with pending := x }
def State.setClock (s : State) (x : Time) : State := { s with clock := x }
def State.setRoundTaken (s : State) (x : Bool) : State := { s with roundTaken := x }
def State.setFreeIndex (s : State) (x : Nat) : State := { s with freeIndex := x }
def State.setPanel (s : State) (x : Panel) : State := { s with panel := x }
def State.setRun (s : State) (x : RunControl) : State := { s with run := x }
def State.setProfile (s : State) (x : Option Profile) : State := { s with profile := x }
def State.setLoad (s : State) (x : Load) : State := { s with load := x }
def State.setPort (s : State) (x : LinePort) : State := { s with port := x }
def State.setClaim (s : State) (x : ClaimLogic) : State := { s with claim := x }
def State.setSeq (s : State) (x : Sequencer) : State := { s with seq := x }
def State.setRail (s : State) (x : RailMonitor) : State := { s with rail := x }
def State.setLis (s : State) (x : Listener) : State := { s with lis := x }
def State.setTable (s : State) (x : SightingTable) : State := { s with table := x }
def State.setJudge (s : State) (x : Judge) : State := { s with judge := x }
def State.setStore (s : State) (x : SnapshotStore) : State := { s with store := x }
def State.setClosing (s : State) (x : Closing) : State := { s with closing := x }
def State.setTag (s : State) (x : List Host.Cell) : State := { s with tag := x }
def State.setOpenMarker (s : State) (x : Option OpenMarker) : State := { s with openMarker := x }

/-! ### Reset -/

/-- All eleven conditions clear (R183). -/
def Conditions.clear : Conditions :=
  { profileBad := false, profileClamped := false, idClash := false, echoFull := false, outboundFull := false, occFull := false,
    tableFull := false, snapMissed := false, tagFailed := false, noticeDropped := false, aborted := false }

/-- A debounced input before its first state has been taken: low, open or released (R4). -/
def Debounce.initial : Debounce := { level := false, raw := false, differing := 0 }

/-- The seed of the backoff generator (R28). -/
def generatorSeed (id : BitVec 5) : BitVec 16 :=
  if BitVec.ofNat 16 (id.toNat * 2053) = 0#16 then 1#16 else BitVec.ofNat 16 (id.toNat * 2053)

/-- A channel of the rail monitor with every count 0 and every latch and flag clear (R98). -/
def ChannelWatch.initial : ChannelWatch :=
  { windowCount := 0, windowLatch := false, inside := false, heldUp := false, restCount := 0, restLatch := false }

/-- The lines of a board that is not powered (R62). -/
def Lines.unpowered : Lines :=
  { switchClosed := false, resetAsserted := true, strapDriven := false, listenerEnabled := false }

/-- Every block in its power-on state (R4, R23, R44, R49, R61, R98, R114, R117, R148, R164, R165, R177), with the station ID that
the straps give (R20). -/
def State.powerOn (straps : BitVec 5) : State :=
  { pending := []
    clock := 0#32
    roundTaken := false
    freeIndex := 0
    panel := { samples := 0, firstTaken := false, seat := Debounce.initial, button := Debounce.initial, fixture := Debounce.initial }
    run := { state := .unconfigured, verdict := .none, endReason := .none, startTime := 0#32, endTime := 0#32, lastOrder := .none,
             conds := Conditions.clear, alert := .none }
    profile := none
    load := .idle
    port := { stationId := straps, queue := [], current := false, tx := .idle, carrier := false, gap := .since 0, lastEnd := 0,
              framer := .hunting 0, generator := generatorSeed straps, nextAdvance := 64, cancelAsked := false }
    claim := { roster := [], state := .idle }
    seq := { phase := .off, cycle := 0#8, done := 0#8, endRequest := .none, rampDeadline := none, onDeadline := none,
             drainDeadline := none, offDeadline := none, lines := Lines.unpowered }
    rail := { values := Eight.all 0, watch := Eight.all ChannelWatch.initial, tripCount := 0, sag := .armed 0, ring := [] }
    lis := { idleFlag := false, bitRate := 0, parser := .hunt, gapDeadline := none, trace := [], identity := none, stage := -1,
             stalled := [], awaitDeadline := none, pulseDeadline := none }
    table := { records := [], mask := 0#64, firstLost := none }
    judge := { echoes := [], occurrences := [], firstRefused := none }
    store := { slots := Eight.all none, engine := .idle, port := .free, readout := none, fetchResult := .none, firstMissed := none }
    closing := .none
    tag := []
    openMarker := none }

/-- The part right after power-on reset. The straps are an input; all low is the model's choice (log entry 1). -/
def State.reset : State := State.powerOn 0#5

end Sys2Proof.Machine
end

