-- ==== Sys2Proof/Machine/Ops.lean ====
section
/-! DEFINITION. Operations every block shares: soak-clock times, bytes and the line CRC, the codes that notices carry, and the tray tag's
bytes as memory. -/

namespace Sys2Proof.Machine

/-! ### Soak-clock times -/

/-- The difference of two times modulo 2^32, read as a signed number (R3). -/
def signedDiff (a b : Time) : Int := (a - b).toInt

/-- A timer with deadline `d` has run out: now − deadline is zero or positive (R3). -/
def expired (now d : Time) : Bool := decide (0 ≤ signedDiff now d)

/-- An idle deadline runs out at no time (R61). -/
def expiredOpt (now : Time) : Option Time → Bool
  | none => false
  | some d => expired now d

/-- |a − b| ≤ m, equality included (R3). -/
def within (a b : Time) (m : Nat) : Bool := decide ((signedDiff a b).natAbs ≤ m)

/-- The deadline of a timer of `ms` milliseconds started at `t` (R3). -/
def timeAfter (t : Time) (ms : Nat) : Time := t + BitVec.ofNat 32 ms

/-- One more, saturating at 65535 (R128). -/
def satInc (n : Nat) : Nat := min (n + 1) 65535

/-! ### Bytes and words, most significant byte first (section 1.5.2) -/

def highByte (x : BitVec 16) : Byte := x.extractLsb' 8 8

def lowByte (x : BitVec 16) : Byte := x.extractLsb' 0 8

def be16 (x : BitVec 16) : List Byte := [highByte x, lowByte x]

def be32 (x : BitVec 32) : List Byte := [x.extractLsb' 24 8, x.extractLsb' 16 8, x.extractLsb' 8 8, x.extractLsb' 0 8]

/-- A count as a two-byte field; the counts so sent are at most 65535. -/
def count16 (n : Nat) : List Byte := be16 (BitVec.ofNat 16 n)

def count8 (n : Nat) : Byte := BitVec.ofNat 8 n

def word16 (high low : Byte) : BitVec 16 := high ++ low

/-- The byte at an offset of a list; the lists so read are long enough. -/
def byteAt (l : List Byte) (i : Nat) : Byte := l.getD i 0#8

def wordAt (l : List Byte) (i : Nat) : BitVec 16 := word16 (byteAt l i) (byteAt l (i + 1))

def nat8At (l : List Byte) (i : Nat) : Nat := (byteAt l i).toNat

def nat16At (l : List Byte) (i : Nat) : Nat := (wordAt l i).toNat

/-- A three-byte field (R82). -/
def nat24At (l : List Byte) (i : Nat) : Nat := nat8At l i * 65536 + nat16At l (i + 1)

/-- A flag bit of a flag byte. -/
def bitAt (l : List Byte) (i bit : Nat) : Bool := (byteAt l i).getLsbD bit

/-- The sum of bytes modulo 2^32 (R156). -/
def byteSum (l : List Byte) : BitVec 32 := l.foldl (fun c b => c + b.setWidth 32) 0#32

/-! ### The line CRC (R22) -/

/-- One bit into the register of x^16 + x^12 + x^5 + 1. -/
def crcBit (reg : BitVec 16) (b : Bool) : BitVec 16 :=
  if reg.msb ^^ b then (reg <<< 1) ^^^ 0x1021#16 else reg <<< 1

/-- One byte, most significant bit first. -/
def crcByte (reg : BitVec 16) (b : Byte) : BitVec 16 :=
  [7, 6, 5, 4, 3, 2, 1, 0].foldl (fun r i => crcBit r (b.getLsbD i)) reg

/-- The CRC of some bytes: the register starts at 0xFFFF, with no final inversion. -/
def crc16 (l : List Byte) : BitVec 16 := l.foldl crcByte 0xFFFF#16

/-- The hash of a signature, 0..63: the top 6 bits of the CRC of its two bytes (R125). -/
def hash6 (g : Sig) : Nat := (crc16 (be16 g) >>> 10).toNat

/-! ### Signatures (section 1.5.5) -/

/-- The class of a signature. -/
def sigClass (g : Sig) : Nat := (g >>> 12).toNat

/-- The signature of a class and a detail. -/
def signature (cls detail : Nat) : Sig := BitVec.ofNat 16 (cls * 4096 + detail)

/-! ### Codes sent in notices -/

/-- The phase codes (R1). -/
def Phase.code : Phase → Byte
  | .off => 0#8
  | .waiting => 1#8
  | .ramp => 2#8
  | .boot => 3#8
  | .stress => 4#8
  | .drain => 5#8
  | .rest => 6#8

/-- The run state codes (R186). -/
def RunState.code : RunState → Byte
  | .unconfigured => 0#8
  | .ready => 1#8
  | .running => 2#8
  | .closing => 3#8
  | .done => 4#8

/-- The verdict codes (R165). -/
def Verdict.code : Verdict → Byte
  | .none => 0#8
  | .pass => 1#8
  | .fail => 2#8
  | .suspect => 3#8
  | .incomplete => 4#8

/-- The end reason codes (R186). -/
def EndReason.code : EndReason → Byte
  | .none => 0#8
  | .complete => 1#8
  | .stopped => 2#8
  | .aborted => 3#8
  | .removed => 4#8

/-- The last order result codes (R182). -/
def OrderResult.code : OrderResult → Byte
  | .none => 0#8
  | .accepted => 1#8
  | .refusedState => 2#8
  | .refusedUnseated => 3#8
  | .badArgument => 4#8

/-- The fetch result codes (R186). -/
def FetchResult.code : FetchResult → Byte
  | .none => 0#8
  | .reading => 1#8
  | .sent => 2#8
  | .empty => 3#8
  | .busy => 4#8
  | .refused => 5#8

/-! ### Tray-tag bytes as memory

The part keeps no copy of the tag (R169). What stands here is what its own transfers have determined of the tag's 256 bytes: an address
that is not listed holds a byte the part's transfers do not determine, and reads as no value (log entry 10). -/

/-- Addresses strictly rising. -/
abbrev Memory.wf (m : List Host.Cell) : Prop := m.Pairwise (fun a b => a.1 < b.1)

/-- The byte at an address, where it is determined. -/
def Memory.read (m : List Host.Cell) (a : Nat) : Option Byte := (m.find? (fun c => c.1 == a)).map Prod.snd

/-- The byte at an address becomes determined. -/
def Memory.write (a : Nat) (b : Byte) : List Host.Cell → List Host.Cell
  | [] => [(a, b)]
  | c :: m => if c.1 < a then c :: Memory.write a b m else if c.1 = a then (a, b) :: m else (a, b) :: c :: m

/-- The byte at an address becomes undetermined. -/
def Memory.forget (m : List Host.Cell) (a : Nat) : List Host.Cell := m.filter (fun c => !(c.1 == a))

/-- Bytes at consecutive addresses become determined. -/
def Memory.writeBytes (m : List Host.Cell) (a : Nat) : List Byte → List Host.Cell
  | [] => m
  | b :: bs => Memory.writeBytes (Memory.write a b m) (a + 1) bs

/-- A number of bytes at consecutive addresses become undetermined. -/
def Memory.forgetBytes (m : List Host.Cell) (a n : Nat) : List Host.Cell :=
  m.filter (fun c => !(decide (a ≤ c.1) && decide (c.1 < a + n)))

end Sys2Proof.Machine
end

