-- ==== Sys2Proof/Machine/Flags.lean ====
section
/-! DEFINITION. The outbound queue's hand-over, and the conditions and the alert that hang on it (R34 to R36, R183, R184). -/

namespace Sys2Proof.Machine

/-! ### Notices -/

/-- CLAIM, WITHDRAW and SETTLED are the step notices (section 1.6). -/
def Content.isStep : Content → Bool
  | .claim _ _ _ => true
  | .withdraw => true
  | .settled _ => true
  | _ => false

def Content.isClaim : Content → Bool
  | .claim _ _ _ => true
  | _ => false

def Content.isDetail : Content → Bool
  | .detail _ => true
  | _ => false

def Notice.isStep (n : Notice) : Bool := n.content.isStep

def Notice.isClaim (n : Notice) : Bool := n.content.isClaim

def Notice.isDetail (n : Notice) : Bool := n.content.isDetail

/-- How many notices of a queue are not step notices. -/
def nonStepCount (q : List Notice) : Nat := q.countP (fun n => !n.isStep)

/-- Of the 16 places of the outbound queue at most 14 hold non-step notices (R34). -/
def nonStepLimit : Nat := 14

/-- A fresh notice, attempt count 0 (R35, R36). -/
def Notice.fresh (c : Content) (target : Byte) (eventTime : Time) : Notice :=
  { content := c, target := target, eventTime := eventTime, attempts := 0 }

/-! ### Station identity -/

/-- Station ID 0 selects standalone operation (R20). -/
def State.standalone (s : State) : Bool := s.port.stationId == 0#5

/-- The station ID as the source byte of a notice. -/
def State.ownId (s : State) : Byte := s.port.stationId.setWidth 8

/-! ### Hand-over -/

/-- A notice accepted in IDLE puts the transmit side into DEFER (R24). -/
def LinePort.wake (p : LinePort) : LinePort :=
  match p.tx with
  | .idle => { p with tx := .defer }
  | _ => p

/-- A non-step notice joins at the tail, or finds no room; in standalone it is taken and discarded (R21, R35). -/
def State.enqueue (n : Notice) (s : State) : Option State :=
  if s.standalone then some s
  else if nonStepCount s.port.queue < nonStepLimit then
    some (s.setPort ({ s.port with queue := s.port.queue ++ [n] } : LinePort).wake)
  else none

/-- The place of a step notice: behind every step notice of the list, ahead of the notices after them (R36). -/
def insertStep (n : Notice) : List Notice → List Notice
  | [] => [n]
  | m :: q => if (m :: q).any Notice.isStep then m :: insertStep n q else n :: m :: q

/-- The queue with a step notice placed behind the current notice and every step notice (R36). -/
def LinePort.withStep (n : Notice) (p : LinePort) : List Notice :=
  match p.current, p.queue with
  | true, c :: q => c :: insertStep n q
  | _, q => insertStep n q

/-- A step notice is always accepted; in standalone it is discarded (R21, R36). -/
def State.handStep (n : Notice) (s : State) : State :=
  if s.standalone then s else s.setPort ({ s.port with queue := s.port.withStep n } : LinePort).wake

/-! ### Conditions and the alert -/

def Conditions.get (c : Condition) (x : Conditions) : Bool :=
  match c with
  | .profileBad => x.profileBad
  | .profileClamped => x.profileClamped
  | .idClash => x.idClash
  | .echoFull => x.echoFull
  | .outboundFull => x.outboundFull
  | .occFull => x.occFull
  | .tableFull => x.tableFull
  | .snapMissed => x.snapMissed
  | .tagFailed => x.tagFailed
  | .noticeDropped => x.noticeDropped
  | .aborted => x.aborted

def Conditions.put (c : Condition) (b : Bool) (x : Conditions) : Conditions :=
  match c with
  | .profileBad => { x with profileBad := b }
  | .profileClamped => { x with profileClamped := b }
  | .idClash => { x with idClash := b }
  | .echoFull => { x with echoFull := b }
  | .outboundFull => { x with outboundFull := b }
  | .occFull => { x with occFull := b }
  | .tableFull => { x with tableFull := b }
  | .snapMissed => { x with snapMissed := b }
  | .tagFailed => { x with tagFailed := b }
  | .noticeDropped => { x with noticeDropped := b }
  | .aborted => { x with aborted := b }

/-- The conditions as STATUS sends them: bit 0 PROFILE_BAD to bit 10 ABORTED (R183). DESIGN CHOICE: no rule gives bits 11..15 of the field, and they
are sent as 0 (log entry 18). -/
def Conditions.bits (x : Conditions) : BitVec 16 :=
  BitVec.ofNat 16
    (x.profileBad.toNat + 2 * x.profileClamped.toNat + 4 * x.idClash.toNat + 8 * x.echoFull.toNat + 16 * x.outboundFull.toNat
      + 32 * x.occFull.toNat + 64 * x.tableFull.toNat + 128 * x.snapMissed.toNat + 256 * x.tagFailed.toNat
      + 512 * x.noticeDropped.toNat + 1024 * x.aborted.toNat)

/-- What START and a fixture change leave of the conditions: bits 3 to 10 are cleared (R183). -/
def Conditions.runCleared (x : Conditions) : Conditions :=
  { Conditions.clear with profileBad := x.profileBad, profileClamped := x.profileClamped, idClash := x.idClash }

def State.putCondition (c : Condition) (b : Bool) (s : State) : State :=
  s.setRun { s.run with conds := s.run.conds.put c b }

def State.setAlert (a : Alert) (s : State) : State := s.setRun { s.run with alert := a }

/-- The alert STATUS is handed to the line port: accepted, OUTSTANDING; refused, PENDING, with OUTBOUND_FULL set by R35, an edge that
falls in PENDING and raises nothing further (R184). -/
def State.handAlert (s : State) : State :=
  match s.enqueue (Notice.fresh (.status true none) 0#8 s.clock) with
  | some s' => s'.setAlert .outstanding
  | none => (s.putCondition .outboundFull true).setAlert .pending

/-- A condition is set: no effect if it is set already, and an edge hands the alert where there is none (R183, R184). -/
def State.setCondition (c : Condition) (s : State) : State :=
  if s.run.conds.get c then s
  else
    match s.run.alert with
    | .none => (s.putCondition c true).handAlert
    | _ => s.putCondition c true

/-- A non-step notice is handed to the line port; a refusal sets OUTBOUND_FULL, and the producer is told (R35). -/
def State.handNotice (n : Notice) (s : State) : State × Bool :=
  match s.enqueue n with
  | some s' => (s', true)
  | none => (s.setCondition .outboundFull, false)

/-- A non-step notice has left the queue: a PENDING alert is handed again (R184). -/
def State.alertOnDeparture (s : State) : State :=
  match s.run.alert with
  | .pending => s.handAlert
  | _ => s

end Sys2Proof.Machine
end

