-- ==== Sys2Proof/Machine/Operands.lean ====
section
/-! DEFINITION. What the line port does with a received notice before its consumer takes it: the checks of R41, R42 and R43. -/

namespace Sys2Proof.Machine

/-- While the transmit side is in SEND or JAM the receive framer does not read the line (R27, R41). -/
def LinePort.onWire (p : LinePort) : Bool :=
  match p.tx with
  | .send _ _ => true
  | .jam _ => true
  | _ => false

/-- The framer has read a sync pattern that began at this instant, from its first bit on (R41). -/
def Framer.finds (sync : Int) : Framer → Bool
  | .hunting since => decide ((since : Int) ≤ sync)
  | .notFed => false

/-- Whether the receive framer has gathered the frame that ends now, whose sync pattern began at this instant: not in standalone (R21), not in
SEND or JAM, and not where the sync pattern began before the framer read the line (R41). -/
def State.hears (sync : Int) (s : State) : Bool := !s.standalone && !s.port.onWire && s.port.framer.finds sync

/-- The source check of R41. -/
def sourceGood (source : Byte) : Bool := decide (1 ≤ source.toNat) && decide (source.toNat ≤ 31)

/-- What becomes of a received notice. -/
inductive Receipt
  /-- no effect on any state -/
  | discarded
  /-- its source is the own station ID (R42) -/
  | clash
  /-- dispatched to its consumer (R43) -/
  | dispatched
  deriving DecidableEq, Repr

/-- The checks in their order: R41's, then the clash of R42, whatever the target, then the target of R43. An ORDER must be addressed
to this station alone. -/
def State.receipt (h : Header) (order : Bool) (s : State) : Receipt :=
  if !s.hears h.sync then .discarded
  else if !sourceGood h.source then .discarded
  else if h.source = s.ownId then .clash
  else if h.target = s.ownId then .dispatched
  else if h.target = 0#8 ∧ order = false then .dispatched
  else .discarded

/-- A received notice with its consumer's action. -/
def State.received (h : Header) (order : Bool) (consume : State → State) (s : State) : State :=
  match s.receipt h order with
  | .discarded => s
  | .clash => s.setCondition .idClash
  | .dispatched => consume s

/-! ### Frames (R41, R43, R187) -/

/-- The frame checks of R41, on the whole bytes that followed the sync pattern; a frame whose carrier ended inside a byte fails. -/
def frameGood (f : List Byte) (insideByte : Bool) : Bool :=
  !insideByte && decide (8 ≤ f.length) && decide (nat8At f 5 ≤ 24) && decide (f.length = 6 + nat8At f 5 + 2)
    && decide (crc16 (f.take (f.length - 2)) = wordAt f (f.length - 2))
    && decide (1 ≤ nat8At f 0) && decide (nat8At f 0 ≤ 9) && sourceGood (byteAt f 1)

/-- The header of a frame (R187). -/
def frameHeader (r : ReceivedFrame) : Header :=
  { sync := r.sync, source := byteAt r.bytes 1, target := byteAt r.bytes 2, age := wordAt r.bytes 3 }

/-- The order of an operation and its argument (R182). -/
def orderCommand (h : Header) (op arg : Byte) : Instr :=
  match op.toNat with
  | 1 => .start h arg
  | 2 => .abort h arg
  | 3 => .query h arg
  | 4 => .fetch h arg
  | _ => .unknownOperation h op arg

/-- The command that a frame amounts to, by its kind and payload length: the five kinds for the roster and the judge, ORDER, and
FRAME_DISCARDED for a frame that fails a check, for the kinds that are not dispatched and for a payload of another length (R41, R43,
R187). -/
def frameCommand (r : ReceivedFrame) : Instr :=
  if frameGood r.bytes r.insideByte then
    match nat8At r.bytes 0, nat8At r.bytes 5 with
    | 1, 4 => .claim (frameHeader r) (byteAt r.bytes 6) (wordAt r.bytes 7) (byteAt r.bytes 9)
    | 2, 0 => .withdraw (frameHeader r)
    | 3, 1 => .settled (frameHeader r) (byteAt r.bytes 6)
    | 4, 4 => .sighting (frameHeader r) (wordAt r.bytes 6) (byteAt r.bytes 8) (byteAt r.bytes 9)
    | 5, 2 => .sag (frameHeader r) (wordAt r.bytes 6)
    | 7, 2 => orderCommand (frameHeader r) (byteAt r.bytes 6) (byteAt r.bytes 7)
    | _, _ => .frameDiscarded r
  else .frameDiscarded r

end Sys2Proof.Machine
end

