-- ==== Sys2Proof/Machine/Line.lean ====
section
/-! DEFINITION. The line port: payloads and frames (R22, R187), STATUS content (R186), draws (R29), cancellation (R37), and the line events
that concern the port alone (R24 to R28, R30, R31). -/

namespace Sys2Proof.Machine

/-! ### STATUS content -/

def sigLatch : Option Sig → BitVec 16
  | none => 0#16
  | some g => g

def sourceLatch : Option Byte → Byte
  | none => 0xFF#8
  | some b => b

/-- The 19 content bytes of a STATUS as the state stands (R186, R187). -/
def State.statusContent (s : State) : List Byte :=
  [s.run.state.code, s.seq.phase.code, s.seq.cycle, (match s.profile with | none => 0#8 | some p => count8 p.cycles),
    count8 s.table.records.length, count8 s.judge.occurrences.length, count8 s.judge.echoes.length]
    ++ be16 s.run.conds.bits ++ be16 (sigLatch s.table.firstLost) ++ [sourceLatch s.judge.firstRefused]
    ++ be16 (sigLatch s.store.firstMissed)
    ++ [s.run.lastOrder.code, s.store.fetchResult.code, s.run.verdict.code, s.run.endReason.code, s.seq.done]

/-! ### Notice on the wire -/

/-- The kind codes (R187). -/
def Content.kind : Content → Byte
  | .claim _ _ _ => 1#8
  | .withdraw => 2#8
  | .settled _ => 3#8
  | .sighting _ _ _ => 4#8
  | .sag _ => 5#8
  | .verdict _ => 6#8
  | .status _ _ => 8#8
  | .detail _ => 9#8

/-- The payloads (R187). A STATUS has no payload until its content is taken (R40). -/
def Content.payload : Content → List Byte
  | .claim w d c => w :: be16 d ++ [c]
  | .withdraw => []
  | .settled o => [o]
  | .sighting g c p => be16 g ++ [c, p]
  | .sag v => be16 v
  | .verdict l => l
  | .status _ none => []
  | .status _ (some l) => l
  | .detail l => l

/-- The age of a notice at the start of an attempt: min(now − event time, 65535) (R39). The difference is taken modulo 2^32 and read
unsigned, so that a long wait reads as stale (log entry 7). -/
def noticeAge (now eventTime : Time) : BitVec 16 := BitVec.ofNat 16 (min (now - eventTime).toNat 65535)

/-- Header and payload, without sync pattern and CRC (R187). -/
def frameBody (source : Byte) (now : Time) (n : Notice) : List Byte :=
  [n.content.kind, source, n.target] ++ be16 (noticeAge now n.eventTime) ++ [count8 n.content.payload.length] ++ n.content.payload

/-- The whole notice on the wire, the sync pattern 0xB38E first (R22, R187). -/
def frameBytes (source : Byte) (now : Time) (n : Notice) : List Byte :=
  [0xB3#8, 0x8E#8] ++ frameBody source now n ++ be16 (crc16 (frameBody source now n))

/-- The length of a frame on the wire in bit times (R22). -/
def frameBits (f : List Byte) : Nat := 8 * f.length

/-! ### The backoff generator -/

/-- The exclusive-or of bits 16, 14, 13 and 11 enters bit 1 as every bit moves one place toward bit 16 (R28). -/
def generatorNext (g : BitVec 16) : BitVec 16 :=
  (g <<< 1) ||| BitVec.setWidth 16 (BitVec.ofBool (g.getLsbD 15 ^^ g.getLsbD 13 ^^ g.getLsbD 12 ^^ g.getLsbD 10))

/-- A draw of m bits: the low m bits of the generator's state, which it leaves as it is (R29). -/
def State.draw (m : Nat) (s : State) : Nat := s.port.generator.toNat % 2 ^ m

/-- BACKOFF_GENERATOR_ADVANCE: once every slot time of 64 bit times, never earlier (R28). -/
def State.advanceGenerator (bt : Nat) (s : State) : State :=
  if s.port.nextAdvance ≤ bt then
    s.setPort { s.port with generator := generatorNext s.port.generator, nextAdvance := s.port.nextAdvance + 64 }
  else s

/-! ### The transmit side -/

/-- The bit times of the quiet gap, of its re-timed part, of a jam and of a slot (section 1.7). -/
def gapBits : Nat := 48
def retimedBits : Nat := 32
def jamBits : Nat := 16
def slotBits : Nat := 64

/-- The gap timer of a port that is not committed: stopped while carrier lasts, and else timed from the most recent end of carrier (R25). -/
def LinePort.gapNow (p : LinePort) : Gap := if p.carrier then .stopped else .since p.lastEnd

/-- With no current notice to work on, the port waits for a gap in DEFER, or idles with an empty queue (R24). An idle port is committed to
nothing: a burst that it ignored counts for the next gap (R25). -/
def LinePort.resume (p : LinePort) : LinePort :=
  if p.queue.isEmpty then { p with tx := .idle, gap := p.gapNow } else { p with tx := .defer }

/-- The head of the queue is current and is a CLAIM. -/
def LinePort.claimCurrent (p : LinePort) : Bool :=
  p.current && (match p.queue with | n :: _ => n.isClaim | [] => false)

/-- The own CLAIM is on the wire: an attempt of it is in SEND or JAM (R37). -/
def LinePort.claimOnWire (p : LinePort) : Bool := p.claimCurrent && p.onWire

/-- The CLAIM removed from where it stands (R37). -/
def LinePort.withoutClaim (p : LinePort) : LinePort :=
  let p' := { p with queue := p.queue.filter (fun n => !n.isClaim), current := p.current && !p.claimCurrent }
  if p'.current then p' else match p.tx with | .idle => p' | _ => p'.resume

/-- The claim logic asks to cancel its CLAIM: on the wire it cannot be stopped, and is marked; elsewhere it is removed at once
(R37). -/
def State.cancelClaim (s : State) : State :=
  if s.port.claimOnWire then s.setPort { s.port with cancelAsked := true } else s.setPort s.port.withoutClaim

/-- The head of the queue leaves it. -/
def LinePort.leave (p : LinePort) : LinePort := { p with queue := p.queue.tail, current := false, cancelAsked := false }

/-- This station's own carrier ends at `bt`: an end of carrier unless a peer still drives the line (R22, R25). The framer reads the line again from
then on (R27, R41). -/
def LinePort.ownCarrierEnds (bt : Nat) (p : LinePort) : LinePort :=
  { p with gap := if p.carrier then .stopped else .since bt, lastEnd := if p.carrier then p.lastEnd else bt, framer := .hunting bt }

/-! ### Line events of the port alone -/

/-- CARRIER_APPEARS: in the re-timed part of a gap being timed in DEFER it stops the timing, in the committed part it is ignored; in
any other state the next gap waits for the end of this carrier (R25, R26). -/
def LinePort.carrierAppears (bt : Nat) (p : LinePort) : LinePort :=
  match p.tx with
  | .send _ _ => { p with carrier := true }
  | .jam _ => { p with carrier := true }
  | .defer =>
    match p.gap with
    | .stopped => { p with carrier := true }
    | .since b => if bt < b + retimedBits then { p with carrier := true, gap := .stopped } else { p with carrier := true }
  | .idle => { p with carrier := true, gap := .stopped }
  | .backoff _ => { p with carrier := true, gap := .stopped }

/-- END_OF_CARRIER: the full gap is timed from this instant, but for a carrier that a committed port ignores (R25, R26). The frame in
hand has ended, and the framer hunts for the next (R41). In SEND and JAM this station still drives the line (R22), and the framer is not fed. -/
def LinePort.endOfCarrier (bt : Nat) (p : LinePort) : LinePort :=
  match p.tx with
  | .send _ _ => { p with carrier := false }
  | .jam _ => { p with carrier := false }
  | .defer =>
    match p.gap, p.carrier with
    | .since _, true => { p with carrier := false, lastEnd := bt, framer := .hunting bt }
    | _, _ => { p with carrier := false, gap := .since bt, lastEnd := bt, framer := .hunting bt }
  | .idle => { p with carrier := false, gap := .since bt, lastEnd := bt, framer := .hunting bt }
  | .backoff _ => { p with carrier := false, gap := .since bt, lastEnd := bt, framer := .hunting bt }

/-- A standalone port neither drives nor reads the line (R21). -/
def State.onLine (f : LinePort → LinePort) (s : State) : State := if s.standalone then s else s.setPort (f s.port)

/-- A notice as its attempt begins: a STATUS without content takes it now (R40). -/
def Notice.begun (content : List Byte) (n : Notice) : Notice :=
  match n.content with
  | .status a none => { n with content := .status a (some content) }
  | _ => n

/-- Whether beginning this notice's attempt takes the content of a reply to an order (R185). -/
def Notice.takesReply (n : Notice) : Bool :=
  match n.content with
  | .status false none => true
  | _ => false

/-- An attempt begins with the notice at the head of the queue: its age is stamped and its CRC computed (R24, R39), and a reply whose
content is taken returns the alert to NONE (R185). A frame being received is cut off (R41). -/
def State.beginAttempt (bt : Nat) (n : Notice) (rest : List Notice) (s : State) : State :=
  let n' := n.begun s.statusContent
  let s' := s.setPort { s.port with queue := n' :: rest, current := true, tx := .send bt (frameBytes s.ownId s.clock n'), framer := .notFed }
  if n.takesReply then s'.setAlert .none else s'

/-- QUIET_GAP_END: 48 bit times after the end of carrier from which the gap is timed (R24, R25). -/
def State.quietGapEnd (bt : Nat) (s : State) : State :=
  match s.port.tx, s.port.gap with
  | .defer, .since b =>
    if b + gapBits ≤ bt then
      match s.port.queue with
      | [] => s.setPort s.port.resume
      | n :: rest => s.beginAttempt bt n rest
    else s
  | _, _ => s

/-- COLLISION: within an attempt, the port stops driving and jams for 16 bit times (R27, R30). -/
def State.collision (bt : Nat) (s : State) : State :=
  match s.port.tx with
  | .send b f => if b ≤ bt ∧ bt ≤ b + frameBits f then s.setPort { s.port with tx := .jam (bt + jamBits) } else s
  | _ => s

/-- BACKOFF_END: the wait of k slot times has passed; the same notice stays current (R31). -/
def State.backoffEnd (bt : Nat) (s : State) : State :=
  match s.port.tx with
  | .backoff e => if e ≤ bt then s.setPort { s.port with tx := .defer } else s
  | _ => s

end Sys2Proof.Machine
end

