-- ==== Sys2Proof/Machine/Snapshots.lean ====
section
/-! DEFINITION. The snapshot store (chapter 9): slots, capture engine, store port and readout. -/

namespace Sys2Proof.Machine

/-! ### Slots and their content -/

/-- The eight raw codes of a round as 16 bytes (R190). -/
def roundBytes (r : Round) : List Byte := r.toList.flatMap (fun c => be16 (c.setWidth 16))

/-- The content of a slot as it stands: header and pre-segment, post-segment, trace bytes (R190). -/
def Snapshot.content (x : Snapshot) : List Byte := x.headBytes ++ x.postBytes ++ x.traceBytes

/-- The length of a slot's content when COMPLETE (R151). -/
def Snapshot.length (x : Snapshot) : Nat := 9 + 16 * (x.preCount + x.postCount) + x.traceCount

/-- A slot just given to a trigger: CAPTURING, nothing stored, checksum 0 (R152, R156). -/
def Snapshot.begun (g : Sig) (t : Time) (pre post trace : Nat) : Snapshot :=
  { complete := false, sig := g, time := t, preCount := pre, postCount := post, postTaken := 0, traceCount := trace,
    headBytes := [], postBytes := [], traceBytes := [], checksum := 0#32 }

/-- The header of a snapshot (R154, R190). -/
def Snapshot.header (x : Snapshot) : List Byte :=
  be16 x.sig ++ be32 x.time ++ [count8 x.preCount, count8 x.postCount, count8 x.traceCount]

/-- The pre-segment write: header, rounds and trace bytes stored and summed; with no post-segment the slot is COMPLETE (R154, R156). -/
def Snapshot.preStored (rounds : List Round) (trace : List Byte) (x : Snapshot) : Snapshot :=
  let head := x.header ++ rounds.flatMap roundBytes
  { x with headBytes := head, traceBytes := trace, checksum := x.checksum + byteSum (head ++ trace),
           complete := decide (x.postCount = 0) }

/-- One post-segment round stored and summed; at the post count the slot is COMPLETE (R155, R156). -/
def Snapshot.roundStored (r : Round) (x : Snapshot) : Snapshot :=
  { x with postBytes := x.postBytes ++ roundBytes r, postTaken := x.postTaken + 1, checksum := x.checksum + byteSum (roundBytes r),
           complete := decide (x.postCount ≤ x.postTaken + 1) }

/-- The lowest-numbered EMPTY slot (R152). -/
def SnapshotStore.lowestEmpty (st : SnapshotStore) : Option Nat := st.slots.toList.findIdx? (fun x => x.isNone)

/-! ### The store port -/

/-- The piece of a content that begins at an offset: 20 bytes, or the rest (R159). -/
def pieceAt (content : List Byte) (offset : Nat) : List Byte := (content.drop offset).take 20

/-- The content that a slot holds; an EMPTY slot holds none. -/
def SnapshotStore.contentOf (st : SnapshotStore) (i : Nat) : List Byte :=
  match st.slots.get i with
  | none => []
  | some x => x.content

/-- The capture engine requests the port and has it at once; a read that runs is suspended at the byte it has reached (R157). How many
bytes that is, no rule gives: it is a free value, no less than the read had reached before and at most the bytes of the piece (log
entry 12). -/
def State.captureRequest (s : State) : State :=
  match s.store.readout with
  | some r =>
    match r.stage with
    | .reading m =>
      (s.setFreeIndex (s.freeIndex + 1)).setStore
        { s.store with
          port := .capture
          readout := some { r with stage := .suspended (min (max m (Config.bytesReached s.freeIndex))
            (pieceAt (s.store.contentOf r.slot) r.offset).length) } }
    | _ => s.setStore { s.store with port := .capture }
  | none => s.setStore { s.store with port := .capture }

/-- The capture engine releases the port: a waiting readout has it, and a suspended one, which resumes at the byte where it stopped
(R157). -/
def SnapshotStore.captureRelease (st : SnapshotStore) : SnapshotStore :=
  match st.readout with
  | some r =>
    match r.stage with
    | .waiting => { st with port := .readout, readout := some { r with stage := .reading 0 } }
    | .suspended n => { st with port := .readout, readout := some { r with stage := .reading n } }
    | _ => { st with port := .free }
  | none => { st with port := .free }

/-- The readout requests the port for the piece at its offset: it reads, or waits while the capture holds the port (R157). -/
def SnapshotStore.readRequest (r : Readout) (st : SnapshotStore) : SnapshotStore :=
  match st.port with
  | .capture => { st with readout := some { r with stage := .waiting } }
  | _ => { st with port := .readout, readout := some { r with stage := .reading 0 } }

/-- The readout gives the port back if it holds it (R157). -/
def SnapshotStore.readRelease (st : SnapshotStore) : SnapshotStore :=
  match st.port with
  | .readout => { st with port := .free }
  | _ => st

/-- A readout ends: its piece in hand is discarded and its read or its place in the wait given up (R158). -/
def SnapshotStore.endReadout (st : SnapshotStore) : SnapshotStore := { st.readRelease with readout := none }

/-! ### Capture -/

/-- The newest `n` members of a ring held oldest first. -/
def newest {α : Type} (n : Nat) (l : List α) : List α := l.drop (l.length - n)

/-- A trigger answered MISSED (R153). -/
def State.snapshotMissed (g : Sig) (s : State) : State :=
  (s.setStore { s.store with firstMissed := (match s.store.firstMissed with | none => some g | some x => some x) }).setCondition
    .snapMissed

/-- A trigger answered with a slot: the engine enters PRE with copies of the two rings as they stand (R152, R154). -/
def State.beginCapture (p : Profile) (g : Sig) (t : Time) (i : Nat) (s : State) : State :=
  let rounds := newest p.preRounds s.rail.ring
  let trace := newest 128 s.lis.trace
  let s := s.captureRequest
  s.setStore
    { s.store with
      slots := s.store.slots.set i (some (Snapshot.begun g t rounds.length p.postRounds trace.length))
      engine := .pre i rounds trace }

/-- A trigger from the sighting table and its answer (R152). -/
def State.trigger (p : Profile) (g : Sig) (t : Time) (s : State) : State × SnapField :=
  match s.store.engine, s.store.lowestEmpty with
  | .idle, some i => (s.beginCapture p g t i, .slot i)
  | _, _ => (s.snapshotMissed g, .missed)

/-- The end of the pre-segment write: COMPLETE and IDLE, or POST; the port is released (R154, R157). -/
def SnapshotStore.preWriteEnd (st : SnapshotStore) : SnapshotStore :=
  match st.engine with
  | .pre i rounds trace =>
    match st.slots.get i with
    | none => { st with engine := .idle }.captureRelease
    | some x =>
      { st with slots := st.slots.set i (some (x.preStored rounds trace)),
                engine := if x.postCount = 0 then .idle else .post i none }.captureRelease
  | _ => st

/-- The end of a post-segment round's write (R155). -/
def SnapshotStore.postWriteEnd (st : SnapshotStore) : SnapshotStore :=
  match st.engine with
  | .post i (some r) =>
    match st.slots.get i with
    | none => { st with engine := .idle }.captureRelease
    | some x =>
      { st with slots := st.slots.set i (some (x.roundStored r)),
                engine := if (x.roundStored r).complete then .idle else .post i none }.captureRelease
  | _ => st

/-- A write of the capture engine ends before the rail monitor offers its next round (R154, R155). -/
def SnapshotStore.writesEnded (st : SnapshotStore) : SnapshotStore := st.preWriteEnd.postWriteEnd

/-- A round offered to the store is taken in POST (R155). -/
def State.offerRound (r : Round) (s : State) : State :=
  match s.store.engine with
  | .post i none =>
    let s := s.captureRequest
    s.setStore { s.store with engine := .post i (some r) }
  | _ => s

/-! ### Readout -/

/-- The payload of a DETAIL (R187). DESIGN CHOICE: R187 gives bit 0 of the flags byte alone, and bits 1..7 are sent as 0 (log entry 18). -/
def detailPayload (slot : Nat) (last : Bool) (offset : Nat) (data : List Byte) : List Byte :=
  [count8 slot, (if last then 1#8 else 0#8)] ++ count16 offset ++ data

/-- Whether a DETAIL of this station is in the outbound queue (R159). -/
def State.detailQueued (s : State) : Bool := s.port.queue.any Notice.isDetail

/-- A piece is handed to the line port; a refusal ends the readout with REFUSED (R159, R161). -/
def State.handPiece (r : Readout) (payload : List Byte) (next : ReadStage) (s : State) : State :=
  match s.handNotice (Notice.fresh (.detail payload) r.target s.clock) with
  | (s', true) => s'.setStore { s'.store with readout := some { r with stage := next } }
  | (s', false) => s'.setStore { s'.store.endReadout with fetchResult := .refused }

/-- The data piece in hand is handed to the line port (R159). -/
def State.handData (r : Readout) (s : State) : State :=
  s.handPiece r (detailPayload r.slot false r.offset (pieceAt (s.store.contentOf r.slot) r.offset)) .dataQueued

/-- The final piece: the last flag, the slot's length as offset, and its checksum (R160). -/
def State.handFinal (r : Readout) (s : State) : State :=
  match s.store.slots.get r.slot with
  | none => s
  | some x => s.handPiece r (detailPayload r.slot true x.length (be32 x.checksum)) .finalQueued

/-- PIECE_READ_END: the bytes of the piece have been read, the port is released, and the piece is handed, or held while a DETAIL of an
earlier readout is still queued (R157, R159). -/
def State.pieceReadEnd (s : State) : State :=
  match s.store.readout with
  | some r =>
    match r.stage with
    | .reading _ =>
      let s := s.setStore s.store.readRelease
      if s.detailQueued then s.setStore { s.store with readout := some { r with stage := .held } } else s.handData r
    | _ => s
  | none => s

/-- A DETAIL has left the outbound queue, sent or dropped (R159, R160). -/
def State.detailDeparted (s : State) : State :=
  match s.store.readout with
  | none => s
  | some r =>
    match r.stage with
    | .dataQueued =>
      if (s.store.contentOf r.slot).length ≤ r.offset + 20 then s.handFinal r
      else s.setStore (s.store.readRequest { r with offset := r.offset + 20 })
    | .finalQueued => s.setStore { s.store.endReadout with fetchResult := .sent }
    | .held => s.handData r
    | .reading _ => s
    | .waiting => s
    | .suspended _ => s

/-- Clearing at an accepted START and at a fixture change: capture and readout abandoned, every slot EMPTY, the port free (R163,
R164). -/
def SnapshotStore.cleared : SnapshotStore :=
  { slots := Eight.all none, engine := .idle, port := .free, readout := none, fetchResult := .none, firstMissed := none }

end Sys2Proof.Machine
end

