-- ==== Sys2Proof/Machine/Judge.lean ====
section
/-! DEFINITION. Records of the sighting table and the coincidence judge (chapters 7 and 8), but for what a close does to a run. -/

namespace Sys2Proof.Machine

/-! ### Records by signature -/

/-- The record of a signature. -/
def SightingTable.find (g : Sig) (t : SightingTable) : Option Record := t.records.find? (fun r => r.sig == g)

/-- The record of a signature changed; the creation order stays (R116). -/
def SightingTable.update (g : Sig) (f : Record → Record) (t : SightingTable) : SightingTable :=
  { t with records := t.records.map (fun r => if r.sig = g then f r else r) }

def State.updateRecord (g : Sig) (f : Record → Record) (s : State) : State := s.setTable (s.table.update g f)

/-- The judge's updates of a record (R127). -/
def Record.judgedLocal (t : Time) (r : Record) : Record := { r with localCount := satInc r.localCount, lastClosed := some t }
def Record.judgedCommon (t : Time) (r : Record) : Record := { r with commonCount := satInc r.commonCount, lastClosed := some t }
def Record.leftUnjudged (r : Record) : Record := { r with unjudged := satInc r.unjudged }
def Record.gainedLate (r : Record) : Record := { r with late := satInc r.late }

/-- The class table's entry for a signature (R188); the classes of reported signatures are 1..11. -/
def Profile.classOf (p : Profile) (g : Sig) : ClassEntry :=
  p.classes.getD (sigClass g - 1) { threshold := 0, supplySensitive := false, snapshot := false }

/-! ### Matching -/

/-- |e − t| ≤ W + a, and the same signature for a sighting (R141, R142). -/
def Echo.matches (p : Profile) (e : Echo) (o : Occurrence) : Bool :=
  within e.eventTime o.time (p.window + e.allowance)
    && (match e.kind with | .sighting g => g == o.sig | .sag => true)

/-- A set of station IDs with one more member, counted once (R140). -/
def addMember (b : Byte) (l : List Byte) : List Byte := if b ∈ l then l else l ++ [b]

/-- What a matching echo does to an occurrence (R141, R142). -/
def Occurrence.matchedBy (p : Profile) (e : Echo) (o : Occurrence) : Occurrence :=
  if e.matches p o then
    match e.kind with
    | .sighting _ => { o with matched := addMember e.source o.matched }
    | .sag => { o with sagFlag := true }
  else o

/-- A new occurrence, matched against every stored echo (R140, R141). -/
def newOccurrence (p : Profile) (echoes : List Echo) (g : Sig) (t : Time) : Occurrence :=
  echoes.foldl (fun o e => o.matchedBy p e)
    { sig := g, time := t, closeTime := timeAfter t (p.window + p.holdOff), matched := [], sagFlag := false }

/-- The occurrence queue holds at most 8 (R140). -/
def occurrenceLimit : Nat := 8

/-- The echo list holds at most 32 (R135). -/
def echoLimit : Nat := 32

/-! ### Echoes -/

/-- Event time and allowance of a received notice (R134). -/
def echoEvent (arrival : Time) (age : BitVec 16) : Time := arrival - age.setWidth 32
def echoAllowance (age : BitVec 16) : Nat := 1 + (age.toNat + 255) / 256

/-- An echo is within retention: now − e ≤ W + a (R138, R139). -/
def Echo.retained (p : Profile) (now : Time) (e : Echo) : Bool := decide (signedDiff now e.eventTime ≤ (p.window + e.allowance : Int))

/-- An echo is matched against every open occurrence (R142). -/
def State.matchEcho (p : Profile) (e : Echo) (s : State) : State :=
  s.setJudge { s.judge with occurrences := s.judge.occurrences.map (fun o => o.matchedBy p e) }

/-- The late test of a sighting echo that matched no open occurrence (R143). -/
def State.lateTest (p : Profile) (g : Sig) (e : Echo) (s : State) : State :=
  match s.table.find g with
  | some r =>
    match r.lastClosed with
    | some c => if within e.eventTime c (p.window + e.allowance) then s.updateRecord g Record.gainedLate else s
    | none => s
  | none => s

/-- An echo is offered for storage (R138). -/
def State.storeEcho (p : Profile) (e : Echo) (s : State) : State :=
  if e.retained p s.clock then
    if s.judge.echoes.length < echoLimit then s.setJudge { s.judge with echoes := s.judge.echoes ++ [e] }
    else
      (s.setJudge { s.judge with firstRefused := (match s.judge.firstRefused with | none => some e.source | some x => some x) }).setCondition
        .echoFull
  else s

/-- A sag echo, a peer's or the own mark: matched, then offered for storage (R137). -/
def State.sagEcho (p : Profile) (e : Echo) (s : State) : State := (s.matchEcho p e).storeEcho p e

/-- A sighting echo: matched, given the late test where it matched nothing, then offered for storage (R136). -/
def State.sightingEcho (p : Profile) (g : Sig) (e : Echo) (s : State) : State :=
  if s.judge.occurrences.any (fun o => e.matches p o) then (s.matchEcho p e).storeEcho p e
  else (s.lateTest p g e).storeEcho p e

/-- A SIGHTING handed over by the line port (R136). -/
def State.takeSighting (h : Header) (g : Sig) (s : State) : State :=
  match s.profile with
  | none => s
  | some p =>
    if h.age.toNat < 65535 ∧ 1 ≤ sigClass g ∧ sigClass g ≤ 11 ∧ s.table.mask.getLsbD (hash6 g) then
      s.sightingEcho p g
        { kind := .sighting g, source := h.source, eventTime := echoEvent s.clock h.age, allowance := echoAllowance h.age }
    else s

/-- The judge's part of a received SAG (R137). -/
def State.judgeSag (h : Header) (s : State) : State :=
  match s.profile with
  | none => s
  | some p =>
    if h.age.toNat < 65535 then
      s.sagEcho p { kind := .sag, source := h.source, eventTime := echoEvent s.clock h.age, allowance := echoAllowance h.age }
    else s

/-- An own sag mark (R94, R137). -/
def State.ownSagMark (p : Profile) (s : State) : State :=
  s.sagEcho p { kind := .sag, source := s.ownId, eventTime := s.clock, allowance := 1 }

/-- The echoes with the first entry past its retention removed (R139). -/
def dropStale (p : Profile) (now : Time) : List Echo → List Echo
  | [] => []
  | e :: l => if e.retained p now then e :: dropStale p now l else l

/-- ECHO_REMOVAL (R139). -/
def State.echoRemoval (s : State) : State :=
  match s.profile with
  | none => s
  | some p => s.setJudge { s.judge with echoes := dropStale p s.clock s.judge.echoes }

/-! ### Drops -/

/-- Every open occurrence leaves the queue as unjudged (R147). -/
def State.dropOccurrences (s : State) : State :=
  (s.setTable (s.judge.occurrences.foldl (fun t o => t.update o.sig Record.leftUnjudged) s.table)).setJudge
    { s.judge with occurrences := [] }

/-! ### Judgement -/

/-- Common by quorum, or by a sag for a supply-sensitive class (R144). -/
def Occurrence.common (p : Profile) (o : Occurrence) : Bool :=
  decide (p.quorum ≤ o.matched.length) || (o.sagFlag && (p.classOf o.sig).supplySensitive)

/-- The record after the close of its occurrence (R144). -/
def Occurrence.judge (p : Profile) (o : Occurrence) (r : Record) : Record :=
  if o.common p then r.judgedCommon o.time else r.judgedLocal o.time

/-- The close of the oldest occurrence: judged, counted, and out of the queue (R144). -/
def State.closeOccurrence (p : Profile) (o : Occurrence) (rest : List Occurrence) (s : State) : State :=
  (s.updateRecord o.sig (o.judge p)).setJudge { s.judge with occurrences := rest }

/-- Whether the close just made stops the run: judged local, the threshold above 0 and met, and stop-on-fail set (R145). -/
def State.stopsRun (p : Profile) (o : Occurrence) (s : State) : Bool :=
  !o.common p && p.stopOnFail && decide (0 < (p.classOf o.sig).threshold)
    && (match s.table.find o.sig with | some r => decide ((p.classOf o.sig).threshold ≤ r.localCount) | none => false)

end Sys2Proof.Machine
end

