-- ==== Sys2Proof/Machine/Sightings.lean ====
section
/-! DEFINITION. Fault reports into the sighting table (chapter 7). -/

namespace Sys2Proof.Machine

/-- The sighting table holds at most 48 records (R116). -/
def recordLimit : Nat := 48

/-- A record as its creating report leaves it after step 3 of R118 (R116, R119). -/
def Record.created (g : Sig) (t : Time) (cycle : Byte) (phase : Phase) : Record :=
  { sig := g, firstSeen := t, lastReport := t, firstCycle := cycle, firstPhase := phase, occurrences := 1, repeats := 0,
    localCount := 0, commonCount := 0, unjudged := 0, late := 0, lastOccurrence := t, lastClosed := none, snapshot := .absent }

/-- A report within the re-arm time of the last occurrence (R121). -/
def Record.repeated (t : Time) (r : Record) : Record := { r with lastReport := t, repeats := satInc r.repeats }

/-- A report that opens an occurrence (R122). -/
def Record.opened (t : Time) (r : Record) : Record :=
  { r with lastReport := t, occurrences := satInc r.occurrences, lastOccurrence := t }

/-- The occurrence is offered to the judge: taken with its creation scan, or refused by a full queue, counted unjudged at once, with
OCC_FULL set (R122, R140). -/
def State.offerOccurrence (p : Profile) (g : Sig) (t : Time) (s : State) : State :=
  if s.judge.occurrences.length < occurrenceLimit then
    s.setJudge { s.judge with occurrences := s.judge.occurrences ++ [newOccurrence p s.judge.echoes g t] }
  else (s.updateRecord g Record.leftUnjudged).setCondition .occFull

/-- The SIGHTING of an occurrence; a refusal leaves the occurrence as it is (R123). -/
def State.handSighting (g : Sig) (t : Time) (s : State) : State :=
  (s.handNotice (Notice.fresh (.sighting g s.seq.cycle s.seq.phase.code) 0#8 t)).1

/-- The watch-mask bit of a signature (R124). -/
def State.setMaskBit (g : Sig) (s : State) : State :=
  s.setTable { s.table with mask := s.table.mask ||| (1#64 <<< hash6 g) }

/-- The snapshot trigger of a record's first occurrence (R126). -/
def State.triggerSnapshot (p : Profile) (g : Sig) (t : Time) (s : State) : State :=
  if (p.classOf g).snapshot then
    let (s', answer) := s.trigger p g t
    s'.updateRecord g (fun r => { r with snapshot := answer })
  else s

/-- Steps 4 to 6 of R118, for an occurrence just opened. -/
def State.announceOccurrence (p : Profile) (g : Sig) (t : Time) (s : State) : State :=
  ((s.offerOccurrence p g t).handSighting g t).setMaskBit g

/-- A report lost to a full table (R120). -/
def State.loseReport (g : Sig) (s : State) : State :=
  (s.setTable { s.table with firstLost := (match s.table.firstLost with | none => some g | some x => some x) }).setCondition .tableFull

/-- One fault report, a signature and a time, taken whole (R118). -/
def State.faultReport (p : Profile) (g : Sig) (t : Time) (s : State) : State :=
  match s.table.find g with
  | none =>
    if s.table.records.length < recordLimit then
      ((s.setTable { s.table with records := s.table.records ++ [Record.created g t s.seq.cycle s.seq.phase] }).announceOccurrence
        p g t).triggerSnapshot p g t
    else s.loseReport g
  | some r =>
    if signedDiff t r.lastOccurrence < (p.rearm : Int) then s.updateRecord g (Record.repeated t)
    else (s.updateRecord g (Record.opened t)).announceOccurrence p g t

/-- Fault reports of one class handed over one after another, in the order given. -/
def State.faultReports (p : Profile) (cls : Nat) (details : List Nat) (t : Time) (s : State) : State :=
  details.foldl (fun s d => s.faultReport p (signature cls d) t) s

end Sys2Proof.Machine
end

