-- ==== Sys2Proof/Machine/Claims.lean ====
section
/-! DEFINITION. What a phase change does in every block (R62, R63, R83, R99), and the step roster and claim logic (chapter 3). -/

namespace Sys2Proof.Machine

/-! ### Phases -/

/-- The lines of each phase (R62). -/
def Phase.lines : Phase → Lines
  | .off => Lines.unpowered
  | .waiting => Lines.unpowered
  | .ramp => { switchClosed := true, resetAsserted := true, strapDriven := true, listenerEnabled := false }
  | .boot => { switchClosed := true, resetAsserted := false, strapDriven := true, listenerEnabled := true }
  | .stress => { switchClosed := true, resetAsserted := false, strapDriven := true, listenerEnabled := true }
  | .drain => Lines.unpowered
  | .rest => Lines.unpowered

/-- The board runs: BOOT and STRESS arm the window check and enable the listener (R83, R99). -/
def Phase.runs : Phase → Bool
  | .boot => true
  | .stress => true
  | _ => false

/-- The board is powered: RAMP, BOOT and STRESS arm the feed-current trip (R83). -/
def Phase.powered : Phase → Bool
  | .ramp => true
  | .boot => true
  | .stress => true
  | _ => false

/-- A deadline is idle outside the phases that use it (R61). -/
def keepIf (b : Bool) (d : Option Time) : Option Time := if b then d else none

/-- Phase, lines and deadlines at a phase change (R61, R62). -/
def Sequencer.phaseChanged (ph : Phase) (q : Sequencer) : Sequencer :=
  { q with phase := ph, lines := ph.lines,
           rampDeadline := keepIf (ph == .ramp) q.rampDeadline, onDeadline := keepIf ph.runs q.onDeadline,
           drainDeadline := keepIf (ph == .drain) q.drainDeadline, offDeadline := keepIf (ph == .rest) q.offDeadline }

/-- Counts and latches of checks that the new phase does not arm are cleared; the REST check's at every change; the inside flag at RAMP
entry and the held-up flag at DRAIN entry (R83, R86, R88, R90). -/
def ChannelWatch.phaseChanged (ph : Phase) (w : ChannelWatch) : ChannelWatch :=
  { windowCount := if ph.runs then w.windowCount else 0, windowLatch := ph.runs && w.windowLatch,
    inside := !(ph == .ramp) && w.inside, heldUp := !(ph == .drain) && w.heldUp, restCount := 0, restLatch := false }

def RailMonitor.phaseChanged (ph : Phase) (m : RailMonitor) : RailMonitor :=
  { m with watch := m.watch.map (ChannelWatch.phaseChanged ph), tripCount := if ph.powered then m.tripCount else 0 }

/-- Outside BOOT and STRESS the receiver is disabled: parser in HUNT, deadlines idle, idle flag clear. The pulse deadline is idle at
every exit from STRESS (R99, R111). -/
def Listener.phaseChanged (ph : Phase) (l : Listener) : Listener :=
  if ph.runs then { l with pulseDeadline := none }
  else { l with idleFlag := false, parser := .hunt, gapDeadline := none, awaitDeadline := none, pulseDeadline := none }

/-- The phase changes, for every reader at one instant (R63). -/
def State.changePhase (ph : Phase) (s : State) : State :=
  ((s.setSeq (s.seq.phaseChanged ph)).setRail (s.rail.phaseChanged ph)).setLis (s.lis.phaseChanged ph)

/-- RAMP entry: switch closed, strap driven, reset asserted, ramp deadline set (R65). -/
def State.enterRamp (p : Profile) (s : State) : State :=
  let s := s.changePhase .ramp
  s.setSeq { s.seq with rampDeadline := some (timeAfter s.clock p.duration) }

/-- A report that the claim stands, taken in any phase other than WAITING, is discarded (R65). -/
def State.rampIfWaiting (p : Profile) (s : State) : State :=
  match s.seq.phase with
  | .waiting => s.enterRamp p
  | _ => s

/-! ### The roster -/

/-- The budget sum S (R48). -/
def budgetSum (r : List RosterEntry) : Nat := (r.map (fun e => e.weight.toNat)).sum

/-- The budget check S + w ≤ A (R48). -/
def State.budgetPasses (p : Profile) (s : State) : Bool := decide (budgetSum s.claim.roster + p.weight ≤ p.allowance)

def State.setRoster (r : List RosterEntry) (s : State) : State := s.setClaim { s.claim with roster := r }

def State.setClaimState (c : ClaimState) (s : State) : State := s.setClaim { s.claim with state := c }

/-- The roster with the source's entry created or replaced whole (R45). -/
def rosterPut (e : RosterEntry) (r : List RosterEntry) : List RosterEntry :=
  if r.any (fun x => x.source == e.source) then r.map (fun x => if x.source = e.source then e else x) else r ++ [e]

/-- The roster without the source's entry (R46). -/
def rosterRemove (source : Byte) (r : List RosterEntry) : List RosterEntry := r.filter (fun x => !(x.source == source))

/-! ### Claiming -/

/-- The own CLAIM: weight w, duration D and the cycle counter, to all stations (R50). -/
def State.ownClaim (p : Profile) (s : State) : Notice :=
  Notice.fresh (.claim (count8 p.weight) (BitVec.ofNat 16 p.duration) s.seq.cycle) 0#8 s.clock

/-- The budget check, with QUEUED or BLOCKED as its outcome (R50, R51, R55). -/
def State.tryClaim (p : Profile) (s : State) : State :=
  if s.budgetPasses p then (s.handStep (s.ownClaim p)).setClaimState .queued else s.setClaimState .blocked

/-- The deadline of a hold started now: 20 × (1 + k) ms, k drawn from 3 bits (R55). -/
def State.holdDeadline (s : State) : Time := timeAfter s.clock (20 * (1 + s.draw 3))

/-- A hold starts or starts afresh (R55). -/
def State.startHold (s : State) : State := s.setClaimState (.held s.holdDeadline)

/-- The contest for the allowance at WAITING entry: a sag in force holds it; standalone needs no claim (R50, R60). -/
def State.beginContest (p : Profile) (s : State) : State :=
  match s.rail.sag with
  | .inForce => s.startHold
  | .armed _ => if s.standalone then (s.setClaimState .idle).rampIfWaiting p else s.tryClaim p

/-- The sequencer has entered WAITING. While an earlier CLAIM is still on the wire the entry is deferred (R50, R57). -/
def State.claimWaitingEntry (p : Profile) (s : State) : State :=
  match s.claim.state with
  | .cancellingEnd => s
  | .cancellingSag _ => s
  | _ => s.beginContest p

/-- A fall of S: in BLOCKED the check is made again (R51). -/
def State.sumFell (s : State) : State :=
  match s.claim.state, s.profile with
  | .blocked, some p => s.tryClaim p
  | _, _ => s

/-- A rise of S: a queued CLAIM that is not current and now fails the check is cancelled (R52). -/
def State.sumRose (s : State) : State :=
  match s.claim.state, s.profile with
  | .queued, some p => if s.port.claimCurrent || s.budgetPasses p then s else s.cancelClaim.setClaimState .blocked
  | _, _ => s

/-- The roster changes, and a change of S is an event for the claim logic (R48). -/
def State.rosterChanged (r : List RosterEntry) (s : State) : State :=
  if budgetSum s.claim.roster < budgetSum r then (s.setRoster r).sumRose
  else if budgetSum r < budgetSum s.claim.roster then (s.setRoster r).sumFell
  else s.setRoster r

/-- A CLAIM handed over by the line port (R44, R45). -/
def State.takeClaim (h : Header) (weight : Byte) (duration : BitVec 16) (s : State) : State :=
  s.rosterChanged
    (rosterPut { source := h.source, weight := weight, duration := duration, arrival := s.clock,
                 expiry := timeAfter s.clock (duration.toNat + 200) } s.claim.roster)

/-- A WITHDRAW or SETTLED handed over by the line port (R46). -/
def State.takeRelease (h : Header) (s : State) : State := s.rosterChanged (rosterRemove h.source s.claim.roster)

/-- ENTRY_EXPIRY: an entry that has reached its expiry is removed as a WITHDRAW would remove it (R47). -/
def State.entryExpiry (source : Byte) (s : State) : State :=
  if s.claim.roster.any (fun e => e.source == source && expired s.clock e.expiry) then
    s.rosterChanged (rosterRemove source s.claim.roster)
  else s

/-- HOLD_END (R55, R60). -/
def State.holdEnd (s : State) : State :=
  match s.claim.state, s.profile with
  | .held d, some p =>
    if expired s.clock d then
      if s.standalone then (s.setClaimState .idle).rampIfWaiting p else s.tryClaim p
    else s
  | _, _ => s

/-- A sag reaches the claim logic (R56). -/
def State.claimSag (s : State) : State :=
  match s.claim.state with
  | .idle => s
  | .standing => s
  | .blocked => s.startHold
  | .held _ => s.startHold
  | .queued =>
    if s.port.claimOnWire then s.cancelClaim.setClaimState (.cancellingSag s.holdDeadline) else s.cancelClaim.startHold
  | .cancellingSag _ => s.setClaimState (.cancellingSag s.holdDeadline)
  | .cancellingEnd => s

/-- An event that ends the station's part in the run, taken in WAITING (R59). -/
def State.claimRunEnding (s : State) : State :=
  match s.claim.state with
  | .idle => s
  | .standing => s
  | .blocked => s.setClaimState .idle
  | .held _ => s.setClaimState .idle
  | .queued => if s.port.claimOnWire then s.cancelClaim.setClaimState .cancellingEnd else s.cancelClaim.setClaimState .idle
  | .cancellingSag _ => s.setClaimState .cancellingEnd
  | .cancellingEnd => s

/-- The sequencer leaves RAMP: a standing claim ends with a SETTLED that carries the outcome (R58). -/
def State.endStanding (outcome : Byte) (s : State) : State :=
  match s.claim.state with
  | .standing => (s.handStep (Notice.fresh (.settled outcome) 0#8 s.clock)).setClaimState .idle
  | _ => s

/-- A WITHDRAW to all stations (R54, R57). -/
def State.handWithdraw (s : State) : State := s.handStep (Notice.fresh .withdraw 0#8 s.clock)

/-- CANCELLING with reason sag ends: HELD, or the hold's check where the hold has run out meanwhile (R57). -/
def State.cancellingSagEnds (d : Time) (s : State) : State :=
  match s.profile with
  | some p => if expired s.clock d then s.tryClaim p else s.setClaimState (.held d)
  | none => s.setClaimState (.held d)

/-- CANCELLING with reason run end ends: IDLE, and a deferred WAITING entry is taken (R57). -/
def State.cancellingEndEnds (s : State) : State :=
  match s.seq.phase, s.profile with
  | .waiting, some p => (s.setClaimState .idle).beginContest p
  | _, _ => s.setClaimState .idle

/-- The line port reports the completion of the own CLAIM (R53, R54, R57). -/
def State.claimCompleted (s : State) : State :=
  match s.claim.state with
  | .queued =>
    match s.profile with
    | some p => if s.budgetPasses p then (s.setClaimState .standing).rampIfWaiting p else s.handWithdraw.startHold
    | none => s
  | .cancellingSag d => s.handWithdraw.cancellingSagEnds d
  | .cancellingEnd => s.handWithdraw.cancellingEndEnds
  | _ => s

/-- The line port reports that the own CLAIM was cancelled after it had been on the wire (R57). -/
def State.claimCancelled (s : State) : State :=
  match s.claim.state with
  | .cancellingSag d => s.cancellingSagEnds d
  | .cancellingEnd => s.cancellingEndEnds
  | _ => s

end Sys2Proof.Machine
end

