-- ==== Sys2Proof/Machine/Closing.lean ====
section
/-! DEFINITION. The closing work, the verdict and the tray tag (R10 to R12, chapter 10). -/

namespace Sys2Proof.Machine

/-! ### Count summary, leading records, verdict -/

/-- A total over the records, held at 65535 where it is greater (R167). -/
def total (f : Record → Nat) (l : List Record) : Nat := min ((l.map f).sum) 65535

/-- Whether a record ranks strictly ahead of another by the first three keys of R168. -/
def Record.ahead (start : Time) (a b : Record) : Bool :=
  if a.localCount ≠ b.localCount then decide (b.localCount < a.localCount)
  else if a.commonCount ≠ b.commonCount then decide (b.commonCount < a.commonCount)
  else decide (signedDiff a.firstSeen start < signedDiff b.firstSeen start)

/-- A record placed in a list ordered by R168, ahead of those it ties with. -/
def placeRecord (start : Time) (r : Record) : List Record → List Record
  | [] => [r]
  | x :: l => if x.ahead start r then x :: placeRecord start r l else r :: x :: l

/-- The records in the order of R168; among equals the earlier created comes first. -/
def rankRecords (start : Time) (l : List Record) : List Record := l.foldr (placeRecord start) []

def Record.leading (r : Record) : LeadingRecord :=
  { sig := r.sig, localCount := r.localCount, commonCount := r.commonCount, firstCycle := r.firstCycle }

/-- The count summary at the verdict instant (R167). -/
def State.summary (s : State) : Summary :=
  { records := s.table.records.length
    occurrences := total Record.occurrences s.table.records
    localTotal := total Record.localCount s.table.records
    commonTotal := total Record.commonCount s.table.records
    unjudgedTotal := total Record.unjudged s.table.records
    lateTotal := total Record.late s.table.records
    leading := ((rankRecords s.run.startTime s.table.records).take 4).map Record.leading
    done := s.seq.done
    identity := s.lis.identity }

/-- Row 1 of R166: some record's local count meets its class's threshold. -/
def State.thresholdMet (p : Profile) (s : State) : Bool :=
  s.table.records.any (fun r => decide (0 < (p.classOf r.sig).threshold) && decide ((p.classOf r.sig).threshold ≤ r.localCount))

/-- The verdict, by the first row of R166 that holds. -/
def State.verdictOf (p : Profile) (s : State) : Verdict :=
  if s.thresholdMet p then .fail
  else if s.run.conds.aborted || s.run.conds.tableFull then .incomplete
  else if p.suspectLimit ≤ s.summary.commonTotal ∨ 1 ≤ s.summary.unjudgedTotal then .suspect
  else .pass

/-- Step 3 of the closing work: the verdict takes its computed value (R11, R165). -/
def State.computeVerdict (p : Profile) (s : State) : State := s.setRun { s.run with verdict := s.verdictOf p }

/-! ### The docket -/

/-- A list of bytes at an exact length, filled up with 0x00. -/
def padTo (n : Nat) (l : List Byte) : List Byte := (l ++ List.replicate n 0#8).take n

def LeadingRecord.bytes (r : LeadingRecord) : List Byte := be16 r.sig ++ count16 r.localCount ++ count16 r.commonCount ++ [r.firstCycle]

/-- The identity field: a length byte and 16 bytes (R171). -/
def identityBytes : Option (List Byte) → List Byte
  | none => 0#8 :: padTo 16 []
  | some l => count8 l.length :: padTo 16 l

/-- The 64 bytes of the docket's slot (R171, R189). -/
def State.docket (p : Profile) (sequence : Byte) (m : Summary) (s : State) : List Byte :=
  [0xC5#8, sequence, s.run.verdict.code, m.done, s.ownId] ++ be16 p.profileTag
    ++ count16 m.occurrences ++ count16 m.localTotal ++ count16 m.commonTotal ++ count16 m.unjudgedTotal
    ++ identityBytes m.identity ++ padTo 28 (m.leading.flatMap LeadingRecord.bytes) ++ be32 s.run.endTime

/-! ### The tag plan (R170) -/

/-- A slot whose marker reads 0xC5 is valid (R169). -/
def slotValid (h : SlotHeader) : Bool := h.marker == 0xC5#8

/-- The slots with their numbers. -/
def numberedSlots (h : SlotHeaders) : List (Nat × SlotHeader) := [(0, h.s0), (1, h.s1), (2, h.s2), (3, h.s3)]

/-- The valid slots whose sequence no other valid slot follows. -/
def slotCandidates (h : SlotHeaders) : List (Nat × SlotHeader) :=
  (numberedSlots h).filter (fun c =>
    slotValid c.2 && (numberedSlots h).all (fun o => (o.1 == c.1) || !slotValid o.2 || !(o.2.sequence == c.2.sequence + 1#8)))

/-- The candidate of greatest sequence, the lowest-numbered among those that share it. -/
def newestSlot : List (Nat × SlotHeader) → Option (Nat × SlotHeader)
  | [] => none
  | c :: l =>
    match newestSlot l with
    | none => some c
    | some d => if c.2.sequence.toNat < d.2.sequence.toNat then some d else some c

/-- Target slot and target sequence (R170). -/
def tagPlan (h : SlotHeaders) : Nat × Byte :=
  match newestSlot (slotCandidates h) with
  | none => (0, 0#8)
  | some c => ((c.1 + 1) % 4, c.2.sequence + 1#8)

/-! ### The six writes (R172) -/

/-- The offset within the slot and the bytes of a write, by its number 1..6 (R172). -/
def writeData (docket : List Byte) (number : Nat) : Nat × List Byte :=
  match number with
  | 1 => (0, [0x00#8])
  | 2 => (1, (docket.drop 1).take 15)
  | 3 => (16, (docket.drop 16).take 16)
  | 4 => (32, (docket.drop 32).take 16)
  | 5 => (48, (docket.drop 48).take 16)
  | _ => (0, [0xC5#8])

/-- The tag address and the bytes of the write under way. -/
def DocketWrite.target (w : DocketWrite) : Nat := 64 * w.slot + (writeData w.docket w.number).1
def DocketWrite.data (w : DocketWrite) : List Byte := (writeData w.docket w.number).2

/-- The values that the marker of a slot may have, where anything is known of it: the byte determined, or those of an open marker. -/
def State.markerValues (i : Nat) (s : State) : Option (List Byte) :=
  match Memory.read s.tag (64 * i), s.openMarker with
  | some x, _ => some [x]
  | none, some m => if m.slot = i then some m.values else none
  | none, none => none

/-- A write of the marker alone: write 1 and write 6 (R172). -/
def DocketWrite.ofMarker (w : DocketWrite) : Bool := !(decide (2 ≤ w.number) && decide (w.number ≤ 5))

/-- The marker that a cut-off or unconfirmed write 1 or 6 leaves open: the old value or 0x00, and 0x00 or 0xC5 (R174). Where write 1 meets a marker
of which nothing is known, nothing is known of it afterwards. -/
def DocketWrite.markerLeft (w : DocketWrite) (s : State) : Option OpenMarker :=
  if w.number = 1 then
    match s.markerValues w.slot with
    | none => s.openMarker
    | some l => some { slot := w.slot, values := if l.contains 0x00#8 then l else 0x00#8 :: l }
  else some { slot := w.slot, values := [0x00#8, 0xC5#8] }

/-- What a transfer that was cut off or not confirmed leaves (R174, R175): its page as the tag left it, or its marker open; a marker that was 0x00
before write 1 is 0x00 still. -/
def State.tagUndetermined (w : DocketWrite) (s : State) : State :=
  if w.ofMarker then
    if w.number = 1 ∧ s.markerValues w.slot = some [0x00#8] then s
    else (s.setTag (Memory.forgetBytes s.tag w.target 1)).setOpenMarker (w.markerLeft s)
  else s.setTag (Memory.forgetBytes s.tag w.target w.data.length)

/-- A byte read agrees with what is known of it: it is one of the values that it may have, or nothing is known. -/
def agrees (known : Option (List Byte)) (b : Byte) : Bool :=
  match known with
  | none => true
  | some l => l.contains b

/-- What the header read of a slot agrees with: marker and sequence are such as R174 leaves them. -/
def State.slotAgrees (i : Nat) (h : SlotHeader) (s : State) : Bool :=
  agrees (s.markerValues i) h.marker && agrees ((Memory.read s.tag (64 * i + 1)).map (fun x => [x])) h.sequence

/-- What the header read tells of one slot: marker and sequence as read. Where they agree with what was known, the slot's other bytes
stand as R174 says; where they differ, another master has written the slot, and only the two bytes are known. -/
def learnSlot (i : Nat) (h : SlotHeader) (agreed : Bool) (m : List Host.Cell) : List Host.Cell :=
  Memory.writeBytes (if agreed then m else Memory.forgetBytes m (64 * i) 64) (64 * i) [h.marker, h.sequence]

/-- The four slots, each against what was known of it before the read; no marker stays open. -/
def State.learnSlots (h : SlotHeaders) (s : State) : State :=
  (s.setTag (learnSlot 3 h.s3 (s.slotAgrees 3 h.s3) (learnSlot 2 h.s2 (s.slotAgrees 2 h.s2)
    (learnSlot 1 h.s1 (s.slotAgrees 1 h.s1) (learnSlot 0 h.s0 (s.slotAgrees 0 h.s0) s.tag))))).setOpenMarker none

/-! ### The steps of the closing work (R11) -/

/-- The payload of the VERDICT notice (R176, R187). -/
def State.verdictPayload (p : Profile) (m : Summary) (written : Bool) (s : State) : List Byte :=
  [s.run.verdict.code, s.run.endReason.code, m.done, count8 p.cycles, count8 m.records]
    ++ count16 m.localTotal ++ count16 m.commonTotal ++ count16 m.unjudgedTotal ++ count16 m.lateTotal
    ++ [(if written then 1#8 else 0#8)] ++ be16 (match m.leading with | [] => 0#16 | r :: _ => r.sig)

/-- Steps 5 and 6: the VERDICT is handed to the line port, the closing work ends, and the run state becomes DONE, or READY where a removal
cut the closing short (R11, R14). -/
def State.announce (p : Profile) (m : Summary) (written : Bool) (next : RunState) (s : State) : State :=
  let s := (s.handNotice (Notice.fresh (.verdict (s.verdictPayload p m written)) 0#8 s.clock)).1
  (s.setClosing .none).setRun { s.run with state := next }

/-- Step 1 ends when the occurrence queue is empty (R11). -/
def State.closingAdvance (s : State) : State :=
  match s.closing, s.judge.occurrences with
  | .drain, [] => s.setClosing .headers
  | _, _ => s

/-- Entry to CLOSING: run end time, end reason, the drop after an abort, and the first step (R10, R11). -/
def State.enterClosing (reason : EndReason) (s : State) : State :=
  let s := s.setRun { s.run with state := .closing, endTime := s.clock, endReason := reason }
  let s := if reason = .aborted then s.dropOccurrences else s
  (s.setClosing .drain).closingAdvance

/-- SLOT_HEADER_READ_END: tag plan, verdict and write 1 (R11, R170, R172). -/
def State.slotHeaderReadEnd (h : SlotHeaders) (s : State) : State :=
  match s.closing, s.profile with
  | .headers, some p =>
    let s := (s.learnSlots h).computeVerdict p
    let m := s.summary
    s.setClosing (.write { slot := (tagPlan h).1, docket := s.docket p (tagPlan h).2 m, summary := m, number := 1, poll := none })
  | _, _ => s

/-- TAG_WRITE_END: the tag has taken the write and is busy with it; polling starts with its deadline of 10 ms (R173). -/
def State.tagWriteEnd (s : State) : State :=
  match s.closing with
  | .write w =>
    match w.poll with
    | none => (s.tagUndetermined w).setClosing (.write { w with poll := some (timeAfter s.clock 10) })
    | some _ => s
  | _ => s

/-- POLL_ACKNOWLEDGE: the write is confirmed; the next begins, or step 4 completes after write 6 (R172, R173). -/
def State.pollAcknowledge (s : State) : State :=
  match s.closing, s.profile with
  | .write w, some p =>
    match w.poll with
    | some _ =>
      let s := (s.setTag (Memory.writeBytes s.tag w.target w.data)).setOpenMarker none
      if w.number < 6 then s.setClosing (.write { w with number := w.number + 1, poll := none })
      else s.announce p w.summary true .done
    | none => s
  | _, _ => s

/-- POLL_TIMEOUT (R12, R173). -/
def State.pollTimeout (s : State) : State :=
  match s.closing, s.profile with
  | .write w, some p =>
    if expiredOpt s.clock w.poll then (s.setCondition .tagFailed).announce p w.summary false .done else s
  | _, _ => s

/-- TAG_NO_ACKNOWLEDGE during the header read or a write (R12, R173, R174). -/
def State.tagNoAcknowledge (atStart : Bool) (s : State) : State :=
  match s.closing, s.profile with
  | .headers, some p =>
    let s := (s.setCondition .tagFailed).computeVerdict p
    s.announce p s.summary false .done
  | .write w, some p =>
    match w.poll with
    | none =>
      let s := if atStart then s else s.tagUndetermined w
      (s.setCondition .tagFailed).announce p w.summary false .done
    | some _ => s
  | _, _ => s

/-- A tray removal in CLOSING, by the step it has reached (R14, R175). -/
def State.closingRemoval (s : State) : State :=
  match s.closing, s.profile with
  | .drain, some p =>
    let s := s.dropOccurrences.computeVerdict p
    s.announce p s.summary false .ready
  | .headers, some p =>
    let s := s.computeVerdict p
    s.announce p s.summary false .ready
  | .write w, some p => (s.tagUndetermined w).announce p w.summary false .ready
  | _, _ => s

/-- A fixture change abandons the closing work: no further byte is written and no VERDICT queued (R16, R175). -/
def State.closingAbandoned (s : State) : State :=
  match s.closing with
  | .write w => (s.tagUndetermined w).setClosing .none
  | _ => s.setClosing .none

end Sys2Proof.Machine
end

