-- ==== Sys2Proof/Machine/Sequencer.lean ====
section
/-! DEFINITION. The power sequencer's transitions (chapter 4), with what the listener sets at BOOT and STRESS entry (R107, R111). -/

namespace Sys2Proof.Machine

/-! ### Entries -/

/-- STRESS entry: the pulse watch starts where the pulse interval is not 0 (R68, R111). -/
def State.enterStress (p : Profile) (s : State) : State :=
  let s := s.changePhase .stress
  if p.pulseInterval = 0 then s
  else s.setLis { s.lis with pulseDeadline := some (timeAfter s.clock (p.pulseInterval + 1)) }

/-- The deadline of stage `i` awaited from now: 100 times its maximum wait, and 1 ms (R110). -/
def State.stageDeadline (p : Profile) (i : Nat) (s : State) : Option Time :=
  match p.stages[i]? with
  | some st => some (timeAfter s.clock (100 * st.maxWait + 1))
  | none => none

/-- The bit rates of the baud codes 0..5 (R180). -/
def bitRateOf (code : Nat) : Nat :=
  match code with
  | 0 => 9600
  | 1 => 38400
  | 2 => 57600
  | 3 => 115200
  | 4 => 230400
  | _ => 460800

/-- The listener at BOOT entry from RAMP: enabled with its rate, idle flag clear, parser in HUNT, k = −1, no stall reported, and S[0]
awaited where there is one (R99, R107, R114). -/
def Listener.bootEntered (rate : Nat) (await : Option Time) (l : Listener) : Listener :=
  { l with idleFlag := false, bitRate := rate, parser := .hunt, gapDeadline := none, stage := -1, stalled := [],
           awaitDeadline := await, pulseDeadline := none }

/-- BOOT entry from RAMP: on-time deadline, listener, and STRESS in the same instant with a stage count of 0 (R66, R68, R107). -/
def State.enterBoot (p : Profile) (s : State) : State :=
  let s := s.changePhase .boot
  let s := s.setSeq { s.seq with onDeadline := some (timeAfter s.clock (1000 * p.onTime)) }
  let s := s.setLis (s.lis.bootEntered (bitRateOf p.baudCode) (s.stageDeadline p 0))
  if p.stages.isEmpty then s.enterStress p else s

/-- DRAIN entry (R72). -/
def State.enterDrain (p : Profile) (s : State) : State :=
  let s := s.changePhase .drain
  s.setSeq { s.seq with drainDeadline := some (timeAfter s.clock p.drainTimeout) }

/-- OFF entry: the end request becomes none (R61). -/
def State.enterOff (s : State) : State :=
  let s := s.changePhase .off
  s.setSeq { s.seq with endRequest := .none }

/-- The phase reaches OFF at the end of a run, and the run controller is told (R10, R73). -/
def State.endRun (reason : EndReason) (s : State) : State := s.enterOff.enterClosing reason

/-- REST entry: the off-time deadline is set (R73). -/
def State.enterRest (p : Profile) (s : State) : State :=
  let s := s.changePhase .rest
  s.setSeq { s.seq with offDeadline := some (timeAfter s.clock (1000 * p.offTime)) }

/-- WAITING entry; the claim logic is told (R64). -/
def State.enterWaiting (p : Profile) (s : State) : State := (s.changePhase .waiting).claimWaitingEntry p

/-! ### Reports and deadlines -/

/-- The rails-settled report; it finds another phase and is discarded outside RAMP (R66). -/
def State.railsSettled (p : Profile) (s : State) : State :=
  match s.seq.phase with
  | .ramp => (s.endStanding 0#8).enterBoot p
  | _ => s

/-- The channels 0..7 of which something holds, in ascending order. -/
def channelsWhere (f : Nat → Bool) : List Nat := (List.range 8).filter f

/-- RAMP_DEADLINE: class 3 reports of the ramp-armed channels whose inside flag is clear, outcome 1, DRAIN (R67, R87). -/
def State.rampDeadlineOut (s : State) : State :=
  match s.profile, s.seq.phase with
  | some p, .ramp =>
    if expiredOpt s.clock s.seq.rampDeadline then
      let failed := channelsWhere (fun i => (p.channels.get i).rampFlag && !(s.rail.watch.get i).inside)
      ((s.faultReports p 3 failed s.clock).endStanding 1#8).enterDrain p
    else s
  | _, _ => s

/-- ON_TIME_DEADLINE in BOOT or STRESS (R70). -/
def State.onTimeOut (s : State) : State :=
  match s.profile with
  | some p => if s.seq.phase.runs && expiredOpt s.clock s.seq.onDeadline then s.enterDrain p else s
  | none => s

/-- The power switch opens at the instant a trip is taken, before DRAIN begins (R62, R71). -/
def State.openSwitch (s : State) : State := s.setSeq { s.seq with lines := { s.seq.lines with switchClosed := false } }

/-- A trip report; it is discarded outside RAMP, BOOT and STRESS (R71, R92). The standing claim of a trip in RAMP ends with outcome
2. -/
def State.takeTrip (p : Profile) (s : State) : State :=
  if s.seq.phase.powered then
    ((s.openSwitch.faultReport p (signature 5 s.seq.phase.code.toNat) s.clock).endStanding 2#8).enterDrain p
  else s

/-- The end of a drain: cycles done rises, and R73 chooses the next phase (R72, R73). -/
def State.endDrain (p : Profile) (s : State) : State :=
  let s := s.setSeq { s.seq with done := s.seq.done + 1#8 }
  match s.seq.endRequest with
  | .stopped => s.endRun .stopped
  | .aborted => s.endRun .aborted
  | .none => if s.seq.cycle.toNat = p.cycles then s.endRun .complete else s.enterRest p

/-- The drain-complete report; discarded outside DRAIN (R72, R88). -/
def State.drainComplete (p : Profile) (s : State) : State :=
  match s.seq.phase with
  | .drain => s.endDrain p
  | _ => s

/-- DRAIN_DEADLINE: class 4 reports of the off-armed channels whose held-up flag is set; the drain ends all the same (R72, R89). -/
def State.drainDeadlineOut (s : State) : State :=
  match s.profile, s.seq.phase with
  | some p, .drain =>
    if expiredOpt s.clock s.seq.drainDeadline then
      let held := channelsWhere (fun i => (p.channels.get i).offFlag && (s.rail.watch.get i).heldUp)
      (s.faultReports p 4 held s.clock).endDrain p
    else s
  | _, _ => s

/-- OFF_TIME_DEADLINE in REST: the cycle counter rises and the sequencer enters WAITING (R73). -/
def State.offTimeOut (s : State) : State :=
  match s.profile, s.seq.phase with
  | some p, .rest =>
    if expiredOpt s.clock s.seq.offDeadline then
      (s.setSeq { s.seq with cycle := s.seq.cycle + 1#8 }).enterWaiting p
    else s
  | _, _ => s

/-! ### Run-ending events -/

/-- The end request takes a value unless one is set already (R74, R75). -/
def State.requestEnd (e : EndRequest) (s : State) : State :=
  match s.seq.endRequest with
  | .none => s.setSeq { s.seq with endRequest := e }
  | _ => s

/-- A stop-on-fail (R74). -/
def State.takeStop (p : Profile) (s : State) : State :=
  match s.seq.phase with
  | .waiting => s.claimRunEnding.endRun .stopped
  | .ramp => ((s.endStanding 3#8).requestEnd .stopped).enterDrain p
  | .boot => (s.requestEnd .stopped).enterDrain p
  | .stress => (s.requestEnd .stopped).enterDrain p
  | .drain => s.requestEnd .stopped
  | .rest => s.endRun .stopped
  | .off => s

/-- An abort (R75). -/
def State.takeAbort (p : Profile) (s : State) : State :=
  match s.seq.phase with
  | .waiting => s.claimRunEnding.endRun .aborted
  | .ramp => ((s.endStanding 3#8).requestEnd .aborted).enterDrain p
  | .boot => (s.requestEnd .aborted).enterDrain p
  | .stress => (s.requestEnd .aborted).enterDrain p
  | .drain => s.requestEnd .aborted
  | .rest => s.endRun .aborted
  | .off => s

/-- A tray removal in RUNNING, and a fixture change: OFF at once with no DRAIN, the claim logic told, or SETTLED(3) from RAMP (R76,
R77). -/
def State.cutPower (s : State) : State :=
  match s.seq.phase with
  | .waiting => s.claimRunEnding.enterOff
  | .ramp => (s.endStanding 3#8).enterOff
  | .off => s
  | _ => s.enterOff

/-! ### The close of an occurrence, with what it does to the run (R144, R145) -/

/-- OCCURRENCE_CLOSE: the oldest open occurrence, at its close time; the last close of a closing run lets the closing work go on
(R11). -/
def State.occurrenceClose (s : State) : State :=
  match s.profile, s.judge.occurrences with
  | some p, o :: rest =>
    if expired s.clock o.closeTime then
      let s := s.closeOccurrence p o rest
      let s := if s.stopsRun p o then s.takeStop p else s
      s.closingAdvance
    else s
  | _, _ => s

end Sys2Proof.Machine
end

