-- ==== Sys2Proof/Machine/Rail.lean ====
section
/-! DEFINITION. The rail monitor: one round and its checks (chapter 5). The clock's part of a round stands in Clock.lean. -/

namespace Sys2Proof.Machine

/-! ### Conversion and scaling -/

/-- An input in units of one code: below the converter's range it gives 0, above it 4095 (R80). -/
def convert (x : Int) : RawCode := if x < 0 then 0#12 else if 4095 < x then 4095#12 else BitVec.ofNat 12 x.toNat

/-- ⌊(c × s + 500) / 1000⌋, in whole millivolts or milliamperes (R81). -/
def scaled (c : RawCode) (scale : Nat) : Nat := (c.toNat * scale + 500) / 1000

/-- Inside a window, both bounds included (R81). -/
def Channel.holds (ch : Channel) (v : Nat) : Bool := decide (ch.low ≤ v) && decide (v ≤ ch.high)

/-- The ring with a round written as its newest, at most 256 held (R96). -/
def pushRound (r : Round) (ring : List Round) : List Round := newest 256 (ring ++ [r])

def State.setWatch (i : Nat) (w : ChannelWatch) (s : State) : State :=
  s.setRail { s.rail with watch := s.rail.watch.set i w }

/-! ### The window check (R84) -/

/-- One channel's window check in one round: its new count and latch, and whether it reports. The round that brings the count to the dwell
sets the latch, and while the latch is set the count is 0 (log entry 16). -/
def ChannelWatch.windowRound (ch : Channel) (v : Nat) (w : ChannelWatch) : ChannelWatch × Bool :=
  if ch.holds v then ({ w with windowCount := 0, windowLatch := false }, false)
  else if w.windowLatch then ({ w with windowCount := 0 }, false)
  else if ch.dwell ≤ w.windowCount + 1 then ({ w with windowCount := 0, windowLatch := true }, true)
  else ({ w with windowCount := w.windowCount + 1 }, false)

/-- Rail low below the window, rail high above it (R84). -/
def windowClass (ch : Channel) (v : Nat) : Nat := if v < ch.low then 1 else 2

def State.windowStep (p : Profile) (i : Nat) (s : State) : State :=
  let ch := p.channels.get i
  if ch.windowFlag then
    let (w, reports) := (s.rail.watch.get i).windowRound ch (s.rail.values.get i)
    let s := s.setWatch i w
    if reports then s.faultReport p (signature (windowClass ch (s.rail.values.get i)) i) s.clock else s
  else s

/-- Channels 2..7 in ascending order (R84). -/
def State.windowCheck (p : Profile) (s : State) : State := [2, 3, 4, 5, 6, 7].foldl (fun s i => s.windowStep p i) s

/-! ### The ramp check and the drain check -/

/-- The inside flags of the ramp-armed channels (R86). -/
def State.rampFlags (p : Profile) (s : State) : State :=
  s.setRail
    { s.rail with
      watch := (p.channels.zip (fun ch (v, w) => if ch.rampFlag then { w with inside := ch.holds v } else w)
        (s.rail.values.zip (fun v w => (v, w)) s.rail.watch) : Eight ChannelWatch) }

/-- Every ramp-armed channel is inside its window in this round (R86). -/
def State.settledRound (p : Profile) (s : State) : Bool :=
  (List.range 8).all (fun i => !(p.channels.get i).rampFlag || (p.channels.get i).holds (s.rail.values.get i))

/-- The held-up flags of the off-armed channels (R88). -/
def State.drainFlags (p : Profile) (s : State) : State :=
  s.setRail
    { s.rail with
      watch := (p.channels.zip (fun ch (v, w) => if ch.offFlag then { w with heldUp := decide (ch.offLevel < v) } else w)
        (s.rail.values.zip (fun v w => (v, w)) s.rail.watch) : Eight ChannelWatch) }

/-- Every off-armed channel is at or below its off level in this round (R88). -/
def State.drainedRound (p : Profile) (s : State) : Bool :=
  (List.range 8).all (fun i => !(p.channels.get i).offFlag || decide (s.rail.values.get i ≤ (p.channels.get i).offLevel))

/-! ### The REST off check (R90) -/

/-- One channel's REST off check in one round. The count of 0..255 is not stated as saturating and wraps (section 1.5.2). -/
def ChannelWatch.restRound (ch : Channel) (v : Nat) (w : ChannelWatch) : ChannelWatch × Bool :=
  if v ≤ ch.offLevel then ({ w with restCount := 0 }, false)
  else if ch.dwell ≤ (w.restCount + 1) % 256 ∧ w.restLatch = false then
    ({ w with restCount := (w.restCount + 1) % 256, restLatch := true }, true)
  else ({ w with restCount := (w.restCount + 1) % 256 }, false)

def State.restStep (p : Profile) (i : Nat) (s : State) : State :=
  let ch := p.channels.get i
  if ch.offFlag then
    let (w, reports) := (s.rail.watch.get i).restRound ch (s.rail.values.get i)
    let s := s.setWatch i w
    if reports then s.faultReport p (signature 4 i) s.clock else s
  else s

def State.restCheck (p : Profile) (s : State) : State := (List.range 8).foldl (fun s i => s.restStep p i) s

/-! ### The feed-current trip (R91) -/

/-- Channel 1 above the trip limit for the trip dwell. -/
def State.tripReached (p : Profile) (s : State) : Bool :=
  decide (p.tripLimit < s.rail.values.get 1) && decide (p.tripDwell ≤ s.rail.tripCount + 1)

/-- The trip count after a round; a report returns it to 0. -/
def State.tripCounted (p : Profile) (s : State) : State :=
  s.setRail
    { s.rail with
      tripCount := if s.tripReached p then 0 else if p.tripLimit < s.rail.values.get 1 then s.rail.tripCount + 1 else 0 }

/-! ### Bus sag (R93, R94) -/

/-- The payload value of a SAG: 65535 when the bus value exceeds it (R94). -/
def sagValue (v : Nat) : BitVec 16 := BitVec.ofNat 16 (min v 65535)

/-- A sag is confirmed: own sag mark, SAG notice, and a report to the claim logic (R94). -/
def State.sagConfirmed (p : Profile) (s : State) : State :=
  let s := s.setRail { s.rail with sag := .inForce }
  let s := s.ownSagMark p
  let s := (s.handNotice (Notice.fresh (.sag (sagValue (s.rail.values.get 0))) 0#8 s.clock)).1
  s.claimSag

/-- The sag detector in one round (R93). -/
def State.sagCheck (p : Profile) (s : State) : State :=
  match s.rail.sag with
  | .armed n =>
    if s.rail.values.get 0 < p.sagThreshold then
      if p.sagDwell ≤ n + 1 then s.sagConfirmed p else s.setRail { s.rail with sag := .armed (n + 1) }
    else s.setRail { s.rail with sag := .armed 0 }
  | .inForce =>
    if p.sagThreshold + p.sagHysteresis ≤ s.rail.values.get 0 then s.setRail { s.rail with sag := .armed 0 } else s

/-! ### One round -/

/-- The RAMP, BOOT and STRESS part of a round: inside flags and trip count are kept, then the settled and trip reports are handed to the
sequencer one after the other, in the order the command gives (R86, R91, R92). -/
def State.poweredChecks (p : Profile) (tripFirst : Bool) (s : State) : State :=
  let ramping := s.seq.phase == .ramp
  let settled := ramping && s.settledRound p
  let trip := s.tripReached p
  let s := if ramping then s.rampFlags p else s
  let s := s.tripCounted p
  let settle := fun (s : State) => if settled then s.railsSettled p else s
  let trips := fun (s : State) => if trip then s.takeTrip p else s
  if tripFirst then settle (trips s) else trips (settle s)

/-- The checks that the phase at the round arms, on the values of this round (R80, R83). -/
def State.phaseChecks (p : Profile) (tripFirst : Bool) (s : State) : State :=
  match s.seq.phase with
  | .ramp => s.poweredChecks p tripFirst
  | .boot => (s.windowCheck p).poweredChecks p tripFirst
  | .stress => (s.windowCheck p).poweredChecks p tripFirst
  | .drain => if s.drainedRound p then (s.drainFlags p).drainComplete p else s.drainFlags p
  | .rest => s.restCheck p
  | .off => s
  | .waiting => s

/-- The codes are written into the history ring and offered to the snapshot store (R96). -/
def State.writeHistory (r : Round) (s : State) : State :=
  (s.setRail { s.rail with ring := pushRound r s.rail.ring }).offerRound r

/-- The most recent value of each channel (R80, R81). -/
def State.scaleValues (p : Profile) (r : Round) (s : State) : State :=
  s.setRail { s.rail with values := p.channels.zip (fun ch c => scaled c ch.scale) r }

/-- What one round does: while the profile is not valid it is only converted (R80). -/
def State.roundHandled (r : Round) (tripFirst : Bool) (s : State) : State :=
  match s.profile with
  | none => s
  | some p => (((s.writeHistory r).scaleValues p r).phaseChecks p tripFirst).sagCheck p

end Sys2Proof.Machine
end

