-- ==== Sys2Proof/Machine/Listen.lean ====
section
/-! DEFINITION. The service port listener (chapter 6). -/

namespace Sys2Proof.Machine

/-- A receiver that is disabled, or that has not seen the line idle, takes no byte (R99, R100). -/
def State.receives (s : State) : Bool := s.seq.lines.listenerEnabled && s.lis.idleFlag

/-- The ring with a byte written as its newest, at most 512 held (R102). -/
def pushByte (b : Byte) (ring : List Byte) : List Byte := newest 512 (ring ++ [b])

/-- The awaited-stage deadline set afresh for the stage after the index, or idle after the last (R108, R110). -/
def State.moveStage (p : Profile) (j : Nat) (s : State) : State :=
  s.setLis { s.lis with stage := j, awaitDeadline := s.stageDeadline p (j + 1) }

/-- The stage index that a code matches: the smallest greater than k, or else the smallest of all (R108). -/
def stageIndex (p : Profile) (k : Int) (code : BitVec 16) : Option Nat :=
  match (List.range p.stages.length).find? (fun (i : Nat) => decide (k < (i : Int)) && (p.stages[i]?.map Stage.code == some code)) with
  | some j => some j
  | none => (List.range p.stages.length).find? (fun i => p.stages[i]?.map Stage.code == some code)

/-- The final stage reached, in BOOT (R68, R109). -/
def State.finalStage (p : Profile) (j : Nat) (s : State) : State :=
  if j + 1 = p.stages.length then
    match s.seq.phase with
    | .boot => s.enterStress p
    | _ => s
  else s

/-- A regression in STRESS returns the sequencer to BOOT (R69, R109). -/
def State.fallBack (s : State) : State :=
  match s.seq.phase with
  | .stress => s.changePhase .boot
  | _ => s

/-- A stage code that matched index `j`: advance, skip, regression or repeat; a report is handed over before the signal (R108,
R109). -/
def State.stageCode (p : Profile) (j : Nat) (s : State) : State :=
  if (j : Int) = s.lis.stage + 1 then (s.moveStage p j).finalStage p j
  else if s.lis.stage + 1 < (j : Int) then ((s.faultReport p (signature 7 j) s.clock).moveStage p j).finalStage p j
  else if (j : Int) < s.lis.stage then ((s.faultReport p (signature 8 j) s.clock).moveStage p j).fallBack
  else s

/-- A pulse code in STRESS sets the pulse deadline again; with P = 0, or in BOOT, it is ignored (R111). -/
def State.pulseCode (p : Profile) (s : State) : State :=
  match s.seq.phase with
  | .stress =>
    if p.pulseInterval = 0 then s
    else s.setLis { s.lis with pulseDeadline := some (timeAfter s.clock (p.pulseInterval + 1)) }
  | _ => s

/-- A code other than the identity code, classified by the first test it meets (R106). -/
def State.classify (p : Profile) (code : BitVec 16) (s : State) : State :=
  match stageIndex p s.lis.stage code with
  | some j => s.stageCode p j
  | none =>
    if code = p.pulseCode then s.pulseCode p
    else if p.errorLow ≤ code.toNat ∧ code.toNat ≤ p.errorHigh then s.faultReport p (signature 11 (code.toNat - p.errorLow)) s.clock
    else s

/-- The parser in a state inside a mark, its gap deadline set again; 10 ms are still within the mark (R104). -/
def State.parserIn (x : Parser) (s : State) : State :=
  s.setLis { s.lis with parser := x, gapDeadline := some (timeAfter s.clock 11) }

/-- The parser back in HUNT, its gap deadline idle (R103). -/
def State.parserHunts (s : State) : State := s.setLis { s.lis with parser := .hunt, gapDeadline := none }

/-- A complete identity mark sets the board identity if it is absent (R105). -/
def State.offerIdentity (bytes : List Byte) (s : State) : State :=
  s.setLis { s.lis with identity := (match s.lis.identity with | none => some bytes | some x => some x) }

/-- The parser acts on one byte (R103). -/
def State.parse (p : Profile) (b : Byte) (s : State) : State :=
  match s.lis.parser with
  | .hunt => if b = p.leadByte then s.parserIn .codeHi else s
  | .codeHi => s.parserIn (.codeLo b)
  | .codeLo high => if word16 high b = p.identityCode then s.parserIn .idLen else s.parserHunts.classify p (word16 high b)
  | .idLen => if 1 ≤ b.toNat ∧ b.toNat ≤ 16 then s.parserIn (.idBytes b.toNat []) else s.parserHunts
  | .idBytes n got =>
    if got.length + 1 < n then s.parserIn (.idBytes n (got ++ [b])) else s.parserHunts.offerIdentity (got ++ [b])

/-- BYTE_RECEIVED: into the trace ring, then to the parser (R100, R102). -/
def State.byteReceived (b : Byte) (s : State) : State :=
  match s.profile with
  | some p => if s.receives then (s.setLis { s.lis with trace := pushByte b s.lis.trace }).parse p b else s
  | none => s

/-- FRAMING_ERROR: the byte is discarded, a mark in hand abandoned, the idle flag cleared, and class 10 reported (R101). -/
def State.framingError (s : State) : State :=
  match s.profile with
  | some p =>
    if s.receives then
      (s.setLis { s.lis with parser := .hunt, gapDeadline := none, idleFlag := false }).faultReport p (signature 10 0) s.clock
    else s
  | none => s

/-- IDLE_FLAG_SET (R100). -/
def State.idleFlagSet (s : State) : State :=
  if s.seq.lines.listenerEnabled then s.setLis { s.lis with idleFlag := true } else s

/-- GAP_DEADLINE: the partial mark is discarded (R104). -/
def State.gapDeadlineOut (s : State) : State := if expiredOpt s.clock s.lis.gapDeadline then s.parserHunts else s

/-- AWAITED_STAGE_DEADLINE: a stall, reported once for each stage in a cycle (R110). -/
def State.awaitedStageOut (s : State) : State :=
  match s.profile with
  | some p =>
    if expiredOpt s.clock s.lis.awaitDeadline then
      let i := (s.lis.stage + 1).toNat
      let s := s.setLis { s.lis with awaitDeadline := none }
      if i ∈ s.lis.stalled then s
      else (s.setLis { s.lis with stalled := s.lis.stalled ++ [i] }).faultReport p (signature 6 i) s.clock
    else s
  | none => s

/-- PULSE_DEADLINE in STRESS: class 9, then DRAIN (R112). -/
def State.pulseDeadlineOut (s : State) : State :=
  match s.profile, s.seq.phase with
  | some p, .stress =>
    if expiredOpt s.clock s.lis.pulseDeadline then (s.faultReport p (signature 9 0) s.clock).enterDrain p else s
  | _, _ => s

end Sys2Proof.Machine
end

