-- ==== Sys2Proof/Machine/Profile.lean ====
section
/-! DEFINITION. The profile load (chapter 11): the image's layout, the clamps, the refusal checks and their outcomes. -/

namespace Sys2Proof.Machine

/-! ### The image (R188) -/

/-- The entry of class c at 58 + 2 × (c − 1). -/
def classAt (l : List Byte) (c : Nat) : ClassEntry :=
  { threshold := nat8At l (58 + 2 * (c - 1)), supplySensitive := bitAt l (58 + 2 * (c - 1) + 1) 0,
    snapshot := bitAt l (58 + 2 * (c - 1) + 1) 1 }

/-- The entry of channel i at 80 + 13 × i. -/
def channelAt (l : List Byte) (i : Nat) : Channel :=
  { scale := nat16At l (80 + 13 * i), low := nat24At l (80 + 13 * i + 2), high := nat24At l (80 + 13 * i + 5),
    offLevel := nat24At l (80 + 13 * i + 8), dwell := nat8At l (80 + 13 * i + 11),
    windowFlag := bitAt l (80 + 13 * i + 12) 0, rampFlag := bitAt l (80 + 13 * i + 12) 1, offFlag := bitAt l (80 + 13 * i + 12) 2 }

/-- Stage i of the stage list at 185 + 4 × i. -/
def stageAt (l : List Byte) (i : Nat) : Stage := { code := wordAt l (185 + 4 * i), maxWait := nat16At l (185 + 4 * i + 2) }

/-- The watch preset: bit 7 of byte 50 is mask bit 63, bit 0 of byte 57 is mask bit 0. -/
def maskAt (l : List Byte) : BitVec 64 :=
  wordAt l 50 ++ wordAt l 52 ++ wordAt l 54 ++ wordAt l 56

/-- min(stage count, 16): the stage entries that are read (R179, R180). -/
def stagesRead (l : List Byte) : Nat := min (nat8At l 184) 16

/-- The fields of an image as they stand in it. -/
def rawProfile (l : List Byte) : Profile :=
  { profileTag := wordAt l 3
    allowance := nat16At l 5
    weight := nat8At l 7
    duration := nat16At l 8
    cycles := nat8At l 10
    onTime := nat16At l 11
    offTime := nat16At l 13
    drainTimeout := nat16At l 15
    window := nat16At l 17
    holdOff := nat16At l 19
    quorum := nat8At l 21
    rearm := nat16At l 22
    stopOnFail := bitAt l 24 0
    suspectLimit := nat8At l 25
    tripLimit := nat24At l 26
    tripDwell := nat8At l 29
    sagThreshold := nat24At l 30
    sagDwell := nat8At l 33
    sagHysteresis := nat16At l 34
    baudCode := nat8At l 36
    leadByte := byteAt l 37
    identityCode := wordAt l 38
    pulseCode := wordAt l 40
    pulseInterval := nat16At l 42
    errorLow := nat16At l 44
    errorHigh := nat16At l 46
    preRounds := nat8At l 48
    postRounds := nat8At l 49
    watchPreset := maskAt l
    classes := [1, 2, 3, 4, 5, 6, 7, 8, 9, 10, 11].map (classAt l)
    channels := ⟨channelAt l 0, channelAt l 1, channelAt l 2, channelAt l 3, channelAt l 4, channelAt l 5, channelAt l 6, channelAt l 7⟩
    stageCount := nat8At l 184
    stages := (List.range (stagesRead l)).map (stageAt l) }

/-! ### The image of a profile, as the fixture designer lays it out (R188) -/

def count24 (n : Nat) : List Byte := count8 (n / 65536) :: count16 (n % 65536)

/-- A flag byte: bit 0, bit 1, bit 2, and the reserved bits 0, which no rule reads (log entry 18). -/
def flagByte (b0 b1 b2 : Bool) : Byte := BitVec.ofNat 8 (b0.toNat + 2 * b1.toNat + 4 * b2.toNat)

def ClassEntry.bytes (c : ClassEntry) : List Byte := [count8 c.threshold, flagByte c.supplySensitive c.snapshot false]

def Channel.bytes (ch : Channel) : List Byte :=
  count16 ch.scale ++ count24 ch.low ++ count24 ch.high ++ count24 ch.offLevel
    ++ [count8 ch.dwell, flagByte ch.windowFlag ch.rampFlag ch.offFlag]

def Stage.bytes (st : Stage) : List Byte := be16 st.code ++ count16 st.maxWait

/-- The fields of the image from the length on, without the CRC. -/
def Profile.imageBody (p : Profile) : List Byte :=
  count16 (187 + 4 * p.stages.length) ++ [1#8] ++ be16 p.profileTag ++ count16 p.allowance ++ [count8 p.weight] ++ count16 p.duration
    ++ [count8 p.cycles] ++ count16 p.onTime ++ count16 p.offTime ++ count16 p.drainTimeout ++ count16 p.window ++ count16 p.holdOff
    ++ [count8 p.quorum] ++ count16 p.rearm ++ [flagByte p.stopOnFail false false, count8 p.suspectLimit] ++ count24 p.tripLimit
    ++ [count8 p.tripDwell] ++ count24 p.sagThreshold ++ [count8 p.sagDwell] ++ count16 p.sagHysteresis
    ++ [count8 p.baudCode, p.leadByte] ++ be16 p.identityCode ++ be16 p.pulseCode ++ count16 p.pulseInterval
    ++ count16 p.errorLow ++ count16 p.errorHigh ++ [count8 p.preRounds, count8 p.postRounds]
    ++ be32 (p.watchPreset.extractLsb' 32 32) ++ be32 (p.watchPreset.extractLsb' 0 32)
    ++ p.classes.flatMap ClassEntry.bytes ++ p.channels.toList.flatMap Channel.bytes
    ++ [count8 p.stageCount] ++ p.stages.flatMap Stage.bytes

/-- The image with its CRC, which has no bytes beyond those the fields need. -/
def Profile.image (p : Profile) : List Byte := p.imageBody ++ be16 (crc16 p.imageBody)

/-! ### The clamps (R180) -/

/-- To the nearer bound of a range. -/
def clampTo (low high v : Nat) : Nat := max low (min v high)

def ClassEntry.clamp (c : ClassEntry) : ClassEntry := { c with threshold := min c.threshold 15 }

/-- Scale and dwell at least 1; low and high swapped when low > high. -/
def Channel.clamp (ch : Channel) : Channel :=
  { ch with scale := max ch.scale 1, dwell := max ch.dwell 1, low := min ch.low ch.high, high := max ch.low ch.high }

def Stage.clamp (st : Stage) : Stage := { st with maxWait := max st.maxWait 1 }

/-- 1..99 → 100; above 60000 → 60000. -/
def clampPulse (v : Nat) : Nat := if v = 0 then 0 else clampTo 100 60000 v

/-- E_hi → E_lo + 4095 when E_hi ≥ E_lo + 4096. -/
def clampErrorHigh (low high : Nat) : Nat := if low + 4096 ≤ high then low + 4095 else high

/-- Every field brought into its range, in the table's order: w against the clamped A, P2 after P1 (R180). -/
def Profile.clamp (p : Profile) : Profile :=
  { p with
    allowance := clampTo 1 4095 p.allowance
    weight := clampTo 1 (clampTo 1 4095 p.allowance) p.weight
    duration := clampTo 50 10000 p.duration
    cycles := max p.cycles 1
    onTime := max p.onTime 10
    offTime := max p.offTime 1
    drainTimeout := clampTo 100 10000 p.drainTimeout
    window := clampTo 1 4000 p.window
    holdOff := min p.holdOff 1000
    quorum := clampTo 1 31 p.quorum
    rearm := min p.rearm 60000
    suspectLimit := max p.suspectLimit 1
    tripDwell := max p.tripDwell 1
    sagDwell := max p.sagDwell 1
    sagHysteresis := min p.sagHysteresis 5000
    baudCode := if 5 < p.baudCode then 3 else p.baudCode
    pulseInterval := clampPulse p.pulseInterval
    errorHigh := clampErrorHigh p.errorLow p.errorHigh
    preRounds := min p.preRounds 192
    postRounds := min (min p.postRounds 192) (256 - min p.preRounds 192)
    classes := p.classes.map ClassEntry.clamp
    channels := p.channels.map Channel.clamp
    stageCount := min p.stageCount 16
    stages := p.stages.map Stage.clamp }

/-! ### The refusal checks on an image (R179) -/

/-- Checks 3, 4 and 5; checks 1 and 2 are made before the image is read. -/
def imageGood (l : List Byte) : Bool :=
  decide (crc16 (l.take (l.length - 2)) = wordAt l (l.length - 2)) && decide (nat8At l 2 = 1)
    && decide (187 + 4 * stagesRead l ≤ l.length)

/-! ### Outcomes (R17) -/

/-- A load is refused: no field applied, PROFILE_BAD set, PROFILE_CLAMPED cleared (R17, R179). -/
def State.loadRefused (s : State) : State :=
  ((s.setLoad .idle).putCondition .profileClamped false).setCondition .profileBad

/-- The rail monitor when a profile load succeeds (R98). -/
def RailMonitor.armed (m : RailMonitor) : RailMonitor :=
  { m with watch := Eight.all ChannelWatch.initial, tripCount := 0, sag := .armed 0 }

/-- The clamped fields become the profile, valid at one instant, and the run state READY (R17, R178). -/
def State.profileApplied (p : Profile) (s : State) : State :=
  (((s.setLoad .idle).setProfile (some p)).setRail s.rail.armed).setRun { s.run with state := .ready }

/-- A load is accepted: PROFILE_BAD cleared; PROFILE_CLAMPED set when a field was changed, and cleared otherwise (R17, R180). -/
def State.loadAccepted (raw : Profile) (s : State) : State :=
  let s := (s.profileApplied raw.clamp).putCondition .profileBad false
  if raw.clamp = raw then s.putCondition .profileClamped false else s.setCondition .profileClamped

/-- PROFILE_HEADER_READ_END: the image read begins if the length passes its range check (R178, R179). -/
def State.profileHeaderReadEnd (hi lo : Byte) (s : State) : State :=
  match s.load with
  | .header =>
    let n := (word16 hi lo).toNat
    if 64 ≤ n ∧ n ≤ 512 then s.setLoad (.image n) else s.loadRefused
  | _ => s

/-- IMAGE_READ_END: the checks and the clamping of the whole image (R178, R179, R180). -/
def State.imageReadEnd (image : List Byte) (s : State) : State :=
  match s.load with
  | .image n =>
    if image.length = n then
      if imageGood image then s.loadAccepted (rawProfile image) else s.loadRefused
    else s
  | _ => s

/-- PROM_NO_ACKNOWLEDGE at either read of a load: the PROM is missing (R179). -/
def State.promNoAcknowledge (s : State) : State :=
  match s.load with
  | .idle => s
  | _ => s.loadRefused

end Sys2Proof.Machine
end

