-- ==== Sys2Proof/Machine/RunControl.lean ====
section
/-! DEFINITION. The run controller (chapter 1): panel inputs, start, abort, tray and fixture events, orders and lamps. -/

namespace Sys2Proof.Machine

/-! ### The panel and fixture inputs (R4, R5) -/

/-- A debounced input is due to change: its raw level has differed from its debounced state at 20 consecutive samples (R5). -/
def Debounce.due (d : Debounce) : Bool := decide (20 ≤ d.differing)

/-- The edge to a level is due (R5). -/
def Panel.edgeDue (x : Panel) (d : Debounce) (newLevel : Bool) : Bool := x.firstTaken && d.due && (d.level != newLevel)

/-- The edge is taken: the debounced level changes (R5). -/
def Debounce.flipped (d : Debounce) : Debounce := { d with level := !d.level, differing := 0 }

/-- One millisecond sample of an input; before the first state is taken only the raw level is kept (R4, R5). -/
def Debounce.sample (first raw : Bool) (d : Debounce) : Debounce :=
  { d with raw := raw, differing := if first && (raw != d.level) then d.differing + 1 else 0 }

/-- One millisecond sample of the three inputs (R5). The count of samples serves the first state and stops at 20. -/
def Panel.sample (i : PanelSample) (x : Panel) : Panel :=
  { x with
    samples := min (x.samples + 1) 20
    seat := x.seat.sample x.firstTaken i.seat
    button := x.button.sample x.firstTaken i.button
    fixture := x.fixture.sample x.firstTaken i.fixture }

/-- The first state of an input: the raw level of the 20th sample (R4). -/
def Debounce.first (d : Debounce) : Debounce := { level := d.raw, raw := d.raw, differing := 0 }

/-- The first states are due (R4). -/
def Panel.firstDue (x : Panel) : Bool := decide (20 ≤ x.samples) && !x.firstTaken

def Panel.takeFirst (x : Panel) : Panel :=
  { x with firstTaken := true, seat := x.seat.first, button := x.button.first, fixture := x.fixture.first }

def State.flipSeat (s : State) : State := s.setPanel { s.panel with seat := s.panel.seat.flipped }
def State.flipButton (s : State) : State := s.setPanel { s.panel with button := s.panel.button.flipped }
def State.flipFixture (s : State) : State := s.setPanel { s.panel with fixture := s.panel.fixture.flipped }

/-- A profile load starts with its header read; one in progress is abandoned (R17, R178). -/
def State.startLoad (s : State) : State := s.setLoad .header

/-- DEBOUNCE_FIRST_STATE: no edge; a fixture-present line that is high starts a load (R4). -/
def State.debounceFirstState (s : State) : State :=
  if s.panel.firstDue then
    let s := s.setPanel s.panel.takeFirst
    if s.panel.fixture.level then s.startLoad else s
  else s

/-! ### Order results -/

def State.setLastOrder (r : OrderResult) (s : State) : State := s.setRun { s.run with lastOrder := r }

/-! ### START (R7, R8) -/

/-- The run controller at an accepted START (R8). -/
def RunControl.started (now : Time) (r : RunControl) : RunControl :=
  { r with state := .running, verdict := .none, endReason := .none, startTime := now, endTime := 0#32, lastOrder := .accepted,
           conds := r.conds.runCleared }

/-- The run-scoped state of table, judge, store and listener cleared at an accepted START; the echo list is kept (R8, R114, R117, R148,
R163). -/
def State.clearForRun (p : Profile) (s : State) : State :=
  ((((s.setRun (s.run.started s.clock)).setTable { records := [], mask := p.watchPreset, firstLost := none }).setJudge
    { s.judge with occurrences := [], firstRefused := none }).setStore SnapshotStore.cleared).setLis
    { s.lis with trace := [], identity := none, stage := -1, stalled := [] }

/-- An accepted START: the clearing, and the sequencer to WAITING with cycle 1 (R8, R61, R64). -/
def State.acceptStart (p : Profile) (s : State) : State :=
  let s := s.clearForRun p
  (s.setSeq { s.seq with cycle := 1#8, done := 0#8, endRequest := .none }).enterWaiting p

/-- A START, from the button or in an ORDER (R7). -/
def State.takeStart (s : State) : State :=
  match s.run.state, s.profile with
  | .ready, some p => if s.panel.seat.level then s.acceptStart p else s.setLastOrder .refusedUnseated
  | .done, some p => if s.panel.seat.level then s.acceptStart p else s.setLastOrder .refusedUnseated
  | _, _ => s.setLastOrder .refusedState

/-! ### ABORT (R9) -/

/-- An accepted ABORT: ABORTED set, the sequencer on its abort path, and the open occurrences dropped (R9). -/
def State.acceptAbort (p : Profile) (s : State) : State :=
  (((s.setLastOrder .accepted).setCondition .aborted).dropOccurrences).takeAbort p

/-- An ABORT, from the button or in an ORDER (R9). -/
def State.takeAbortOrder (s : State) : State :=
  match s.run.state, s.profile with
  | .running, some p => s.acceptAbort p
  | _, _ => s.setLastOrder .refusedState

/-! ### The button (R6) -/

/-- What a press means in each run state (R6). -/
def State.pressed (s : State) : State :=
  match s.run.state with
  | .unconfigured => match s.load with | .idle => s.startLoad | _ => s
  | .ready => s.takeStart
  | .running => s.takeAbortOrder
  | .closing => s.takeStart
  | .done => s.takeStart

/-- BUTTON_PRESS (R5, R6). -/
def State.buttonPress (s : State) : State :=
  if s.panel.edgeDue s.panel.button true then s.flipButton.pressed else s

/-- BUTTON_RELEASE: no event of its own (R5). -/
def State.buttonRelease (s : State) : State := if s.panel.edgeDue s.panel.button false then s.flipButton else s

/-! ### The tray (R13 to R15) -/

/-- TRAY_SEATED: no state changes but the debounced switch (R15). The tray brings its own tag, whose bytes nothing has determined. -/
def State.traySeated (s : State) : State :=
  if s.panel.edgeDue s.panel.seat true then (s.flipSeat.setTag []).setOpenMarker none else s

/-- A removal in RUNNING abandons the run (R13, R76). -/
def State.abandonRun (s : State) : State :=
  let s := s.cutPower.dropOccurrences
  s.setRun { s.run with state := .ready, endTime := s.clock, endReason := .removed }

/-- What a removal does in each run state (R13, R14, R15). -/
def State.trayGone (s : State) : State :=
  match s.run.state with
  | .running => s.abandonRun
  | .closing => s.closingRemoval
  | .done => s.setRun { s.run with state := .ready }
  | .ready => s
  | .unconfigured => s

/-- TRAY_REMOVAL (R5, R13 to R15). -/
def State.trayRemoval (s : State) : State := if s.panel.edgeDue s.panel.seat false then s.flipSeat.trayGone else s

/-! ### The fixture (R16, R17) -/

/-- FIXTURE_FITTED: a load starts at once, in UNCONFIGURED (R17). -/
def State.fixtureFitted (s : State) : State :=
  if s.panel.edgeDue s.panel.fixture true then
    match s.run.state with
    | .unconfigured => s.flipFixture.startLoad
    | _ => s.flipFixture
  else s

/-- The listener after a fixture change (R114). -/
def Listener.cleared (l : Listener) : Listener :=
  { l with idleFlag := false, parser := .hunt, gapDeadline := none, trace := [], identity := none, stage := -1, stalled := [],
           awaitDeadline := none, pulseDeadline := none }

/-- The rail monitor after a fixture change (R95, R97, R98). -/
def RailMonitor.cleared (m : RailMonitor) : RailMonitor := { m.armed with ring := [] }

/-- The run controller after a fixture change (R16). The run times become 0, as the clearing leaves no run (log entry 11). -/
def RunControl.unconfigure (r : RunControl) : RunControl :=
  { r with state := .unconfigured, verdict := .none, endReason := .none, startTime := 0#32, endTime := 0#32,
           conds := r.conds.runCleared }

/-- Everything that depends on the fixture is stopped and cleared (R16, R77, R117, R148, R164, R178). -/
def State.fixtureGone (s : State) : State :=
  let s := (s.cutPower.setLoad .idle).closingAbandoned
  let s := (s.setRun s.run.unconfigure).setProfile none
  let s := s.setSeq { s.seq with cycle := 0#8, done := 0#8, endRequest := .none }
  let s := (s.setTable { records := [], mask := 0#64, firstLost := none }).setJudge { echoes := [], occurrences := [], firstRefused := none }
  ((s.setStore SnapshotStore.cleared).setRail s.rail.cleared).setLis s.lis.cleared

/-- FIXTURE_CHANGE (R5, R16). -/
def State.fixtureChange (s : State) : State := if s.panel.edgeDue s.panel.fixture false then s.flipFixture.fixtureGone else s

/-! ### QUERY, FETCH and unknown operations (R158, R182) -/

/-- A STATUS in reply to an order (R182). -/
def State.reply (source : Byte) (s : State) : State := (s.handNotice (Notice.fresh (.status false none) source s.clock)).1

/-- A FETCH that the store cannot serve: its result, REFUSED_STATE, and a STATUS to the source (R158). -/
def State.fetchRefused (r : FetchResult) (source : Byte) (s : State) : State :=
  ((s.setStore { s.store with fetchResult := r }).setLastOrder .refusedState).reply source

/-- A FETCH of a slot 0..7 at the snapshot store: a readout in progress ends first (R158). -/
def State.fetchSlot (slot : Nat) (source : Byte) (s : State) : State :=
  let s := s.setStore s.store.endReadout
  match s.store.slots.get slot with
  | none => s.fetchRefused .empty source
  | some x =>
    if x.complete then
      (s.setStore { (s.store.readRequest { slot := slot, target := source, offset := 0, stage := .reading 0 }) with
        fetchResult := .reading }).setLastOrder .accepted
    else s.fetchRefused .busy source

/-- A FETCH taken by the run controller: a slot above 7 is a bad argument (R182). -/
def State.takeFetch (source arg : Byte) (s : State) : State :=
  if arg.toNat ≤ 7 then s.fetchSlot arg.toNat source else (s.setLastOrder .badArgument).reply source

/-- UNKNOWN_OPERATION: operations 1..4 are the other rows' (R182). -/
def State.takeUnknown (op : Byte) (s : State) : State :=
  if op.toNat = 0 ∨ 5 ≤ op.toNat then s.setLastOrder .badArgument else s

/-! ### Lamps, as the panel shows them (R18, R19) -/

/-- A lamp. -/
inductive Lamp
  | dark | lit | blinking
  deriving DecidableEq, Repr

/-- The RUN lamp (R18). -/
def State.runLamp (s : State) : Lamp :=
  match s.run.state with
  | .running => .lit
  | .closing => .blinking
  | _ => .dark

/-- The DONE lamp (R18). -/
def State.doneLamp (s : State) : Lamp :=
  match s.run.state, s.run.verdict with
  | .done, .pass => .lit
  | .done, .none => .dark
  | .done, _ => .blinking
  | _, _ => .dark

/-- The FAULT lamp (R19). -/
def State.faultLamp (s : State) : Lamp :=
  if s.run.conds.idClash || s.run.conds.profileBad then .blinking
  else if s.table.records.any (fun r => decide (0 < r.localCount)) then .lit else .dark

/-- Whether a lamp gives light: a blinking one while the clock divided by 500, rounded down, is even (R18). -/
def Lamp.shines (now : Time) : Lamp → Bool
  | .dark => false
  | .lit => true
  | .blinking => decide (now.toNat / 500 % 2 = 0)

end Sys2Proof.Machine
end

