-- ==== Sys2Proof/Machine/LineEvents.lean ====
section
/-! DEFINITION. The line events that other blocks hear of: the completion of an attempt, the end of a jam, and a received frame that
reaches no consumer (R27, R30 to R33, R38, R41 to R43). -/

namespace Sys2Proof.Machine

/-! ### Departures -/

/-- A non-step notice has left the queue: the run controller is told for the alert, and the snapshot store of a DETAIL, one after the
other in the order given (R38, R184). -/
def State.departed (n : Notice) (alertFirst : Bool) (s : State) : State :=
  if n.isStep then s
  else if n.isDetail then if alertFirst then s.alertOnDeparture.detailDeparted else s.detailDeparted.alertOnDeparture
  else s.alertOnDeparture

/-- The head of the queue leaves it, and the transmit side goes on to DEFER or IDLE (R24). -/
def State.headLeaves (s : State) : State := s.setPort s.port.leave.resume

/-- A dropped notice has left the queue: NOTICE_DROPPED is set, and the departure is told; of a DETAIL's next piece and the alert that the
condition or the departure hands, the given one is handed first (R33, R35, R184). -/
def State.dropReported (n : Notice) (alertFirst : Bool) (s : State) : State :=
  if n.isDetail && !alertFirst then (s.detailDeparted.setCondition .noticeDropped).alertOnDeparture
  else (s.setCondition .noticeDropped).departed n alertFirst

/-! ### Completion (R27) -/

/-- The notice is sent: the end of the own carrier, the departure, and the reports of R38. -/
def State.sent (endAt : Nat) (n : Notice) (alertFirst : Bool) (s : State) : State :=
  let s := (s.setPort (s.port.ownCarrierEnds endAt)).headLeaves
  if n.isClaim then s.claimCompleted else s.departed n alertFirst

/-- ATTEMPT_COMPLETION: the last bit of the frame has been driven (R22, R27). -/
def State.attemptCompletion (bt : Nat) (alertFirst : Bool) (s : State) : State :=
  match s.port.tx, s.port.queue with
  | .send since frame, n :: _ => if since + frameBits frame ≤ bt then s.sent (since + frameBits frame) n alertFirst else s
  | _, _ => s

/-! ### The end of a jam (R30) -/

/-- The attempt limit (R30). -/
def attemptLimit : Nat := 12

/-- BACKOFF of k slot times from the end of the jam; k = 0 ends it at once (R31). -/
def LinePort.backOff (jamEnd k : Nat) (p : LinePort) : LinePort :=
  { p with tx := if k = 0 then .defer else .backoff (jamEnd + slotBits * k) }

/-- The current notice with its attempt count replaced. -/
def LinePort.setAttempts (n : Notice) (rest : List Notice) (count : Nat) (p : LinePort) : LinePort :=
  { p with queue := { n with attempts := count } :: rest }

/-- The end of a jam for the current notice: a cancelled CLAIM is removed (R37); at the limit a non-step notice is dropped (R33) and a
step notice draws 8 bits and starts its count again (R32); otherwise min(n, 8) bits are drawn (R31). -/
def State.jamOver (endAt : Nat) (n : Notice) (rest : List Notice) (alertFirst : Bool) (s : State) : State :=
  let s := s.setPort (s.port.ownCarrierEnds endAt)
  if n.isClaim && s.port.cancelAsked then s.headLeaves.claimCancelled
  else if attemptLimit ≤ n.attempts + 1 then
    if n.isStep then s.setPort ((s.port.setAttempts n rest 0).backOff endAt (s.draw 8))
    else s.headLeaves.dropReported n alertFirst
  else s.setPort ((s.port.setAttempts n rest (n.attempts + 1)).backOff endAt (s.draw (min (n.attempts + 1) 8)))

/-- JAM_END: 16 bit times after the attempt was stopped (R30). -/
def State.jamEnd (bt : Nat) (alertFirst : Bool) (s : State) : State :=
  match s.port.tx, s.port.queue with
  | .jam endsAt, n :: rest => if endsAt ≤ bt then s.jamOver endsAt n rest alertFirst else s
  | _, _ => s

/-! ### A frame that reaches no consumer (R41, R42, R43) -/

/-- FRAME_DISCARDED: a frame that fails a check of R41, or a good one that R43 hands to no block, changes nothing; a good one that carries
the own ID as source sets ID_CLASH (R42). -/
def State.frameDiscarded (frame : ReceivedFrame) (s : State) : State :=
  if s.hears frame.sync && frameGood frame.bytes frame.insideByte && (byteAt frame.bytes 1 == s.ownId) then s.setCondition .idClash else s

end Sys2Proof.Machine
end

