-- ==== Sys2Proof/Machine/Clock.lean ====
section
/-! DEFINITION. The soak clock's counts (R2): the round that each count has, what is still due when a count ends, and the next count. -/

namespace Sys2Proof.Machine

/-! ### What is due at a count (R3, R5) -/

/-- The events that a count of the soak clock brings: edges of the debounced inputs and timers that run out. -/
inductive Due
  | firstState | fixtureChange | fixtureFitted | trayRemoval | traySeated | buttonPress | buttonRelease
  | entryExpiry | holdEnd | rampDeadline | onTimeDeadline | drainDeadline | offTimeDeadline
  | gapDeadline | awaitedStageDeadline | pulseDeadline | occurrenceClose | echoRemoval | pollTimeout
  deriving DecidableEq, Repr

/-- The order in which the end of a count takes what is still due; before it, commands may take them in any order (log entry 4). -/
def dueOrder : List Due :=
  [.firstState, .fixtureChange, .fixtureFitted, .trayRemoval, .traySeated, .buttonPress, .buttonRelease, .entryExpiry, .holdEnd,
    .rampDeadline, .onTimeDeadline, .drainDeadline, .offTimeDeadline, .gapDeadline, .awaitedStageDeadline, .pulseDeadline,
    .occurrenceClose, .echoRemoval, .pollTimeout]

/-- A hold that has run out in HELD (R55). -/
def State.holdDue (s : State) : Bool :=
  match s.claim.state with
  | .held d => s.profile.isSome && expired s.clock d
  | _ => false

/-- The first roster entry that has reached its expiry (R47). -/
def State.expiredEntry (s : State) : Option RosterEntry := s.claim.roster.find? (fun e => expired s.clock e.expiry)

/-- The oldest open occurrence has reached its close time (R144). -/
def State.closeDue (s : State) : Bool :=
  s.profile.isSome && (match s.judge.occurrences with | o :: _ => expired s.clock o.closeTime | [] => false)

/-- Some stored echo is past its retention (R139). -/
def State.echoDue (s : State) : Bool :=
  match s.profile with
  | some p => s.judge.echoes.any (fun e => !e.retained p s.clock)
  | none => false

/-- The poll deadline has run out (R173). -/
def State.pollDue (s : State) : Bool :=
  match s.closing with
  | .write w => s.profile.isSome && expiredOpt s.clock w.poll
  | _ => false

/-- Whether an event is due now. -/
def Due.holds (s : State) : Due → Bool
  | .firstState => s.panel.firstDue
  | .fixtureChange => s.panel.edgeDue s.panel.fixture false
  | .fixtureFitted => s.panel.edgeDue s.panel.fixture true
  | .trayRemoval => s.panel.edgeDue s.panel.seat false
  | .traySeated => s.panel.edgeDue s.panel.seat true
  | .buttonPress => s.panel.edgeDue s.panel.button true
  | .buttonRelease => s.panel.edgeDue s.panel.button false
  | .entryExpiry => s.expiredEntry.isSome
  | .holdEnd => s.holdDue
  | .rampDeadline => s.profile.isSome && (s.seq.phase == .ramp) && expiredOpt s.clock s.seq.rampDeadline
  | .onTimeDeadline => s.profile.isSome && s.seq.phase.runs && expiredOpt s.clock s.seq.onDeadline
  | .drainDeadline => s.profile.isSome && (s.seq.phase == .drain) && expiredOpt s.clock s.seq.drainDeadline
  | .offTimeDeadline => s.profile.isSome && (s.seq.phase == .rest) && expiredOpt s.clock s.seq.offDeadline
  | .gapDeadline => expiredOpt s.clock s.lis.gapDeadline
  | .awaitedStageDeadline => s.profile.isSome && expiredOpt s.clock s.lis.awaitDeadline
  | .pulseDeadline => s.profile.isSome && (s.seq.phase == .stress) && expiredOpt s.clock s.lis.pulseDeadline
  | .occurrenceClose => s.closeDue
  | .echoRemoval => s.echoDue
  | .pollTimeout => s.pollDue

/-- The event is taken, by the same operation as the command of its name. -/
def Due.take (s : State) : Due → State
  | .firstState => s.debounceFirstState
  | .fixtureChange => s.fixtureChange
  | .fixtureFitted => s.fixtureFitted
  | .trayRemoval => s.trayRemoval
  | .traySeated => s.traySeated
  | .buttonPress => s.buttonPress
  | .buttonRelease => s.buttonRelease
  | .entryExpiry => match s.expiredEntry with | some e => s.entryExpiry e.source | none => s
  | .holdEnd => s.holdEnd
  | .rampDeadline => s.rampDeadlineOut
  | .onTimeDeadline => s.onTimeOut
  | .drainDeadline => s.drainDeadlineOut
  | .offTimeDeadline => s.offTimeOut
  | .gapDeadline => s.gapDeadlineOut
  | .awaitedStageDeadline => s.awaitedStageOut
  | .pulseDeadline => s.pulseDeadlineOut
  | .occurrenceClose => s.occurrenceClose
  | .echoRemoval => s.echoRemoval
  | .pollTimeout => s.pollTimeout

/-- Everything still due is taken, one event after another, up to a number that no reachable count comes near. -/
def State.settle : Nat → State → State
  | 0, s => s
  | n + 1, s =>
    match dueOrder.find? (fun d => d.holds s) with
    | some d => State.settle n (d.take s)
    | none => s

/-- The number of events that the end of one count can take (log entry 4). -/
def settleLimit : Nat := 128

/-! ### Counts and rounds -/

/-- A count ends with nothing left due, and the soak clock rises by one (R2, R3). -/
def State.nextCount (s : State) : State :=
  let s := s.settle settleLimit
  (s.setClock (s.clock + 1#32)).setRoundTaken false

/-- The count that a round belongs to: the one in hand, or the next where this one's round has been taken (R2, R80). -/
def State.countForRound (s : State) : State := if s.roundTaken then s.nextCount else s

/-- The panel sample and the round's mark, and a write of the capture engine that ends before the round (R5, R154, R155). -/
def State.roundBegun (i : PanelSample) (s : State) : State :=
  ((s.setPanel (s.panel.sample i)).setStore s.store.writesEnded).setRoundTaken true

/-- ROUND: the panel sample and the conversions of one count (R2, R5, R80). -/
def State.takeRound (inputs : Eight Int) (i : PanelSample) (tripFirst : Bool) (s : State) : State :=
  (s.countForRound.roundBegun i).roundHandled (inputs.map convert) tripFirst

end Sys2Proof.Machine
end

