-- ==== Sys2Proof/Machine/CommandsLineTimes.lean ====
section
/-! DEFINITION. The events on the rack line and in the line port's own timing (chapter 2): the meanings of the commands. -/

namespace Sys2Proof.Machine

/-- CARRIER_APPEARS (R25, R26). -/
def execCarrierAppears (bt : Nat) (s : State) : Host.Outcome State Fault Refusal :=
  .next (s.onLine (LinePort.carrierAppears bt))

/-- END_OF_CARRIER (R25). -/
def execEndOfCarrier (bt : Nat) (s : State) : Host.Outcome State Fault Refusal :=
  .next (s.onLine (LinePort.endOfCarrier bt))

/-- QUIET_GAP_END (R24). -/
def execQuietGapEnd (bt : Nat) (s : State) : Host.Outcome State Fault Refusal :=
  .next (s.quietGapEnd bt)

/-- COLLISION (R27, R30). -/
def execCollision (bt : Nat) (s : State) : Host.Outcome State Fault Refusal :=
  .next (s.collision bt)

/-- ATTEMPT_COMPLETION (R27). -/
def execAttemptCompletion (bt : Nat) (alertFirst : Bool) (s : State) : Host.Outcome State Fault Refusal :=
  .next (s.attemptCompletion bt alertFirst)

/-- JAM_END (R30). -/
def execJamEnd (bt : Nat) (alertFirst : Bool) (s : State) : Host.Outcome State Fault Refusal :=
  .next (s.jamEnd bt alertFirst)

/-- BACKOFF_END (R31). -/
def execBackoffEnd (bt : Nat) (s : State) : Host.Outcome State Fault Refusal :=
  .next (s.backoffEnd bt)

/-- BACKOFF_GENERATOR_ADVANCE (R28). -/
def execBackoffGeneratorAdvance (bt : Nat) (s : State) : Host.Outcome State Fault Refusal :=
  .next (s.advanceGenerator bt)

end Sys2Proof.Machine
end

