-- ==== Sys2Proof/Machine/CommandsNotices.lean ====
section
/-! DEFINITION. The peers' notices (R45, R46, R136, R137), after the line port's checks (R41 to R43): the meanings of the commands. -/

namespace Sys2Proof.Machine

/-- CLAIM (R45); the roster keeps no cycle (R44). -/
def execClaim (h : Header) (weight : Byte) (duration : BitVec 16) (_cycle : Byte) (s : State) : Host.Outcome State Fault Refusal :=
  .next (s.received h false (fun s => s.takeClaim h weight duration))

/-- WITHDRAW (R46). -/
def execWithdraw (h : Header) (s : State) : Host.Outcome State Fault Refusal :=
  .next (s.received h false (fun s => s.takeRelease h))

/-- SETTLED: whatever its outcome, the entry goes (R46). -/
def execSettled (h : Header) (_outcome : Byte) (s : State) : Host.Outcome State Fault Refusal :=
  .next (s.received h false (fun s => s.takeRelease h))

/-- SIGHTING (R136). -/
def execSighting (h : Header) (sig : Sig) (_cycle _phase : Byte) (s : State) : Host.Outcome State Fault Refusal :=
  .next (s.received h false (fun s => s.takeSighting h sig))

/-- SAG: passed to the claim logic (R56), then admitted, matched and offered for storage (R137). -/
def execSag (h : Header) (_bus : BitVec 16) (s : State) : Host.Outcome State Fault Refusal :=
  .next (s.received h false (fun s => s.claimSag.judgeSag h))

/-- FRAME_DISCARDED (R41 to R43). -/
def execFrameDiscarded (frame : ReceivedFrame) (s : State) : Host.Outcome State Fault Refusal :=
  .next (s.frameDiscarded frame)

end Sys2Proof.Machine
end

