-- ==== Sys2Proof/Machine/CommandsOrders.lean ====
section
/-! DEFINITION. The orders (R7, R9, R158, R182), after the line port's checks (R41 to R43): the meanings of the commands. -/

namespace Sys2Proof.Machine

/-- START (R7, R8); the argument is ignored (R182). -/
def execStart (h : Header) (_arg : Byte) (s : State) : Host.Outcome State Fault Refusal :=
  .next (s.received h true State.takeStart)

/-- ABORT (R9); the argument is ignored (R182). -/
def execAbort (h : Header) (_arg : Byte) (s : State) : Host.Outcome State Fault Refusal :=
  .next (s.received h true State.takeAbortOrder)

/-- QUERY: a STATUS to the source (R182). -/
def execQuery (h : Header) (_arg : Byte) (s : State) : Host.Outcome State Fault Refusal :=
  .next (s.received h true (fun s => s.reply h.source))

/-- FETCH (R158, R182). -/
def execFetch (h : Header) (arg : Byte) (s : State) : Host.Outcome State Fault Refusal :=
  .next (s.received h true (fun s => s.takeFetch h.source arg))

/-- UNKNOWN_OPERATION (R182). -/
def execUnknownOperation (h : Header) (op _arg : Byte) (s : State) : Host.Outcome State Fault Refusal :=
  .next (s.received h true (fun s => s.takeUnknown op))

end Sys2Proof.Machine
end

