-- ==== Sys2Proof/Machine/CommandsPanel.lean ====
section
/-! DEFINITION. Power-on reset, the panel and the fixture (chapter 1): the meanings of the commands. -/

namespace Sys2Proof.Machine

/-- POWER_ON_RESET: every block in its power-on state, with the ID that the straps give (R4, R20). The commands that wait and the
count of free values drawn are the model's own, and stay. -/
def execPowerOnReset (straps : BitVec 5) (s : State) : Host.Outcome State Fault Refusal :=
  .next (((State.powerOn straps).setPending s.pending).setFreeIndex s.freeIndex)

/-- DEBOUNCE_FIRST_STATE (R4). -/
def execDebounceFirstState (s : State) : Host.Outcome State Fault Refusal :=
  .next (s.debounceFirstState)

/-- BUTTON_PRESS (R6). -/
def execButtonPress (s : State) : Host.Outcome State Fault Refusal :=
  .next (s.buttonPress)

/-- BUTTON_RELEASE (R5). -/
def execButtonRelease (s : State) : Host.Outcome State Fault Refusal :=
  .next (s.buttonRelease)

/-- TRAY_SEATED (R15). -/
def execTraySeated (s : State) : Host.Outcome State Fault Refusal :=
  .next (s.traySeated)

/-- TRAY_REMOVAL (R13 to R15). -/
def execTrayRemoval (s : State) : Host.Outcome State Fault Refusal :=
  .next (s.trayRemoval)

/-- FIXTURE_FITTED (R17). -/
def execFixtureFitted (s : State) : Host.Outcome State Fault Refusal :=
  .next (s.fixtureFitted)

/-- FIXTURE_CHANGE (R16). -/
def execFixtureChange (s : State) : Host.Outcome State Fault Refusal :=
  .next (s.fixtureChange)

end Sys2Proof.Machine
end

