-- ==== Sys2Proof/Machine/CommandsProms.lean ====
section
/-! DEFINITION. The snapshot store's transfers, the tray tag and the profile load (chapters 9, 10, 11): the meanings of the commands. -/

namespace Sys2Proof.Machine

/-- PRE_SEGMENT_WRITE_END (R154). -/
def execPreSegmentWriteEnd (s : State) : Host.Outcome State Fault Refusal :=
  .next (s.setStore s.store.preWriteEnd)

/-- POST_ROUND_WRITE_END (R155). -/
def execPostRoundWriteEnd (s : State) : Host.Outcome State Fault Refusal :=
  .next (s.setStore s.store.postWriteEnd)

/-- PIECE_READ_END (R159). -/
def execPieceReadEnd (s : State) : Host.Outcome State Fault Refusal :=
  .next (s.pieceReadEnd)

/-- SLOT_HEADER_READ_END (R170). -/
def execSlotHeaderReadEnd (slots : SlotHeaders) (s : State) : Host.Outcome State Fault Refusal :=
  .next (s.slotHeaderReadEnd slots)

/-- TAG_WRITE_END (R173). -/
def execTagWriteEnd (s : State) : Host.Outcome State Fault Refusal :=
  .next (s.tagWriteEnd)

/-- POLL_ACKNOWLEDGE (R173). -/
def execPollAcknowledge (s : State) : Host.Outcome State Fault Refusal :=
  .next (s.pollAcknowledge)

/-- POLL_TIMEOUT (R173). -/
def execPollTimeout (s : State) : Host.Outcome State Fault Refusal :=
  .next (s.pollTimeout)

/-- TAG_NO_ACKNOWLEDGE (R12). -/
def execTagNoAcknowledge (atStart : Bool) (s : State) : Host.Outcome State Fault Refusal :=
  .next (s.tagNoAcknowledge atStart)

/-- PROFILE_HEADER_READ_END (R178). -/
def execProfileHeaderReadEnd (hi lo : Byte) (s : State) : Host.Outcome State Fault Refusal :=
  .next (s.profileHeaderReadEnd hi lo)

/-- IMAGE_READ_END (R178). -/
def execImageReadEnd (image : List Byte) (s : State) : Host.Outcome State Fault Refusal :=
  .next (s.imageReadEnd image)

/-- PROM_NO_ACKNOWLEDGE (R179). -/
def execPromNoAcknowledge (s : State) : Host.Outcome State Fault Refusal :=
  .next (s.promNoAcknowledge)

end Sys2Proof.Machine
end

