-- ==== Sys2Proof/Machine/CommandsService.lean ====
section
/-! DEFINITION. The rounds of the rail monitor and the events of the board's service UART (chapters 5 and 6): the meanings of the commands. -/

namespace Sys2Proof.Machine

/-- ROUND (R80). -/
def execRound (inputs : Eight Int) (panel : PanelSample) (tripFirst : Bool) (s : State) : Host.Outcome State Fault Refusal :=
  .next (s.takeRound inputs panel tripFirst)

/-- BYTE_RECEIVED (R100). -/
def execByteReceived (b : Byte) (s : State) : Host.Outcome State Fault Refusal :=
  .next (s.byteReceived b)

/-- FRAMING_ERROR (R101). -/
def execFramingError (s : State) : Host.Outcome State Fault Refusal :=
  .next (s.framingError)

/-- IDLE_FLAG_SET (R100). -/
def execIdleFlagSet (s : State) : Host.Outcome State Fault Refusal :=
  .next (s.idleFlagSet)

/-- GAP_DEADLINE (R104). -/
def execGapDeadline (s : State) : Host.Outcome State Fault Refusal :=
  .next (s.gapDeadlineOut)

/-- AWAITED_STAGE_DEADLINE (R110). -/
def execAwaitedStageDeadline (s : State) : Host.Outcome State Fault Refusal :=
  .next (s.awaitedStageOut)

/-- PULSE_DEADLINE (R112). -/
def execPulseDeadline (s : State) : Host.Outcome State Fault Refusal :=
  .next (s.pulseDeadlineOut)

end Sys2Proof.Machine
end

