-- ==== Sys2Proof/Machine/CommandsTimers.lean ====
section
/-! DEFINITION. The soak-clock timers of claims, phases and judgement (chapters 3, 4, 8): the meanings of the commands. -/

namespace Sys2Proof.Machine

/-- HOLD_END (R55). -/
def execHoldEnd (s : State) : Host.Outcome State Fault Refusal :=
  .next (s.holdEnd)

/-- ENTRY_EXPIRY (R47). -/
def execEntryExpiry (source : Byte) (s : State) : Host.Outcome State Fault Refusal :=
  .next (s.entryExpiry source)

/-- RAMP_DEADLINE (R67). -/
def execRampDeadline (s : State) : Host.Outcome State Fault Refusal :=
  .next (s.rampDeadlineOut)

/-- ON_TIME_DEADLINE (R70). -/
def execOnTimeDeadline (s : State) : Host.Outcome State Fault Refusal :=
  .next (s.onTimeOut)

/-- DRAIN_DEADLINE (R72). -/
def execDrainDeadline (s : State) : Host.Outcome State Fault Refusal :=
  .next (s.drainDeadlineOut)

/-- OFF_TIME_DEADLINE (R73). -/
def execOffTimeDeadline (s : State) : Host.Outcome State Fault Refusal :=
  .next (s.offTimeOut)

/-- OCCURRENCE_CLOSE (R144). -/
def execOccurrenceClose (s : State) : Host.Outcome State Fault Refusal :=
  .next (s.occurrenceClose)

/-- ECHO_REMOVAL (R139). -/
def execEchoRemoval (s : State) : Host.Outcome State Fault Refusal :=
  .next (s.echoRemoval)

end Sys2Proof.Machine
end

