-- ==== Sys2Proof/Machine/Dispatch.lean ====
section
/-! DEFINITION. One arm for each command. -/

namespace Sys2Proof.Machine

def exec (i : Instr) (s : State) : Host.Outcome State Fault Refusal :=
  match i with
  | .powerOnReset straps => Sys2Proof.Machine.execPowerOnReset straps s
  | .debounceFirstState => Sys2Proof.Machine.execDebounceFirstState s
  | .buttonPress => Sys2Proof.Machine.execButtonPress s
  | .traySeated => Sys2Proof.Machine.execTraySeated s
  | .trayRemoval => Sys2Proof.Machine.execTrayRemoval s
  | .fixtureFitted => Sys2Proof.Machine.execFixtureFitted s
  | .fixtureChange => Sys2Proof.Machine.execFixtureChange s
  | .start h arg => Sys2Proof.Machine.execStart h arg s
  | .abort h arg => Sys2Proof.Machine.execAbort h arg s
  | .query h arg => Sys2Proof.Machine.execQuery h arg s
  | .fetch h arg => Sys2Proof.Machine.execFetch h arg s
  | .unknownOperation h op arg => Sys2Proof.Machine.execUnknownOperation h op arg s
  | .claim h weight duration cycle => Sys2Proof.Machine.execClaim h weight duration cycle s
  | .withdraw h => Sys2Proof.Machine.execWithdraw h s
  | .settled h outcome => Sys2Proof.Machine.execSettled h outcome s
  | .sighting h sig cycle phase => Sys2Proof.Machine.execSighting h sig cycle phase s
  | .sag h bus => Sys2Proof.Machine.execSag h bus s
  | .frameDiscarded frame => Sys2Proof.Machine.execFrameDiscarded frame s
  | .carrierAppears bt => Sys2Proof.Machine.execCarrierAppears bt s
  | .endOfCarrier bt => Sys2Proof.Machine.execEndOfCarrier bt s
  | .quietGapEnd bt => Sys2Proof.Machine.execQuietGapEnd bt s
  | .collision bt => Sys2Proof.Machine.execCollision bt s
  | .attemptCompletion bt alertFirst => Sys2Proof.Machine.execAttemptCompletion bt alertFirst s
  | .jamEnd bt alertFirst => Sys2Proof.Machine.execJamEnd bt alertFirst s
  | .backoffEnd bt => Sys2Proof.Machine.execBackoffEnd bt s
  | .holdEnd => Sys2Proof.Machine.execHoldEnd s
  | .entryExpiry source => Sys2Proof.Machine.execEntryExpiry source s
  | .round inputs panel tripFirst => Sys2Proof.Machine.execRound inputs panel tripFirst s
  | .rampDeadline => Sys2Proof.Machine.execRampDeadline s
  | .onTimeDeadline => Sys2Proof.Machine.execOnTimeDeadline s
  | .drainDeadline => Sys2Proof.Machine.execDrainDeadline s
  | .offTimeDeadline => Sys2Proof.Machine.execOffTimeDeadline s
  | .byteReceived b => Sys2Proof.Machine.execByteReceived b s
  | .framingError => Sys2Proof.Machine.execFramingError s
  | .gapDeadline => Sys2Proof.Machine.execGapDeadline s
  | .awaitedStageDeadline => Sys2Proof.Machine.execAwaitedStageDeadline s
  | .pulseDeadline => Sys2Proof.Machine.execPulseDeadline s
  | .occurrenceClose => Sys2Proof.Machine.execOccurrenceClose s
  | .echoRemoval => Sys2Proof.Machine.execEchoRemoval s
  | .preSegmentWriteEnd => Sys2Proof.Machine.execPreSegmentWriteEnd s
  | .postRoundWriteEnd => Sys2Proof.Machine.execPostRoundWriteEnd s
  | .pieceReadEnd => Sys2Proof.Machine.execPieceReadEnd s
  | .slotHeaderReadEnd slots => Sys2Proof.Machine.execSlotHeaderReadEnd slots s
  | .tagWriteEnd => Sys2Proof.Machine.execTagWriteEnd s
  | .pollAcknowledge => Sys2Proof.Machine.execPollAcknowledge s
  | .pollTimeout => Sys2Proof.Machine.execPollTimeout s
  | .tagNoAcknowledge atStart => Sys2Proof.Machine.execTagNoAcknowledge atStart s
  | .profileHeaderReadEnd hi lo => Sys2Proof.Machine.execProfileHeaderReadEnd hi lo s
  | .imageReadEnd image => Sys2Proof.Machine.execImageReadEnd image s
  | .promNoAcknowledge => Sys2Proof.Machine.execPromNoAcknowledge s
  | .backoffGeneratorAdvance bt => Sys2Proof.Machine.execBackoffGeneratorAdvance bt s
  | .idleFlagSet => Sys2Proof.Machine.execIdleFlagSet s
  | .buttonRelease => Sys2Proof.Machine.execButtonRelease s

end Sys2Proof.Machine
end

