-- ==== Sys2Proof/Machine/Step.lean ====
section
/-! DEFINITION. One step: the command at the front of the queue, or, on an empty queue, the passing of a count. -/

namespace Sys2Proof.Machine

/-- On an empty queue the soak clock goes on: once this count's round has been taken the next count begins; until then the part waits for
it (log entry 3). -/
def State.idleStep (s : State) : State := if s.roundTaken then s.nextCount else s

/-- The command at the front is taken with the rest of the queue. -/
def step (s : State) : Host.Outcome State Fault Refusal :=
  match s.pending with
  | [] => .next s.idleStep
  | c :: rest => exec c (s.setPending rest)

/-- The state with the command that a word spells at the front of its queue; no word spells one. -/
def State.withFetchWord (s : State) (nbits w : Nat) : State :=
  match decodeTableWord nbits w with
  | some c => s.setPending (c :: s.pending)
  | none => s

end Sys2Proof.Machine
end

