-- ==== Sys2Proof/Machine/PromBus.lean ====
section
/-! DEFINITION. The PROM bus (R181): the operations that the tag and profile port has under way, and their sequences on the bus. -/

namespace Sys2Proof.Machine

/-- An operation of the tag and profile port (R181). -/
inductive BusOp
  | sequentialRead (device : Nat) (address length : Nat)
  | pageWrite (device : Nat) (address : Nat) (data : List Byte)
  | singleByteWrite (device : Nat) (address : Nat) (b : Byte)
  | completionPoll (device : Nat)
  deriving DecidableEq, Repr

/-- What the port does on the bus, one item after another (R181). -/
inductive BusEvent
  | start
  | repeatedStart
  /-- a device address, with read rather than write; the device acknowledges it -/
  | address (device : Nat) (read : Bool)
  /-- a word-address or data byte that the port sends; the device acknowledges it -/
  | sent (b : Byte)
  /-- a data byte that the port receives, and whether the port acknowledges it -/
  | received (acknowledged : Bool)
  | stop
  deriving DecidableEq, Repr

/-- The bytes of a word address: two for the fixture PROM at 0x52, high first, and one for the tray tag at 0x56. -/
def wordAddress (device address : Nat) : List Byte :=
  if device = 0x52 then be16 (BitVec.ofNat 16 address) else [BitVec.ofNat 8 address]

/-- A write of some bytes: start, address with write, word address, data, stop. -/
def writeSequence (device address : Nat) (data : List Byte) : List BusEvent :=
  [.start, .address device false] ++ (wordAddress device address ++ data).map .sent ++ [.stop]

/-- The data bytes of a read, each acknowledged by the port except the last. -/
def readSequence (length : Nat) : List BusEvent := (List.range length).map (fun i => .received (decide (i + 1 < length)))

/-- The sequence of an operation with every byte acknowledged (R181). -/
def BusOp.sequence : BusOp → List BusEvent
  | .sequentialRead d a n =>
    [.start, .address d false] ++ (wordAddress d a).map .sent ++ [.repeatedStart, .address d true] ++ readSequence n ++ [.stop]
  | .pageWrite d a l => writeSequence d a l
  | .singleByteWrite d a b => writeSequence d a [b]
  | .completionPoll d => [.start, .address d false, .stop]

/-- Whether the device acknowledges this item. -/
def BusEvent.toDevice : BusEvent → Bool
  | .address _ _ => true
  | .sent _ => true
  | _ => false

/-- What stands on the bus, and whether the operation has succeeded, where the device answers its bytes with these acknowledges: a byte that
is not acknowledged ends the operation at once with a stop condition (R181). -/
def busRun : List BusEvent → List Bool → List BusEvent × Bool
  | [], _ => ([], true)
  | e :: es, acks =>
    if e.toDevice then
      match acks with
      | true :: rest => (e :: (busRun es rest).1, (busRun es rest).2)
      | _ => ([e, .stop], false)
    else (e :: (busRun es acks).1, (busRun es acks).2)

/-- What stands on the bus of an operation that a tray removal or a fixture change, or a new profile load, abandons after its first `n`
items: a stop condition ends it (R178, R181). -/
def BusOp.abandoned (n : Nat) (op : BusOp) : List BusEvent := op.sequence.take n ++ [.stop]

/-- Writes 1 and 6 are single bytes, writes 2 to 5 are page writes (R172). -/
def DocketWrite.busOp (w : DocketWrite) : BusOp :=
  match w.data with
  | [b] => .singleByteWrite 0x56 w.target b
  | l => .pageWrite 0x56 w.target l

/-- The operations that the port has under way, in the order it makes them: one at a time (R173, R178, R181). A completion poll is repeated
until it is acknowledged or its deadline runs out. -/
def State.busOperations (s : State) : List BusOp :=
  match s.load, s.closing with
  | .header, _ => [.sequentialRead 0x52 0 2]
  | .image n, _ => [.sequentialRead 0x52 0 n]
  | .idle, .headers => [.sequentialRead 0x56 0 2, .sequentialRead 0x56 64 2, .sequentialRead 0x56 128 2, .sequentialRead 0x56 192 2]
  | .idle, .write w =>
    match w.poll with
    | none => [w.busOp]
    | some _ => [.completionPoll 0x56]
  | .idle, _ => []

end Sys2Proof.Machine
end

