-- ==== Sys2Proof/Safety.lean ====
section
/-! DEFINITION. What statements about the AP-416 speak of: when a command of the line reaches its consumer, and what holds in every state
that the part can be in. -/

namespace Sys2Proof.Machine

/-! ### When a command has its effect -/

/-- The framer has gathered the frame behind a sync pattern that began at this instant: the station is on the line (R21), is not sending (R27), and has fed the
framer since that instant or before (R41). -/
def Heard (sync : Int) (s : State) : Prop :=
  s.port.stationId ≠ 0#5 ∧ s.port.onWire = false ∧ ∃ b : Nat, s.port.framer = .hunting b ∧ (b : Int) ≤ sync

/-- A notice with this header reaches its consumer: the framer has gathered it (R41), the source is a peer's (R41, R42), and the target is this station, or
every station where the kind may be so addressed (R43). -/
def Reaches (h : Header) (order : Bool) (s : State) : Prop :=
  Heard h.sync s ∧ 1 ≤ h.source.toNat ∧ h.source.toNat ≤ 31 ∧ h.source ≠ s.ownId
    ∧ (h.target = s.ownId ∨ (order = false ∧ h.target = 0#8))

/-- An input's edge to a level is due: its first state has been taken, and the raw level has differed from the opposite debounced level at
20 consecutive samples (R5). -/
def EdgeDue (s : State) (d : Debounce) (newLevel : Bool) : Prop := s.panel.firstTaken = true ∧ d.level = !newLevel ∧ 20 ≤ d.differing

/-- The state with the debounced button pressed, as its press is taken (R5). -/
def State.buttonDown (s : State) : State :=
  { s with panel := { s.panel with button := { s.panel.button with level := true, differing := 0 } } }

/-- The state with the debounced seat switch open, as a tray removal is taken (R5). -/
def State.seatOpen (s : State) : State :=
  { s with panel := { s.panel with seat := { s.panel.seat with level := false, differing := 0 } } }

/-- The command brings a START, which finds the state `r`: an ORDER that reaches the run controller, or a press of the button in READY, CLOSING
or DONE, on the line or in standalone (R6, R7). -/
def StartFinds (c : Instr) (s r : State) : Prop :=
  (∃ h arg, c = .start h arg ∧ Reaches h true s ∧ r = s)
    ∨ (c = .buttonPress ∧ EdgeDue s s.panel.button true ∧ (s.run.state = .ready ∨ s.run.state = .closing ∨ s.run.state = .done)
        ∧ r = s.buttonDown)

/-- The command brings an ABORT in RUNNING, which finds the state `r`: an ORDER, or a press of the button (R6, R9). -/
def AbortFinds (c : Instr) (s r : State) : Prop :=
  s.run.state = .running
    ∧ ((∃ h arg, c = .abort h arg ∧ Reaches h true s ∧ r = s) ∨ (c = .buttonPress ∧ EdgeDue s s.panel.button true ∧ r = s.buttonDown))

/-- A deadline has run out at the count in hand (R3). -/
def RunOut (s : State) (d : Option Time) : Prop := ∃ e, d = some e ∧ 0 ≤ (s.clock - e).toInt

/-- The listener takes bytes: profile, enable line and idle flag (R99, R100). -/
def Hearing (p : Profile) (s : State) : Prop :=
  s.profile = some p ∧ s.seq.lines.listenerEnabled = true ∧ s.lis.idleFlag = true

/-- The header of a notice command, and whether it is an ORDER. -/
def noticeHeader : Instr → Option (Header × Bool)
  | .start h _ => some (h, true)
  | .abort h _ => some (h, true)
  | .query h _ => some (h, true)
  | .fetch h _ => some (h, true)
  | .unknownOperation h _ _ => some (h, true)
  | .claim h _ _ _ => some (h, false)
  | .withdraw h => some (h, false)
  | .settled h _ => some (h, false)
  | .sighting h _ _ _ => some (h, false)
  | .sag h _ => some (h, false)
  | _ => none

/-- The outbound queue has a place for one more non-step notice (R35). -/
def Room (s : State) : Prop := nonStepCount s.port.queue < 14

/-- The line port with a non-step notice accepted: at the tail, and DEFER where the port was IDLE (R24, R35). -/
def LinePort.accepting (n : Notice) (p : LinePort) : LinePort :=
  { p with queue := p.queue ++ [n], tx := if p.tx = .idle then .defer else p.tx }

/-- The line port as its own carrier has ended at `e`: the next gap runs from then, or from the end of the carrier that a peer still drives, and the framer
reads the line again (R22, R25, R41). -/
def LinePort.quietFrom (e : Nat) (p : LinePort) : LinePort :=
  { p with gap := if p.carrier then .stopped else .since e, lastEnd := if p.carrier then p.lastEnd else e, framer := .hunting e }

/-- The line port as its own carrier has ended at `e` and its head has left it, with the queue `q` behind: DEFER, or IDLE with an empty queue (R24, R33). -/
def LinePort.headGone (e : Nat) (q : List Notice) (p : LinePort) : LinePort :=
  { p.quietFrom e with queue := q, current := false, cancelAsked := false, tx := if q.isEmpty then .idle else .defer }

/-! ### What handing a notice over leaves -/

/-- A notice as it is handed over, with no attempt made of it (R35). -/
def handedAs (content : Content) (target : Byte) (s : State) : Notice :=
  { content := content, target := target, eventTime := s.clock, attempts := 0 }

/-- The run controller after a refusal: OUTBOUND_FULL is set, and where that is an edge that finds no alert out, the alert meets the same full queue and is
PENDING (R35, R184). -/
def RunControl.refused (r : RunControl) : RunControl :=
  { r with conds := { r.conds with outboundFull := true }
           alert := if r.conds.outboundFull = false ∧ r.alert = .none then .pending else r.alert }

/-- A non-step notice handed over in `s` leaves `t`, and whether it was taken: in standalone it is discarded, with room it joins the queue, and else it is
refused (R21, R35). -/
def Handed (n : Notice) (s t : State) (taken : Bool) : Prop :=
  (s.port.stationId = 0#5 → taken = true ∧ t = s)
    ∧ (s.port.stationId ≠ 0#5 → Room s → taken = true ∧ t = { s with port := s.port.accepting n })
    ∧ (s.port.stationId ≠ 0#5 → ¬Room s → taken = false ∧ t = { s with run := s.run.refused })

/-- The alert's STATUS handed over in `s` leaves `t`: OUTSTANDING when taken, PENDING when refused (R184). -/
def AlertHanded (s t : State) : Prop :=
  ∃ u taken, Handed (handedAs (.status true none) 0#8 s) s u taken
    ∧ t = { u with run := { u.run with alert := if taken then .outstanding else .pending } }

/-- A condition set in `s` leaves `t`: nothing changes where it is set already, and its edge hands the alert where none is out (R183, R184). -/
def ConditionSet (c : Condition) (s t : State) : Prop :=
  (s.run.conds.get c = true → t = s)
    ∧ ∀ u, u = { s with run := { s.run with conds := s.run.conds.put c true } } → s.run.conds.get c = false →
        (s.run.alert ≠ .none → t = u) ∧ (s.run.alert = .none → AlertHanded u t)

/-- What the departure of a non-step notice does to the alert: a PENDING one is handed again (R184). -/
def AlertAtDeparture (s t : State) : Prop :=
  (s.run.alert = .pending → AlertHanded s t) ∧ (s.run.alert ≠ .pending → t = s)

/-- A piece of a readout handed over in `s` leaves `t`: taken, the readout goes on in the stage `next`; refused, it ends with REFUSED (R159, R161). -/
def PieceHanded (r : Readout) (payload : List Byte) (next : ReadStage) (s t : State) : Prop :=
  ∃ u taken, Handed (handedAs (.detail payload) r.target s) s u taken
    ∧ t = { u with store :=
        if taken then { s.store with readout := some { r with stage := next } }
        else { s.store with readout := none, fetchResult := .refused, port := if s.store.port = .readout then .free else s.store.port } }

/-- The payload of the data piece of a readout: slot, flags with bit 0 clear, offset, and at most 20 bytes of the content (R159, R187). The other bits of
the flags are 0 by the model's choice (log entry 18). -/
def dataPiece (r : Readout) (content : List Byte) : List Byte :=
  [BitVec.ofNat 8 r.slot, 0#8] ++ be16 (BitVec.ofNat 16 r.offset) ++ (content.drop r.offset).take 20

/-- The payload of its final piece: slot, last flag, the slot's length and its checksum (R160, R187); the other bits of the flags as above. -/
def finalPiece (r : Readout) (x : Snapshot) : List Byte :=
  [BitVec.ofNat 8 r.slot, 1#8] ++ be16 (BitVec.ofNat 16 x.length) ++ be32 x.checksum

/-- The report to the snapshot store, in `s`, that a DETAIL has left the queue, sent or dropped, leaves `t` (R157, R159, R160). -/
def DetailReported (s t : State) : Prop :=
  (s.store.readout = none → t = s)
    ∧ ∀ r x, s.store.readout = some r → s.store.slots.get r.slot = some x →
        ((r.stage = .waiting ∨ (∃ m, r.stage = .reading m ∨ r.stage = .suspended m)) → t = s)
        ∧ (r.stage = .held → PieceHanded r (dataPiece r x.content) .dataQueued s t)
        ∧ (r.stage = .dataQueued → r.offset + 20 < x.content.length →
            t = { s with store := { s.store with
              port := if s.store.port = .capture then .capture else .readout
              readout := some { r with offset := r.offset + 20, stage := if s.store.port = .capture then .waiting else .reading 0 } } })
        ∧ (r.stage = .dataQueued → x.content.length ≤ r.offset + 20 → PieceHanded r (finalPiece r x) .finalQueued s t)
        ∧ (r.stage = .finalQueued →
            t = { s with store := { s.store with
              readout := none, fetchResult := .sent, port := if s.store.port = .readout then .free else s.store.port } })

/-- A DETAIL has left the queue in `s`, which leaves `t`: the store and the alert are told in either order (R38, R184; log entry 9). -/
def DetailLeft (alertFirst : Bool) (s t : State) : Prop :=
  ∃ u, (alertFirst = true → AlertAtDeparture s u ∧ DetailReported u t) ∧ (alertFirst = false → DetailReported s u ∧ AlertAtDeparture u t)

/-- A notice of these has been dropped and has left the queue in `s`, which leaves `t` (R33, R38, R184; log entry 9). -/
def DropLeft (isDetail alertFirst : Bool) (s t : State) : Prop :=
  ∃ u v, (isDetail = false → ConditionSet .noticeDropped s u ∧ AlertAtDeparture u t)
    ∧ (isDetail = true → alertFirst = true → ConditionSet .noticeDropped s u ∧ AlertAtDeparture u v ∧ DetailReported v t)
    ∧ (isDetail = true → alertFirst = false → DetailReported s u ∧ ConditionSet .noticeDropped u v ∧ AlertAtDeparture v t)

/-! ### The tray tag -/

/-- What a write that is cut off or not confirmed leaves of the tag (R174, R175): of a page nothing is known; a marker that write 1 was to clear is the old
one or 0x00, and one that write 6 was to set 0x00 or 0xC5; every other byte is as it was. -/
def CutOff (w : DocketWrite) (s t : State) : Prop :=
  (∀ a, (a < w.target ∨ w.target + w.data.length ≤ a) → Memory.read t.tag a = Memory.read s.tag a)
    ∧ (2 ≤ w.number → w.number ≤ 5 →
        t.openMarker = s.openMarker ∧ ∀ a, w.target ≤ a → a < w.target + w.data.length → Memory.read t.tag a = none)
    ∧ (w.number = 1 → ∀ x, Memory.read s.tag (64 * w.slot) = some x →
        (x = 0x00#8 → t.tag = s.tag ∧ t.openMarker = s.openMarker)
        ∧ (x ≠ 0x00#8 → Memory.read t.tag (64 * w.slot) = none ∧ t.openMarker = some { slot := w.slot, values := [0x00#8, x] }))
    ∧ (w.number = 1 → Memory.read s.tag (64 * w.slot) = none →
        Memory.read t.tag (64 * w.slot) = none
        ∧ ∀ m, s.openMarker = some m → m.slot = w.slot →
            ∃ n, t.openMarker = some n ∧ n.slot = w.slot ∧ ∀ b, b ∈ n.values ↔ b = 0x00#8 ∨ b ∈ m.values)
    ∧ (w.number = 6 → Memory.read t.tag (64 * w.slot) = none ∧ t.openMarker = some { slot := w.slot, values := [0x00#8, 0xC5#8] })

/-- What the header read brings of a slot is what the part's own transfers have left there: the marker is the one determined, or one of those that a write
left open, and the sequence is the one determined (R174). -/
def SlotAgrees (i : Nat) (h : SlotHeader) (s : State) : Prop :=
  (∀ b, Memory.read s.tag (64 * i) = some b → h.marker = b)
    ∧ (Memory.read s.tag (64 * i) = none → ∀ m, s.openMarker = some m → m.slot = i → h.marker ∈ m.values)
    ∧ ∀ b, Memory.read s.tag (64 * i + 1) = some b → h.sequence = b

/-- The roster after a notice from a station, without that station's entry (R46). -/
def State.rosterWithout (s : State) (b : Byte) : List RosterEntry := s.claim.roster.filter (fun e => e.source ≠ b)

/-- The value of a channel in a round (R80, R81). -/
def roundValue (p : Profile) (inputs : Eight Int) (k : Nat) : Nat :=
  ((convert (inputs.get k)).toNat * (p.channels.get k).scale + 500) / 1000

/-- Every ramp-armed channel is inside its window in a round with these inputs (R66, R86). -/
def RoundSettles (p : Profile) (inputs : Eight Int) : Prop :=
  ∀ k, k < 8 → (p.channels.get k).rampFlag = true →
    (p.channels.get k).low ≤ roundValue p inputs k ∧ roundValue p inputs k ≤ (p.channels.get k).high

/-- The end of a ramp, in `s`, has left `t` with the outcome told: a standing claim is IDLE and its SETTLED queued to all stations, but in standalone, where
no claim stands and nothing is queued (R58, R60). -/
def StandingEnded (outcome : Byte) (s t : State) : Prop :=
  (s.claim.state = .standing → t.claim.state = .idle
      ∧ (s.port.stationId ≠ 0#5 → ∃ n ∈ t.port.queue, n.content = .settled outcome ∧ n.target = 0#8))
    ∧ (s.port.stationId = 0#5 → s.claim.state = .idle → t.claim.state = .idle ∧ t.port = s.port)

/-- The deadline of a hold that starts now: 20 × (1 + k) ms, with k the low 3 bits of the generator (R55). -/
def State.freshHold (s : State) : Time := s.clock + BitVec.ofNat 32 (20 * (1 + s.port.generator.toNat % 8))

/-- The own CLAIM of R50 is in the queue of `t`, with the cycle counter of `s`. -/
def OwnClaimQueued (p : Profile) (s t : State) : Prop :=
  ∃ n ∈ t.port.queue, n.target = 0#8 ∧ n.attempts = 0
    ∧ n.content = .claim (BitVec.ofNat 8 p.weight) (BitVec.ofNat 16 p.duration) s.seq.cycle

/-- The budget check made on `s` leads to `t`: QUEUED with a CLAIM, or BLOCKED (R48, R50, R55). -/
def BudgetChecked (p : Profile) (s t : State) : Prop :=
  (budgetSum s.claim.roster + p.weight ≤ p.allowance → t.claim.state = .queued ∧ OwnClaimQueued p s t)
    ∧ (p.allowance < budgetSum s.claim.roster + p.weight → t.claim.state = .blocked)

/-- The contest for the allowance made on `s` leads to `t`: a hold with a sag in force, else the budget check (R50). -/
def Contested (p : Profile) (s t : State) : Prop :=
  (s.rail.sag = .inForce → t.claim.state = .held s.freshHold) ∧ (∀ n, s.rail.sag = .armed n → BudgetChecked p s t)

/-- The close of the oldest occurrence is due, judges it local, and stops the run (R144, R145). -/
def CloseStops (p : Profile) (s : State) : Prop :=
  ∃ o rest r, s.judge.occurrences = o :: rest ∧ s.table.find o.sig = some r ∧ 0 ≤ (s.clock - o.closeTime).toInt
    ∧ o.matched.length < p.quorum ∧ (o.sagFlag = false ∨ (p.classOf o.sig).supplySensitive = false)
    ∧ p.stopOnFail = true ∧ 0 < (p.classOf o.sig).threshold ∧ (p.classOf o.sig).threshold ≤ satInc r.localCount

/-- The first occurrence of a new record of this signature asks for a snapshot and is answered MISSED: the engine is at work, or no slot is EMPTY (R126,
R152, R153). -/
def SnapshotMissed (p : Profile) (g : Sig) (s : State) : Prop :=
  s.table.find g = none ∧ (p.classOf g).snapshot = true ∧ (s.store.engine ≠ .idle ∨ ∀ i, i < 8 → s.store.slots.get i ≠ none)

/-- The command ends the station's part in a run that is in WAITING: an abort, a stop-on-fail, a tray removal or a fixture change (R59). -/
def EndsInWaiting (c : Instr) (s : State) (p : Profile) : Prop :=
  s.seq.phase = .waiting ∧ s.run.state = .running ∧ s.profile = some p
    ∧ ((∃ r, AbortFinds c s r) ∨ (c = .trayRemoval ∧ EdgeDue s s.panel.seat false) ∨ (c = .fixtureChange ∧ EdgeDue s s.panel.fixture false)
        ∨ (c = .occurrenceClose ∧ CloseStops p s))

/-- The command's instant is the verdict instant: the header read ends, or fails, or a tray removal is taken before step 3 (R165). -/
def VerdictInstant (c : Instr) (s : State) : Prop :=
  (s.closing = .headers ∧ ((∃ h, c = .slotHeaderReadEnd h) ∨ ∃ atStart, c = .tagNoAcknowledge atStart))
    ∨ (c = .trayRemoval ∧ EdgeDue s s.panel.seat false ∧ s.run.state = .closing ∧ (s.closing = .drain ∨ s.closing = .headers))

/-- Record number `i` of the creation order ranks ahead of record number `j` (R168). -/
def RanksBefore (start : Time) (records : List Record) (i j : Nat) : Prop :=
  ∃ a b, records[i]? = some a ∧ records[j]? = some b
    ∧ (b.localCount < a.localCount
      ∨ (a.localCount = b.localCount
        ∧ (b.commonCount < a.commonCount
          ∨ (a.commonCount = b.commonCount
            ∧ ((a.firstSeen - start).toInt < (b.firstSeen - start).toInt ∨ (a.firstSeen - start = b.firstSeen - start ∧ i < j))))))

/-- Every field fits the bytes that the image gives it (R188), and the stage count counts the stages, at most 16 (R179, R180). -/
def Profile.FitsImage (p : Profile) : Prop :=
  p.allowance < 65536 ∧ p.weight < 256 ∧ p.duration < 65536 ∧ p.cycles < 256 ∧ p.onTime < 65536 ∧ p.offTime < 65536
    ∧ p.drainTimeout < 65536 ∧ p.window < 65536 ∧ p.holdOff < 65536 ∧ p.quorum < 256 ∧ p.rearm < 65536 ∧ p.suspectLimit < 256
    ∧ p.tripLimit < 16777216 ∧ p.tripDwell < 256 ∧ p.sagThreshold < 16777216 ∧ p.sagDwell < 256 ∧ p.sagHysteresis < 65536
    ∧ p.baudCode < 256 ∧ p.pulseInterval < 65536 ∧ p.errorLow < 65536 ∧ p.errorHigh < 65536 ∧ p.preRounds < 256 ∧ p.postRounds < 256
    ∧ p.classes.length = 11 ∧ (∀ c ∈ p.classes, c.threshold < 256)
    ∧ (∀ k, k < 8 → (p.channels.get k).scale < 65536 ∧ (p.channels.get k).low < 16777216 ∧ (p.channels.get k).high < 16777216
        ∧ (p.channels.get k).offLevel < 16777216 ∧ (p.channels.get k).dwell < 256)
    ∧ p.stageCount = p.stages.length ∧ p.stages.length ≤ 16 ∧ (∀ st ∈ p.stages, st.maxWait < 65536)

/-- Every field lies in its range of R180. -/
def Profile.InRanges (p : Profile) : Prop :=
  (1 ≤ p.allowance ∧ p.allowance ≤ 4095) ∧ (1 ≤ p.weight ∧ p.weight ≤ p.allowance) ∧ (50 ≤ p.duration ∧ p.duration ≤ 10000)
    ∧ 1 ≤ p.cycles ∧ 10 ≤ p.onTime ∧ 1 ≤ p.offTime ∧ (100 ≤ p.drainTimeout ∧ p.drainTimeout ≤ 10000)
    ∧ (1 ≤ p.window ∧ p.window ≤ 4000) ∧ p.holdOff ≤ 1000 ∧ (1 ≤ p.quorum ∧ p.quorum ≤ 31) ∧ p.rearm ≤ 60000 ∧ 1 ≤ p.suspectLimit
    ∧ (∀ k, k < 8 → 1 ≤ (p.channels.get k).scale ∧ 1 ≤ (p.channels.get k).dwell ∧ (p.channels.get k).low ≤ (p.channels.get k).high)
    ∧ 1 ≤ p.tripDwell ∧ 1 ≤ p.sagDwell ∧ p.sagHysteresis ≤ 5000 ∧ p.baudCode ≤ 5 ∧ p.stageCount ≤ 16
    ∧ (∀ st ∈ p.stages, 1 ≤ st.maxWait) ∧ (p.pulseInterval = 0 ∨ (100 ≤ p.pulseInterval ∧ p.pulseInterval ≤ 60000))
    ∧ p.errorHigh ≤ p.errorLow + 4095 ∧ (∀ c ∈ p.classes, c.threshold ≤ 15)
    ∧ p.preRounds ≤ 192 ∧ p.postRounds ≤ 192 ∧ p.preRounds + p.postRounds ≤ 256

/-- The blocks of State. -/
inductive Block
  | pending | clock | roundTaken | freeIndex | panel | run | profile | load | port
  | claim | seq | rail | lis | table | judge | store | closing | tag | openMarker
  deriving DecidableEq, Repr

/-- The blocks named are the only ones in which two states may differ; the fields of one block are compared by its own statement. -/
def SameBut (blocks : List Block) (s t : State) : Prop :=
  (Block.pending ∈ blocks ∨ t.pending = s.pending) ∧ (Block.clock ∈ blocks ∨ t.clock = s.clock)
    ∧ (Block.roundTaken ∈ blocks ∨ t.roundTaken = s.roundTaken) ∧ (Block.freeIndex ∈ blocks ∨ t.freeIndex = s.freeIndex)
    ∧ (Block.panel ∈ blocks ∨ t.panel = s.panel) ∧ (Block.run ∈ blocks ∨ t.run = s.run) ∧ (Block.profile ∈ blocks ∨ t.profile = s.profile)
    ∧ (Block.load ∈ blocks ∨ t.load = s.load) ∧ (Block.port ∈ blocks ∨ t.port = s.port) ∧ (Block.claim ∈ blocks ∨ t.claim = s.claim)
    ∧ (Block.seq ∈ blocks ∨ t.seq = s.seq) ∧ (Block.rail ∈ blocks ∨ t.rail = s.rail) ∧ (Block.lis ∈ blocks ∨ t.lis = s.lis)
    ∧ (Block.table ∈ blocks ∨ t.table = s.table) ∧ (Block.judge ∈ blocks ∨ t.judge = s.judge) ∧ (Block.store ∈ blocks ∨ t.store = s.store)
    ∧ (Block.closing ∈ blocks ∨ t.closing = s.closing) ∧ (Block.tag ∈ blocks ∨ t.tag = s.tag)
    ∧ (Block.openMarker ∈ blocks ∨ t.openMarker = s.openMarker)

/-- A tag failure announced: in `s` TAG_FAILED is set and a VERDICT with this payload handed over, and `t` is DONE with the closing work at its end (R12,
R173, R176). -/
def FailureAnnounced (payload : List Byte) (s t : State) : Prop :=
  ∃ u v taken, ConditionSet .tagFailed s u ∧ Handed (handedAs (.verdict payload) 0#8 s) u v taken
    ∧ t.run = { v.run with state := .done, verdict := t.run.verdict } ∧ t.port = v.port ∧ t.closing = .none
    ∧ SameBut [.run, .port, .closing, .tag, .openMarker] s t

/-! ### What holds in every state -/

/-- The capacities of the lists (R34, R44, R96, R102, R116, R135, R140). -/
def State.WithinCapacity (s : State) : Prop :=
  nonStepCount s.port.queue ≤ 14 ∧ s.table.records.length ≤ 48 ∧ s.judge.echoes.length ≤ 32 ∧ s.judge.occurrences.length ≤ 8
    ∧ s.rail.ring.length ≤ 256 ∧ s.lis.trace.length ≤ 512

/-- How the step notices and the DETAILs stand in the queue (R34, R36, R37, R159): at most one DETAIL; a CLAIM only while the claim logic waits for
it, and at most one; at most one other step notice, ahead of the CLAIM, and none while the claim stands. -/
def State.QueueKept (s : State) : Prop :=
  s.port.queue.countP Notice.isDetail ≤ 1
    ∧ s.port.queue.countP Notice.isClaim ≤
        (match s.claim.state with | .queued => 1 | .cancellingSag _ => 1 | .cancellingEnd => 1 | _ => 0)
    ∧ s.port.queue.countP (fun n => n.isStep && !n.isClaim) ≤ (match s.claim.state with | .standing => 0 | _ => 1)
    ∧ s.port.queue.Pairwise (fun a b => a.isClaim = true → b.isStep = false)

/-- Outputs and listener enable are those of the phase (R62). -/
def State.LinesOfPhase (s : State) : Prop :=
  s.seq.lines.switchClosed = (s.seq.phase == .ramp || s.seq.phase == .boot || s.seq.phase == .stress)
    ∧ s.seq.lines.resetAsserted = !(s.seq.phase == .boot || s.seq.phase == .stress)
    ∧ s.seq.lines.strapDriven = (s.seq.phase == .ramp || s.seq.phase == .boot || s.seq.phase == .stress)
    ∧ s.seq.lines.listenerEnabled = (s.seq.phase == .boot || s.seq.phase == .stress)

/-- The backoff generator never holds 0 (R28). -/
def State.GeneratorAlive (s : State) : Prop := s.port.generator ≠ 0#16

/-- What is known of the tray tag is held in its canonical form, and where a marker is left open no byte is determined, and it may be 0x00
(R174). -/
def State.TagCanonical (s : State) : Prop :=
  Memory.wf s.tag ∧ ∀ m, s.openMarker = some m → Memory.read s.tag (64 * m.slot) = none ∧ 0x00#8 ∈ m.values

/-- A station ID of a peer: 1..31 and not the own (R42, R140). -/
def State.isPeer (s : State) (b : Byte) : Prop := 1 ≤ b.toNat ∧ b.toNat ≤ 31 ∧ b ≠ s.ownId

/-- The roster names peers, each at most once (R44). -/
def State.RosterOfPeers (s : State) : Prop :=
  (s.claim.roster.map RosterEntry.source).Nodup ∧ ∀ e ∈ s.claim.roster, s.isPeer e.source

/-- Sighting echoes come from peers, and matched sets hold peers (R135, R140). -/
def State.MatchesOfPeers (s : State) : Prop :=
  (∀ e ∈ s.judge.echoes, ∀ g, e.kind = .sighting g → s.isPeer e.source)
    ∧ ∀ o ∈ s.judge.occurrences, o.matched.Nodup ∧ ∀ b ∈ o.matched, s.isPeer b

/-- The open occurrences of a signature. -/
def State.openOf (s : State) (g : Sig) : Nat := s.judge.occurrences.countP (fun o => o.sig == g)

/-- At most one record for each signature (R116), every open occurrence has its record, and every record whose occurrences count has not
saturated accounts for each of them (R129). -/
def State.Accounted (s : State) : Prop :=
  (s.table.records.map Record.sig).Nodup
    ∧ (∀ o ∈ s.judge.occurrences, ∃ r ∈ s.table.records, r.sig = o.sig)
    ∧ ∀ r ∈ s.table.records, r.occurrences < 65535 →
        r.occurrences = r.localCount + r.commonCount + r.unjudged + s.openOf r.sig

/-- A slot's checksum is the sum of its content bytes, and a COMPLETE slot holds its whole content (R151, R155, R156). -/
def Snapshot.Sound (x : Snapshot) : Prop :=
  x.checksum = byteSum x.content ∧ x.postBytes.length = 16 * x.postTaken
    ∧ (x.complete = true → x.content.length = x.length ∧ x.postTaken = x.postCount)

/-- Every slot is sound, and the capture engine works on a slot that is CAPTURING: in PRE one that holds nothing yet, in POST one whose
pre-segment is stored and whose post-segment is not (R151, R154, R155, R156). -/
def State.StoreSound (s : State) : Prop :=
  (∀ i, i < 8 → ∀ x, s.store.slots.get i = some x → x.Sound)
    ∧ match s.store.engine with
      | .idle => True
      | .pre i rounds trace =>
        i < 8 ∧ ∃ x, s.store.slots.get i = some x ∧ x = Snapshot.begun x.sig x.time rounds.length x.postCount trace.length
      | .post i _ =>
        i < 8 ∧ ∃ x, s.store.slots.get i = some x ∧ x.complete = false ∧ x.postTaken < x.postCount
          ∧ x.headBytes.length = 9 + 16 * x.preCount ∧ x.traceBytes.length = x.traceCount

/-- Run state, profile, load, phase and closing work agree (section 1.2). -/
def State.RunConsistent (s : State) : Prop :=
  (s.run.state = .unconfigured ↔ s.profile = none) ∧ (s.load ≠ .idle → s.run.state = .unconfigured)
    ∧ (s.panel.firstTaken = false → s.run.state = .unconfigured ∧ s.load = .idle)
    ∧ (s.run.state = .running ↔ s.seq.phase ≠ .off) ∧ (s.run.state = .closing ↔ s.closing ≠ .none)

/-- The claim state agrees with the phase (section 3.2): BLOCKED, HELD, QUEUED and CANCELLING for a sag only in WAITING, STANDING only in
RAMP. -/
def State.ClaimOfPhase (s : State) : Prop :=
  match s.claim.state with
  | .idle => True
  | .cancellingEnd => True
  | .standing => s.seq.phase = .ramp
  | .blocked => s.seq.phase = .waiting
  | .held _ => s.seq.phase = .waiting
  | .queued => s.seq.phase = .waiting
  | .cancellingSag _ => s.seq.phase = .waiting

end Sys2Proof.Machine
end

