-- ==== Sys2Proof/Certificates/Slice0/Obligations.lean ====
section
/-! DEFINITION. The statements for the provers. -/

open Sys2Proof Sys2Proof.Machine

/-! ### The queue of commands and time -/

/-- A step takes the command at the front of the queue, with the rest of the queue. -/
def Obligations.StepTakesFrontCommand : Prop := ∀ (c : Instr) (s : State), step (s.setPending (c :: s.pending)) = exec c s

/-- THE MODEL'S CHOICE (log entry 3): on an empty queue the part waits for this count's round, and after it the clock goes on by one; nothing joins the
queue. -/
def Obligations.IdleStepPassesTime : Prop :=
  ∀ s : State, s.pending = [] →
    (s.roundTaken = false → step s = .next s)
      ∧ (s.roundTaken = true →
          ∃ t, step s = .next t ∧ t.clock = s.clock + 1#32 ∧ t.roundTaken = false ∧ t.pending = [])

/-! ### Reset, panel and fixture -/

/-- POWER_ON_RESET: every block in its power-on state (R4, R20, R23, R28, R44, R49, R61, R98, R114, R117, R148, R164). The values that the spec does not
give (bit rate, samples, line instants) are the model's choice (log entries 1, 14). -/
def Obligations.PowerOnReset : Prop :=
  ∀ (straps : BitVec 5) (s : State),
    ∃ t, exec (.powerOnReset straps) s = .next t
      ∧ t.clock = 0#32
      ∧ t.run.state = .unconfigured ∧ t.run.verdict = .none ∧ t.run.endReason = .none ∧ t.run.lastOrder = .none
      ∧ t.run.startTime = 0#32 ∧ t.run.endTime = 0#32 ∧ t.run.alert = .none ∧ (∀ c, t.run.conds.get c = false)
      ∧ t.runLamp = .dark ∧ t.doneLamp = .dark ∧ t.faultLamp = .dark
      ∧ t.panel.firstTaken = false ∧ t.panel.seat.level = false ∧ t.panel.button.level = false ∧ t.panel.fixture.level = false
      ∧ t.profile = none ∧ t.load = .idle
      ∧ t.port.stationId = straps ∧ t.port.queue = [] ∧ t.port.tx = .idle ∧ t.port.current = false ∧ t.port.gap = .since 0
      ∧ t.port.lastEnd = 0 ∧ t.port.framer = .hunting 0 ∧ t.port.carrier = false
      ∧ t.port.generator.toNat = (if straps.toNat * 2053 % 65536 = 0 then 1 else straps.toNat * 2053 % 65536)
      ∧ t.claim.roster = [] ∧ t.claim.state = .idle
      ∧ t.seq = { phase := .off, cycle := 0#8, done := 0#8, endRequest := .none, rampDeadline := none, onDeadline := none,
                  drainDeadline := none, offDeadline := none,
                  lines := { switchClosed := false, resetAsserted := true, strapDriven := false, listenerEnabled := false } }
      ∧ t.rail = { values := Eight.all 0,
                   watch := Eight.all { windowCount := 0, windowLatch := false, inside := false, heldUp := false, restCount := 0, restLatch := false },
                   tripCount := 0, sag := .armed 0, ring := [] }
      ∧ t.lis.idleFlag = false ∧ t.lis.parser = .hunt ∧ t.lis.gapDeadline = none ∧ t.lis.trace = [] ∧ t.lis.identity = none
      ∧ t.lis.stage = -1 ∧ t.lis.stalled = [] ∧ t.lis.awaitDeadline = none ∧ t.lis.pulseDeadline = none
      ∧ t.table = { records := [], mask := 0#64, firstLost := none }
      ∧ t.judge = { echoes := [], occurrences := [], firstRefused := none }
      ∧ t.store = { slots := Eight.all none, engine := .idle, port := .free, readout := none, fetchResult := .none, firstMissed := none }
      ∧ t.closing = .none ∧ t.tag = [] ∧ t.openMarker = none
      ∧ t.pending = s.pending

/-- DEBOUNCE_FIRST_STATE: each input takes the raw level of the 20th sample, with no edge; a fixture present starts a load (R4). Nothing else changes. That
the command sent before the 20th sample, or a second time, leaves the state as it is, is the model's choice (log entry 2). -/
def Obligations.DebounceFirstState : Prop :=
  ∀ s : State,
    (20 ≤ s.panel.samples → s.panel.firstTaken = false →
      exec .debounceFirstState s =
        .next { s with
          panel := { samples := s.panel.samples, firstTaken := true,
                     seat := { level := s.panel.seat.raw, raw := s.panel.seat.raw, differing := 0 },
                     button := { level := s.panel.button.raw, raw := s.panel.button.raw, differing := 0 },
                     fixture := { level := s.panel.fixture.raw, raw := s.panel.fixture.raw, differing := 0 } }
          load := if s.panel.fixture.raw then .header else s.load })
      ∧ (s.panel.samples < 20 ∨ s.panel.firstTaken = true → exec .debounceFirstState s = .next s)

/-- An edge is taken only when the raw level has differed at 20 consecutive samples: before that the six edge commands change nothing (R5). A release of
the button changes nothing but its debounced level, and a tray seated nothing but the seat's and what is known of the tag (R5, R15; the last clause is
the model's choice, log entry 10). FIXTURE_FITTED starts a load in UNCONFIGURED, abandoning any load in progress, and does nothing else (R17, R178).
That it loads nothing in another run state is the model's choice (log entry 11). -/
def Obligations.PanelEdges : Prop :=
  (∀ s : State,
      (¬EdgeDue s s.panel.button true → exec .buttonPress s = .next s)
        ∧ (¬EdgeDue s s.panel.button false → exec .buttonRelease s = .next s)
        ∧ (¬EdgeDue s s.panel.seat true → exec .traySeated s = .next s)
        ∧ (¬EdgeDue s s.panel.seat false → exec .trayRemoval s = .next s)
        ∧ (¬EdgeDue s s.panel.fixture true → exec .fixtureFitted s = .next s)
        ∧ (¬EdgeDue s s.panel.fixture false → exec .fixtureChange s = .next s)
        ∧ (EdgeDue s s.panel.button false →
            exec .buttonRelease s =
              .next { s with panel := { s.panel with button := { s.panel.button with level := false, differing := 0 } } })
        ∧ (EdgeDue s s.panel.seat true →
            exec .traySeated s =
              .next { s with panel := { s.panel with seat := { s.panel.seat with level := true, differing := 0 } }, tag := [], openMarker := none }))
    ∧ (∀ s : State, EdgeDue s s.panel.fixture true →
      (s.run.state = .unconfigured →
          exec .fixtureFitted s =
            .next { s with panel := { s.panel with fixture := { s.panel.fixture with level := true, differing := 0 } }, load := .header })
        ∧ (s.run.state ≠ .unconfigured →
            exec .fixtureFitted s =
              .next { s with panel := { s.panel with fixture := { s.panel.fixture with level := true, differing := 0 } } }))

/-- BUTTON_PRESS is taken by the run state (R6): a reload, nothing during a load, START in READY, CLOSING and DONE, ABORT in RUNNING, each exactly as the
same order would be taken. -/
def Obligations.ButtonPressByRunState : Prop :=
  ∀ s : State, EdgeDue s s.panel.button true →
    (s.run.state = .unconfigured → s.load = .idle →
      exec .buttonPress s =
        .next { s with panel := { s.panel with button := { s.panel.button with level := true, differing := 0 } }, load := .header })
      ∧ (s.run.state = .unconfigured → s.load ≠ .idle →
          exec .buttonPress s =
            .next { s with panel := { s.panel with button := { s.panel.button with level := true, differing := 0 } } })
      ∧ (∀ h arg, Reaches h true s →
          (s.run.state = .ready ∨ s.run.state = .closing ∨ s.run.state = .done →
            exec .buttonPress s =
              exec (.start h arg) { s with panel := { s.panel with button := { s.panel.button with level := true, differing := 0 } } })
          ∧ (s.run.state = .running →
            exec .buttonPress s =
              exec (.abort h arg) { s with panel := { s.panel with button := { s.panel.button with level := true, differing := 0 } } }))

/-! ### START and ABORT -/

/-- An accepted START, from an ORDER or from the button, clears the run-scoped state, keeps what is not run-scoped, and puts the sequencer into WAITING
with cycle 1, from where a standalone station with no sag in force is in RAMP at once (R6, R7, R8, R60). -/
def Obligations.StartAccepted : Prop :=
  ∀ (c : Instr) (s r : State) (p : Profile), StartFinds c s r → s.profile = some p →
    (s.run.state = .ready ∨ s.run.state = .done) → s.panel.seat.level = true →
    ∃ t, exec c s = .next t
      ∧ t.run = { s.run with
          state := .running, verdict := .none, endReason := .none, startTime := s.clock, endTime := 0#32, lastOrder := .accepted
          conds := { s.run.conds with echoFull := false, outboundFull := false, occFull := false, tableFull := false, snapMissed := false,
                                      tagFailed := false, noticeDropped := false, aborted := false } }
      ∧ t.table = { records := [], mask := p.watchPreset, firstLost := none }
      ∧ t.judge = { s.judge with occurrences := [], firstRefused := none }
      ∧ t.store = { slots := Eight.all none, engine := .idle, port := .free, readout := none, fetchResult := .none, firstMissed := none }
      ∧ t.lis.trace = [] ∧ t.lis.identity = none ∧ t.lis.stage = -1 ∧ t.lis.stalled = []
      ∧ (s.port.stationId ≠ 0#5 ∨ s.rail.sag = .inForce → t.seq.phase = .waiting)
      ∧ (∀ n, s.port.stationId = 0#5 → s.rail.sag = .armed n → s.claim.state = .idle → t.seq.phase = .ramp)
      ∧ t.seq.cycle = 1#8 ∧ t.seq.done = 0#8 ∧ t.seq.endRequest = .none
      ∧ t.claim.roster = s.claim.roster ∧ t.rail.ring = s.rail.ring ∧ t.rail.sag = s.rail.sag ∧ t.rail.values = s.rail.values
      ∧ t.port.queue.filter (fun n => !n.isClaim) = s.port.queue.filter (fun n => !n.isClaim)
      ∧ t.port.generator = s.port.generator
      ∧ SameBut [.run, .port, .claim, .seq, .rail, .lis, .table, .judge, .store] r t

/-- A START is judged against the run state and the debounced seat switch (R7), from an ORDER that reaches the run controller and from the button, on the
line and in standalone: in READY or DONE with the seat closed it is ACCEPTED and the run starts; with the seat open it is REFUSED_UNSEATED; in
UNCONFIGURED, RUNNING and CLOSING it is REFUSED_STATE (a press of the button is a START in READY, CLOSING and DONE alone, R6). A refused START changes
nothing but the last order result; a profile load in progress goes on. -/
def Obligations.StartJudged : Prop :=
  ∀ (c : Instr) (s r : State), StartFinds c s r →
    ((s.run.state = .unconfigured ∨ s.run.state = .running ∨ s.run.state = .closing) →
      exec c s = .next { r with run := { s.run with lastOrder := .refusedState } })
      ∧ ((s.run.state = .ready ∨ s.run.state = .done) → s.profile ≠ none → s.panel.seat.level = false →
          exec c s = .next { r with run := { s.run with lastOrder := .refusedUnseated } })
      ∧ ((s.run.state = .ready ∨ s.run.state = .done) → s.profile ≠ none → s.panel.seat.level = true →
          ∃ t, exec c s = .next t ∧ t.run.lastOrder = .accepted ∧ t.run.state = .running ∧ t.run.startTime = s.clock
            ∧ t.seq.phase ≠ .off)

/-- An accepted ABORT, from an ORDER or from the button, on the line or in standalone, sets ABORTED, drops every open occurrence as unjudged, and takes the sequencer down the abort path of its phase (R6, R9, R75, R147).
An ABORT outside RUNNING changes nothing but the last order result (R9). -/
def Obligations.AbortTaken : Prop :=
  (∀ (c : Instr) (s r : State) (p : Profile), AbortFinds c s r → s.profile = some p →
      ∃ t, exec c s = .next t
        ∧ t.run.lastOrder = .accepted ∧ t.run.conds.aborted = true ∧ t.judge.occurrences = [] ∧ t.judge.echoes = s.judge.echoes
        ∧ t.table = { s.table with
            records := s.table.records.map (fun r => { r with unjudged := satInc^[s.openOf r.sig] r.unjudged }) }
        ∧ (s.seq.phase = .waiting ∨ s.seq.phase = .rest →
            t.seq.phase = .off ∧ t.seq.endRequest = .none ∧ t.run.state = .closing ∧ t.run.endReason = .aborted ∧ t.run.endTime = s.clock
              ∧ t.closing = .headers)
        ∧ (s.seq.phase = .ramp ∨ s.seq.phase = .boot ∨ s.seq.phase = .stress →
            t.seq.phase = .drain ∧ t.seq.drainDeadline = some (s.clock + BitVec.ofNat 32 p.drainTimeout) ∧ t.run.state = .running
              ∧ t.seq.endRequest = (if s.seq.endRequest = .none then .aborted else s.seq.endRequest))
        ∧ (s.seq.phase = .drain →
            t.seq = { s.seq with endRequest := if s.seq.endRequest = .none then .aborted else s.seq.endRequest } ∧ t.run.state = .running)
        ∧ (s.seq.phase = .ramp → s.claim.state = .standing →
            t.claim.state = .idle ∧ (s.port.stationId ≠ 0#5 → ∃ n ∈ t.port.queue, n.content = .settled 3#8 ∧ n.target = 0#8))
        ∧ t.seq.cycle = s.seq.cycle ∧ t.seq.done = s.seq.done ∧ t.claim.roster = s.claim.roster ∧ t.rail.ring = s.rail.ring
        ∧ SameBut [.run, .port, .claim, .seq, .rail, .lis, .table, .judge, .closing] r t)
    ∧ (∀ (h : Header) (arg : Byte) (s : State), Reaches h true s → s.run.state ≠ .running →
      exec (.abort h arg) s = .next { s with run := { s.run with lastOrder := .refusedState } })

/-! ### The other orders -/

/-- QUERY hands a STATUS addressed to its source to the line port and changes nothing else; with no room it is refused, OUTBOUND_FULL is set and the queue
stays as it is (R35, R182, R184). FETCH of a slot 0..7 ends any readout, then starts one on a COMPLETE slot or answers EMPTY or BUSY; a slot above 7 is a
bad argument and leaves the store alone; the STATUS that answers is taken or refused as a QUERY's is (R35, R158, R182). An ORDER of operation 0 or 5..255
sets the last order result to BAD_ARGUMENT, with no reply and no other effect (R182). -/
def Obligations.OtherOrders : Prop :=
  (∀ (h : Header) (arg : Byte) (s : State), Reaches h true s →
      ∃ t taken, exec (.query h arg) s = .next t ∧ Handed (handedAs (.status false none) h.source s) s t taken)
    ∧ (∀ (h : Header) (arg : Byte) (s : State), Reaches h true s →
      (∀ x, arg.toNat ≤ 7 → s.store.slots.get arg.toNat = some x → x.complete = true →
        exec (.fetch h arg) s =
          .next { s with
            run := { s.run with lastOrder := .accepted }
            store := { s.store with
              fetchResult := .reading
              port := if s.store.port = .capture then .capture else .readout
              readout := some { slot := arg.toNat, target := h.source, offset := 0,
                                stage := if s.store.port = .capture then .waiting else .reading 0 } } })
        ∧ (∀ r, arg.toNat ≤ 7 →
            (s.store.slots.get arg.toNat = none ∧ r = .empty
              ∨ (∃ x, s.store.slots.get arg.toNat = some x ∧ x.complete = false) ∧ r = .busy) →
            ∃ t taken, exec (.fetch h arg) s = .next t
              ∧ Handed (handedAs (.status false none) h.source s)
                  { s with
                    run := { s.run with lastOrder := .refusedState }
                    store := { s.store with
                      fetchResult := r, readout := none, port := if s.store.port = .readout then .free else s.store.port } } t taken)
        ∧ (8 ≤ arg.toNat →
            ∃ t taken, exec (.fetch h arg) s = .next t
              ∧ Handed (handedAs (.status false none) h.source s) { s with run := { s.run with lastOrder := .badArgument } } t taken))
    ∧ (∀ (h : Header) (op arg : Byte) (s : State), Reaches h true s → (op.toNat = 0 ∨ 5 ≤ op.toNat) →
      exec (.unknownOperation h op arg) s = .next { s with run := { s.run with lastOrder := .badArgument } })

/-! ### Received notices: checks -/

/-- The checks every received notice passes before its consumer takes it (R21, R41, R42, R43): in standalone, in SEND and JAM, behind a sync pattern that began
before the framer read the line, from an impossible source, or for another station, a notice changes nothing; that its command tells when the sync pattern
began is the model's choice (log entry 13). One with the own ID as source sets ID_CLASH:
nothing more where it is set already or an alert is out, and else the alert is handed, OUTSTANDING when accepted and PENDING, with OUTBOUND_FULL, when
refused (R183, R184). -/
def Obligations.NoticeChecks : Prop :=
  ∀ (c : Instr) (h : Header) (order : Bool) (s : State), noticeHeader c = some (h, order) →
    ((s.port.stationId = 0#5 ∨ s.port.onWire = true ∨ s.port.framer = .notFed ∨ (∃ b : Nat, s.port.framer = .hunting b ∧ h.sync < b)
          ∨ h.source.toNat = 0 ∨ 31 < h.source.toNat) →
        exec c s = .next s)
      ∧ (Heard h.sync s → h.source = s.ownId →
          (s.run.conds.idClash = true → exec c s = .next s)
          ∧ (s.run.conds.idClash = false → s.run.alert ≠ .none →
              exec c s = .next { s with run := { s.run with conds := { s.run.conds with idClash := true } } })
          ∧ (s.run.conds.idClash = false → s.run.alert = .none → Room s →
              exec c s =
                .next { s with
                  run := { s.run with conds := { s.run.conds with idClash := true }, alert := .outstanding }
                  port := s.port.accepting { content := .status true none, target := 0#8, eventTime := s.clock, attempts := 0 } })
          ∧ (s.run.conds.idClash = false → s.run.alert = .none → ¬Room s →
              exec c s =
                .next { s with
                  run := { s.run with conds := { s.run.conds with idClash := true, outboundFull := true }, alert := .pending } }))
      ∧ (h.source ≠ s.ownId → h.target ≠ s.ownId → (order = true ∨ h.target ≠ 0#8) → exec c s = .next s)

/-- FRAME_DISCARDED: a frame that fails a check of R41, its carrier's end inside a byte among them, or that a good station sent to no consumer, changes
nothing, nor one whose sync pattern began while the framer was not fed; a good one with the own ID as source sets ID_CLASH. The edge hands an alert where there is none, OUTSTANDING when accepted and PENDING when refused, and in another alert state only the
bit is set (R42, R183, R184). -/
def Obligations.FrameDiscardedAndAlert : Prop :=
  ∀ (f : ReceivedFrame) (s : State),
    ((¬Heard f.sync s ∨ f.insideByte = true ∨ frameGood f.bytes f.insideByte = false ∨ byteAt f.bytes 1 ≠ s.ownId) → exec (.frameDiscarded f) s = .next s)
      ∧ (Heard f.sync s → frameGood f.bytes f.insideByte = true → byteAt f.bytes 1 = s.ownId →
          (s.run.conds.idClash = true → exec (.frameDiscarded f) s = .next s)
          ∧ (s.run.conds.idClash = false → s.run.alert ≠ .none →
              exec (.frameDiscarded f) s = .next { s with run := { s.run with conds := { s.run.conds with idClash := true } } })
          ∧ (s.run.conds.idClash = false → s.run.alert = .none → Room s →
              exec (.frameDiscarded f) s =
                .next { s with
                  run := { s.run with conds := { s.run.conds with idClash := true }, alert := .outstanding }
                  port := s.port.accepting { content := .status true none, target := 0#8, eventTime := s.clock, attempts := 0 } })
          ∧ (s.run.conds.idClash = false → s.run.alert = .none → ¬Room s →
              exec (.frameDiscarded f) s =
                .next { s with
                  run := { s.run with conds := { s.run.conds with idClash := true, outboundFull := true }, alert := .pending } }))

/-! ### The roster and the own claim -/

/-- CLAIM enters its source in the roster, replacing an earlier entry whole; the expiry is arrival + D + 200 ms (R44, R45). -/
def Obligations.ClaimEntersRoster : Prop :=
  ∀ (h : Header) (weight : Byte) (duration : BitVec 16) (cycle : Byte) (s : State), Reaches h false s →
    ∃ t, exec (.claim h weight duration cycle) s = .next t
      ∧ (∀ e, e ∈ t.claim.roster ↔
          e = { source := h.source, weight := weight, duration := duration, arrival := s.clock,
                expiry := s.clock + BitVec.ofNat 32 (duration.toNat + 200) }
            ∨ (e ∈ s.claim.roster ∧ e.source ≠ h.source))
      ∧ SameBut [.claim, .port] s t

/-- WITHDRAW and SETTLED remove the source's entry, whatever the outcome byte; from a station with no entry they change nothing (R46). -/
def Obligations.ReleaseRemovesEntry : Prop :=
  ∀ (h : Header) (outcome : Byte) (s : State), Reaches h false s →
    (∃ t, exec (.withdraw h) s = .next t ∧ t.claim.roster = s.rosterWithout h.source ∧ SameBut [.claim, .port] s t)
      ∧ (∃ t, exec (.settled h outcome) s = .next t ∧ t.claim.roster = s.rosterWithout h.source ∧ SameBut [.claim, .port] s t)
      ∧ ((∀ e ∈ s.claim.roster, e.source ≠ h.source) →
          exec (.withdraw h) s = .next s ∧ exec (.settled h outcome) s = .next s)

/-- ENTRY_EXPIRY removes an expired entry exactly as a WITHDRAW from its station would, and no entry before its time (R3, R47). ECHO_REMOVAL takes out the
first stored echo with now − e > W + a, and nothing else (R139); where every stored echo is within W + a, equality included, it leaves the state as it
is (R139; log entry 2). -/
def Obligations.RemovalsByTime : Prop :=
  (∀ (source : Byte) (s : State),
      ((∃ e ∈ s.claim.roster, e.source = source ∧ 0 ≤ (s.clock - e.expiry).toInt) →
          (∃ t, exec (.entryExpiry source) s = .next t ∧ t.claim.roster = s.rosterWithout source ∧ SameBut [.claim, .port] s t)
          ∧ ∀ h, Reaches h false s → h.source = source → exec (.entryExpiry source) s = exec (.withdraw h) s)
        ∧ ((∀ e ∈ s.claim.roster, e.source = source → (s.clock - e.expiry).toInt < 0) → exec (.entryExpiry source) s = .next s))
    ∧ (∀ (s : State) (p : Profile) (l r : List Echo) (x : Echo), s.profile = some p → s.judge.echoes = l ++ x :: r →
      (∀ y ∈ l, (s.clock - y.eventTime).toInt ≤ p.window + y.allowance) →
      (p.window + x.allowance : Int) < (s.clock - x.eventTime).toInt →
        exec .echoRemoval s = .next { s with judge := { s.judge with echoes := l ++ r } })
    ∧ (∀ (s : State) (p : Profile), s.profile = some p →
      (∀ y ∈ s.judge.echoes, (s.clock - y.eventTime).toInt ≤ p.window + y.allowance) → exec .echoRemoval s = .next s)

/-- A roster change and the own claim (R48, R51, R52): at a fall of S a BLOCKED station checks S + w ≤ A again; at a rise a queued CLAIM that has begun no
attempt is cancelled if the check now fails, and a port left with an empty queue idles, its next gap timed from the most recent end of carrier (R24, R25); a rise in BLOCKED, a fall in QUEUED and any other claim state or change leave claim and port as they are. An
event that ends the run in WAITING (R59): BLOCKED and HELD become IDLE, a CLAIM not on the wire is removed, and one on the wire puts the claim logic into
CANCELLING with reason run end. The end of CANCELLING (R57) by completion, with its WITHDRAW, or by cancellation at JAM_END: HELD, or the hold's check where the
hold has run out; IDLE, or the contest where a WAITING entry was deferred. -/
def Obligations.ClaimFollowsBudget : Prop :=
  (∀ (c : Instr) (h : Header) (s : State) (p : Profile), Reaches h false s → s.profile = some p →
      ((∃ w d k, c = .claim h w d k) ∨ c = .withdraw h ∨ ∃ o, c = .settled h o) →
      ∃ t, exec c s = .next t
        ∧ (budgetSum t.claim.roster < budgetSum s.claim.roster → s.claim.state = .blocked →
            (budgetSum t.claim.roster + p.weight ≤ p.allowance → t.claim.state = .queued ∧ OwnClaimQueued p s t)
            ∧ (p.allowance < budgetSum t.claim.roster + p.weight → t.claim.state = .blocked ∧ t.port = s.port))
        ∧ (budgetSum s.claim.roster < budgetSum t.claim.roster → s.claim.state = .queued → s.port.claimCurrent = false →
            p.allowance < budgetSum t.claim.roster + p.weight →
              t.claim.state = .blocked ∧ (∀ n ∈ t.port.queue, n.isClaim = false)
              ∧ ∀ n, s.port.queue = [n] → n.isClaim = true → s.port.tx = .defer →
                  t.port = { s.port with
                    queue := [], current := false, tx := .idle, gap := if s.port.carrier then .stopped else .since s.port.lastEnd })
        ∧ (budgetSum s.claim.roster < budgetSum t.claim.roster → s.claim.state = .queued →
            (s.port.claimCurrent = true ∨ budgetSum t.claim.roster + p.weight ≤ p.allowance) →
              t.claim.state = .queued ∧ t.port = s.port)
        ∧ ((budgetSum t.claim.roster = budgetSum s.claim.roster
            ∨ (budgetSum s.claim.roster < budgetSum t.claim.roster ∧ s.claim.state = .blocked)
            ∨ (budgetSum t.claim.roster < budgetSum s.claim.roster ∧ s.claim.state = .queued)
            ∨ (s.claim.state ≠ .blocked ∧ s.claim.state ≠ .queued)) →
              t.claim.state = s.claim.state ∧ t.port = s.port))
    ∧ (∀ (c : Instr) (s : State) (p : Profile), EndsInWaiting c s p →
      ∃ t, exec c s = .next t ∧ t.seq.phase = .off ∧ t.claim.roster = s.claim.roster
        ∧ (s.claim.state = .blocked ∨ (∃ d, s.claim.state = .held d) → t.claim.state = .idle)
        ∧ (s.claim.state = .queued → s.port.claimOnWire = false → t.claim.state = .idle ∧ ∀ n ∈ t.port.queue, n.isClaim = false)
        ∧ (s.claim.state = .queued → s.port.claimOnWire = true →
            t.claim.state = .cancellingEnd ∧ t.port.cancelAsked = true ∧ t.port.queue.head? = s.port.queue.head? ∧ t.port.tx = s.port.tx)
        ∧ ((∃ d, s.claim.state = .cancellingSag d) → t.claim.state = .cancellingEnd)
        ∧ (s.claim.state = .cancellingEnd ∨ s.claim.state = .idle → t.claim.state = s.claim.state))
    ∧ (∀ (s : State) (p : Profile) (b bt : Nat) (f : List Byte) (n : Notice) (q : List Notice) (alertFirst : Bool),
      s.port.stationId ≠ 0#5 → s.profile = some p → s.port.tx = .send b f → s.port.queue = n :: q → b + 8 * f.length ≤ bt → n.isClaim = true →
      (∃ d, s.claim.state = .cancellingSag d ∧ 0 ≤ (s.clock - d).toInt) ∨ (s.claim.state = .cancellingEnd ∧ s.seq.phase = .waiting) →
      ∃ t, exec (.attemptCompletion bt alertFirst) s = .next t ∧ t.seq = s.seq ∧ t.claim.roster = s.claim.roster
        ∧ (∃ m ∈ t.port.queue, m.content = .withdraw ∧ m.target = 0#8)
        ∧ (s.claim.state = .cancellingEnd → Contested p s t) ∧ (s.claim.state ≠ .cancellingEnd → BudgetChecked p s t))
    ∧ (∀ (s : State) (p : Profile) (e bt : Nat) (n : Notice) (q : List Notice) (alertFirst : Bool),
      s.port.stationId ≠ 0#5 → s.profile = some p → s.port.tx = .jam e → s.port.queue = n :: q → e ≤ bt → n.isClaim = true →
      s.port.cancelAsked = true →
      ∃ t, exec (.jamEnd bt alertFirst) s = .next t ∧ t.seq = s.seq ∧ t.claim.roster = s.claim.roster
        ∧ (∀ d, s.claim.state = .cancellingSag d → (s.clock - d).toInt < 0 → t.claim.state = .held d ∧ t.port.queue = q)
        ∧ (∀ d, s.claim.state = .cancellingSag d → 0 ≤ (s.clock - d).toInt → BudgetChecked p s t)
        ∧ (s.claim.state = .cancellingEnd → s.seq.phase = .waiting → Contested p s t))

/-- A received SAG at the claim logic, whatever its age and whether or not the judge admits it (R55, R56): a hold of 20 × (1 + k) ms with k the low 3 bits
of the generator starts in BLOCKED, HELD and QUEUED (whose CLAIM is removed) and restarts in CANCELLING for a sag. A received SAG at the judge (R134,
R137, R138, R142): admitted with a valid profile and an age below 65535, it sets the sag flag of every open occurrence with |e − t| ≤ W + a, and is
stored while it is within retention and there is room, or refused with ECHO_FULL. -/
def Obligations.SagReceived : Prop :=
  (∀ (h : Header) (bus : BitVec 16) (s : State), Reaches h false s →
      ∃ t, exec (.sag h bus) s = .next t
        ∧ t.claim.roster = s.claim.roster
        ∧ ((∃ d, s.claim.state = .held d) ∨ s.claim.state = .blocked ∨ s.claim.state = .queued →
            t.claim.state = .held (s.clock + BitVec.ofNat 32 (20 * (1 + s.port.generator.toNat % 8))))
        ∧ (s.claim.state = .queued → ∀ n ∈ t.port.queue, n.isClaim = false)
        ∧ ((∃ d, s.claim.state = .cancellingSag d) →
            t.claim.state = .cancellingSag (s.clock + BitVec.ofNat 32 (20 * (1 + s.port.generator.toNat % 8))))
        ∧ (s.claim.state = .idle ∨ s.claim.state = .standing ∨ s.claim.state = .cancellingEnd → t.claim.state = s.claim.state)
        ∧ SameBut [.claim, .port, .judge, .run] s t)
    ∧ (∀ (h : Header) (bus : BitVec 16) (s : State), Reaches h false s →
      ∃ t, exec (.sag h bus) s = .next t
        ∧ (s.profile = none ∨ h.age = 65535#16 → t.judge = s.judge)
        ∧ ∀ p, s.profile = some p → h.age ≠ 65535#16 →
            (∀ e a, e = s.clock - h.age.setWidth 32 → a = 1 + (h.age.toNat + 255) / 256 →
              t.judge.occurrences = s.judge.occurrences.map (fun o =>
                  if ((e - o.time).toInt).natAbs ≤ p.window + a then { o with sagFlag := true } else o)
              ∧ ((s.clock - e).toInt ≤ p.window + a → s.judge.echoes.length < 32 →
                  t.judge.echoes = s.judge.echoes ++ [{ kind := .sag, source := h.source, eventTime := e, allowance := a }]
                    ∧ t.judge.firstRefused = s.judge.firstRefused)
              ∧ ((s.clock - e).toInt ≤ p.window + a → 32 ≤ s.judge.echoes.length →
                  t.judge.echoes = s.judge.echoes ∧ t.run.conds.echoFull = true
                    ∧ t.judge.firstRefused = (match s.judge.firstRefused with | none => some h.source | some x => some x))
              ∧ ((p.window + a : Int) < (s.clock - e).toInt →
                  t.judge.echoes = s.judge.echoes ∧ t.judge.firstRefused = s.judge.firstRefused)))

/-! ### Echoes -/

/-- A received SIGHTING at the judge (R134, R136, R138, R142, R143): it is admitted only with a valid profile, an age below 65535, a class of 1..11 and
its watch-mask bit set; it joins the matched sets of open occurrences of its signature, counts late where it matched none and falls within W + a of
the record's last close, and is offered for storage. -/
def Obligations.SightingEcho : Prop :=
  ∀ (h : Header) (g : Sig) (cycle phase : Byte) (s : State), Reaches h false s →
    ((s.profile = none ∨ h.age = 65535#16 ∨ sigClass g = 0 ∨ 11 < sigClass g ∨ s.table.mask.getLsbD (hash6 g) = false) →
        exec (.sighting h g cycle phase) s = .next s)
      ∧ ∀ p, s.profile = some p → h.age ≠ 65535#16 → 1 ≤ sigClass g → sigClass g ≤ 11 → s.table.mask.getLsbD (hash6 g) = true →
          ∃ t, exec (.sighting h g cycle phase) s = .next t ∧ SameBut [.judge, .table, .run, .port] s t
            ∧ ∀ e a, e = s.clock - h.age.setWidth 32 → a = 1 + (h.age.toNat + 255) / 256 →
              t.judge.occurrences = s.judge.occurrences.map (fun o =>
                  if o.sig = g ∧ ((e - o.time).toInt).natAbs ≤ p.window + a ∧ h.source ∉ o.matched then { o with matched := o.matched ++ [h.source] } else o)
              ∧ t.table.mask = s.table.mask ∧ t.table.firstLost = s.table.firstLost
              ∧ ((∃ o ∈ s.judge.occurrences, o.sig = g ∧ ((e - o.time).toInt).natAbs ≤ p.window + a) → t.table = s.table)
              ∧ ((∀ o ∈ s.judge.occurrences, ¬(o.sig = g ∧ ((e - o.time).toInt).natAbs ≤ p.window + a)) →
                  ∀ r, s.table.find g = some r →
                    (∀ c, r.lastClosed = some c → ((e - c).toInt).natAbs ≤ p.window + a →
                      t.table.find g = some { r with late := satInc r.late })
                    ∧ (∀ c, r.lastClosed = some c → p.window + a < ((e - c).toInt).natAbs → t.table = s.table)
                    ∧ (r.lastClosed = none → t.table = s.table))
              ∧ ((s.clock - e).toInt ≤ p.window + a → s.judge.echoes.length < 32 →
                  t.judge.echoes = s.judge.echoes ++ [{ kind := .sighting g, source := h.source, eventTime := e, allowance := a }])
              ∧ ((s.clock - e).toInt ≤ p.window + a → 32 ≤ s.judge.echoes.length →
                  t.judge.echoes = s.judge.echoes ∧ t.run.conds.echoFull = true
                    ∧ t.judge.firstRefused = (match s.judge.firstRefused with | none => some h.source | some x => some x))
              ∧ ((p.window + a : Int) < (s.clock - e).toInt → t.judge.echoes = s.judge.echoes)

/-! ### The rack line -/

/-- CARRIER_APPEARS and END_OF_CARRIER in every transmit state (R21, R25, R26, R27, R41): in the re-timed part of a gap of 32 bit times in DEFER carrier
stops the timing, and its end starts the gap afresh; in the committed part it is ignored, but its end is the most recent one for the gap after this; in IDLE
and BACKOFF the next gap waits for its end. A standalone port reads nothing. THE MODEL'S CHOICE (log entry 13): how the framer is held, as the instant since
which it has read the line, and that it hunts afresh from the end of a carrier; an appearance leaves it as it is. An end of carrier that no appearance
preceded times a gap too (log entry 17). COLLISION: within an attempt the port stops it and jams for 16 bit times (R27, R30). BACKOFF_END and the backoff
generator (R28, R31): a backoff that has run out puts the port into DEFER; each slot time the exclusive-or of bits 16, 14, 13 and 11 enters bit 1 as every
bit moves one place up. That a collision outside an attempt, a backoff's end before its time and an advance before its instant change nothing is the
model's choice (log entries 2, 5). -/
def Obligations.CarrierCollisionBackoff : Prop :=
  (∀ (s : State) (bt : Nat), s.port.stationId = 0#5 → exec (.carrierAppears bt) s = .next s ∧ exec (.endOfCarrier bt) s = .next s)
    ∧ (∀ (s : State) (b bt : Nat) (ended : LinePort), s.port.stationId ≠ 0#5 →
      ended = { s.port with carrier := false, lastEnd := bt, framer := .hunting bt } →
      (s.port.tx = .defer → s.port.gap = .since b →
          (bt < b + 32 → exec (.carrierAppears bt) s = .next { s with port := { s.port with carrier := true, gap := .stopped } })
          ∧ (b + 32 ≤ bt → exec (.carrierAppears bt) s = .next { s with port := { s.port with carrier := true } })
          ∧ (s.port.carrier = true → exec (.endOfCarrier bt) s = .next { s with port := ended }))
        ∧ (s.port.tx = .defer → s.port.gap = .stopped →
            exec (.carrierAppears bt) s = .next { s with port := { s.port with carrier := true } })
        ∧ (s.port.tx = .defer → s.port.gap = .stopped ∨ s.port.carrier = false →
            exec (.endOfCarrier bt) s = .next { s with port := { ended with gap := .since bt } })
        ∧ (s.port.tx = .idle ∨ (∃ e, s.port.tx = .backoff e) →
            exec (.carrierAppears bt) s = .next { s with port := { s.port with carrier := true, gap := .stopped } }
            ∧ exec (.endOfCarrier bt) s = .next { s with port := { ended with gap := .since bt } })
        ∧ (s.port.onWire = true →
            exec (.carrierAppears bt) s = .next { s with port := { s.port with carrier := true } }
            ∧ exec (.endOfCarrier bt) s = .next { s with port := { s.port with carrier := false } }))
    ∧ (∀ (s : State) (b bt : Nat) (f : List Byte),
      (s.port.tx = .send b f → b ≤ bt → bt ≤ b + 8 * f.length →
        exec (.collision bt) s = .next { s with port := { s.port with tx := .jam (bt + 16) } })
        ∧ ((∀ b f, s.port.tx ≠ .send b f) → exec (.collision bt) s = .next s))
    ∧ (∀ (s : State) (bt : Nat),
      (∀ e, s.port.tx = .backoff e → e ≤ bt → exec (.backoffEnd bt) s = .next { s with port := { s.port with tx := .defer } })
        ∧ (∀ e, s.port.tx = .backoff e → bt < e → exec (.backoffEnd bt) s = .next s)
        ∧ (s.port.nextAdvance ≤ bt →
            ∃ g, exec (.backoffGeneratorAdvance bt) s =
                .next { s with port := { s.port with generator := g, nextAdvance := s.port.nextAdvance + 64 } }
              ∧ g.getLsbD 0 = (s.port.generator.getLsbD 15 ^^ s.port.generator.getLsbD 13 ^^ s.port.generator.getLsbD 12
                  ^^ s.port.generator.getLsbD 10)
              ∧ ∀ i, i < 15 → g.getLsbD (i + 1) = s.port.generator.getLsbD i)
        ∧ (bt < s.port.nextAdvance → exec (.backoffGeneratorAdvance bt) s = .next s))

/-- QUIET_GAP_END: 48 bit times after the end of carrier an attempt begins with the notice at the head of the queue; a STATUS without content takes it
now, and the content of a reply returns the alert to NONE; the framer is fed no longer, and a frame being received is cut off; with an empty queue the port idles; earlier nothing
happens (R24, R25, R27, R39, R40, R41, R185). -/
def Obligations.AttemptBegins : Prop :=
  ∀ (s : State) (b bt : Nat), s.port.tx = .defer → s.port.gap = .since b →
    (bt < b + 48 → exec (.quietGapEnd bt) s = .next s)
      ∧ (b + 48 ≤ bt → s.port.queue = [] →
          exec (.quietGapEnd bt) s =
            .next { s with port := { s.port with tx := .idle, gap := if s.port.carrier then .stopped else .since s.port.lastEnd } })
      ∧ (∀ n q, b + 48 ≤ bt → s.port.queue = n :: q → (∀ a, n.content ≠ .status a none) →
          exec (.quietGapEnd bt) s =
            .next { s with port := { s.port with current := true, tx := .send bt (frameBytes s.ownId s.clock n), framer := .notFed } })
      ∧ (∀ n q a, b + 48 ≤ bt → s.port.queue = n :: q → n.content = .status a none →
          ∃ m t, m = { n with content := .status a (some s.statusContent) } ∧ exec (.quietGapEnd bt) s = .next t
            ∧ t.port = { s.port with queue := m :: q, current := true, tx := .send bt (frameBytes s.ownId s.clock m), framer := .notFed }
            ∧ t.run = { s.run with alert := if a then s.run.alert else .none } ∧ SameBut [.port, .run] s t)

/-- ATTEMPT_COMPLETION of a notice other than CLAIM and DETAIL: it leaves the queue, the gap runs from the end of the frame, the framer reads the line again
from then on, and the port goes on to DEFER or IDLE; a PENDING alert is handed again at the departure of a non-step notice (R24, R25, R27, R38, R41, R184). -/
def Obligations.AttemptCompletes : Prop :=
  ∀ (s : State) (b bt : Nat) (f : List Byte) (n : Notice) (q : List Notice) (alertFirst : Bool),
    s.port.tx = .send b f → s.port.queue = n :: q → b + 8 * f.length ≤ bt → n.isClaim = false → n.isDetail = false →
    (n.isStep = true → exec (.attemptCompletion bt alertFirst) s = .next { s with port := s.port.headGone (b + 8 * f.length) q })
      ∧ (n.isStep = false →
          ∃ t, exec (.attemptCompletion bt alertFirst) s = .next t
            ∧ AlertAtDeparture { s with port := s.port.headGone (b + 8 * f.length) q } t)

/-- ATTEMPT_COMPLETION of the own CLAIM (R53, R54, R57, R65): in QUEUED the budget check decides between STANDING, with RAMP entered in the same instant,
and a yield; in CANCELLING a WITHDRAW answers it and nothing stands. -/
def Obligations.ClaimCompletes : Prop :=
  ∀ (s : State) (p : Profile) (b bt : Nat) (f : List Byte) (n : Notice) (q : List Notice) (alertFirst : Bool),
    s.port.stationId ≠ 0#5 → s.profile = some p → s.port.tx = .send b f → s.port.queue = n :: q → b + 8 * f.length ≤ bt → n.isClaim = true →
    ∃ t, exec (.attemptCompletion bt alertFirst) s = .next t
      ∧ t.claim.roster = s.claim.roster
      ∧ (s.claim.state = .queued → s.seq.phase = .waiting → budgetSum s.claim.roster + p.weight ≤ p.allowance →
          t.claim.state = .standing ∧ t.seq.phase = .ramp ∧ t.seq.lines.switchClosed = true ∧ t.seq.lines.strapDriven = true
            ∧ t.seq.lines.resetAsserted = true ∧ t.seq.rampDeadline = some (s.clock + BitVec.ofNat 32 p.duration) ∧ t.port.queue = q)
      ∧ (s.claim.state = .queued → p.allowance < budgetSum s.claim.roster + p.weight →
          t.claim.state = .held (s.clock + BitVec.ofNat 32 (20 * (1 + s.port.generator.toNat % 8))) ∧ t.seq = s.seq
            ∧ ∃ m ∈ t.port.queue, m.content = .withdraw ∧ m.target = 0#8)
      ∧ (∀ d, s.claim.state = .cancellingSag d → (s.clock - d).toInt < 0 →
          t.claim.state = .held d ∧ t.seq = s.seq ∧ ∃ m ∈ t.port.queue, m.content = .withdraw ∧ m.target = 0#8)
      ∧ (s.claim.state = .cancellingEnd → s.seq.phase ≠ .waiting →
          t.claim.state = .idle ∧ t.seq = s.seq ∧ ∃ m ∈ t.port.queue, m.content = .withdraw ∧ m.target = 0#8)
      ∧ SameBut [.port, .claim, .seq, .rail, .lis] s t

/-- JAM_END (R30 to R33, R37): the attempt count rises; below the limit, and for a step notice at the limit, the port backs off k slot times with k drawn
from the generator; a non-step notice at the limit is dropped with NOTICE_DROPPED, which hands an alert where none is out, and a PENDING alert is handed again
(R38, R184); of a dropped DETAIL the readout is told as of one sent (R33, R160); a cancelled CLAIM is removed. -/
def Obligations.JamEnd : Prop :=
  ∀ (s : State) (e bt : Nat) (n : Notice) (q : List Notice) (alertFirst : Bool),
    s.port.tx = .jam e → s.port.queue = n :: q → e ≤ bt →
    (n.attempts + 1 < 12 → (n.isClaim = false ∨ s.port.cancelAsked = false) →
      ∀ k, k = s.port.generator.toNat % 2 ^ (min (n.attempts + 1) 8) →
        exec (.jamEnd bt alertFirst) s =
          .next { s with port := { s.port.quietFrom e with
            queue := { n with attempts := n.attempts + 1 } :: q, tx := if k = 0 then .defer else .backoff (e + 64 * k) } })
      ∧ (12 ≤ n.attempts + 1 → n.isStep = true → (n.isClaim = false ∨ s.port.cancelAsked = false) →
          ∀ k, k = s.port.generator.toNat % 256 →
            exec (.jamEnd bt alertFirst) s =
              .next { s with port := { s.port.quietFrom e with
                queue := { n with attempts := 0 } :: q, tx := if k = 0 then .defer else .backoff (e + 64 * k) } })
      ∧ (12 ≤ n.attempts + 1 → n.isStep = false →
          ∃ t, exec (.jamEnd bt alertFirst) s = .next t ∧ t.run.conds.noticeDropped = true
            ∧ DropLeft n.isDetail alertFirst { s with port := s.port.headGone e q } t)
      ∧ (n.isClaim = true → s.port.cancelAsked = true → s.seq.phase ≠ .waiting → s.claim.state = .cancellingEnd →
          exec (.jamEnd bt alertFirst) s =
            .next { s with claim := { s.claim with state := .idle }, port := s.port.headGone e q })

/-! ### Rounds -/

/-- ROUND while the profile is not valid: the eight inputs are converted and nothing else is done with them (R80); the panel is sampled (R5), in the round by
log entry 3, with its count of samples held at 20 by log entry 14. A ROUND in a count that has had its round is the round of the next count, which is the
one that a step on an empty queue begins (the model's choice, log entry 3). A round with
a valid profile writes its codes into the ring and scales them before its checks act (R80, R81, R96): codes clip to 0..4095, values are ⌊(c × s + 500)
/ 1000⌋, and the ring keeps the newest 256 rounds. A capture in POST takes the round and the store port (R155, R157). Stated for every phase. -/
def Obligations.RoundConverts : Prop :=
  (∀ (inputs : Eight Int) (i : PanelSample) (tripFirst : Bool) (s : State),
      s.profile = none → s.roundTaken = false → s.store.engine = .idle →
      ∃ x, exec (.round inputs i tripFirst) s = .next { s with panel := x, roundTaken := true }
        ∧ x.firstTaken = s.panel.firstTaken ∧ x.samples = min (s.panel.samples + 1) 20
        ∧ (x.seat.level = s.panel.seat.level ∧ x.button.level = s.panel.button.level ∧ x.fixture.level = s.panel.fixture.level)
        ∧ (x.seat.raw = i.seat ∧ x.button.raw = i.button ∧ x.fixture.raw = i.fixture)
        ∧ (s.panel.firstTaken = true →
            x.seat.differing = (if i.seat = s.panel.seat.level then 0 else s.panel.seat.differing + 1)
            ∧ x.button.differing = (if i.button = s.panel.button.level then 0 else s.panel.button.differing + 1)
            ∧ x.fixture.differing = (if i.fixture = s.panel.fixture.level then 0 else s.panel.fixture.differing + 1)))
    ∧ (∀ (inputs : Eight Int) (i : PanelSample) (tripFirst : Bool) (s : State) (p : Profile),
      s.profile = some p → s.roundTaken = false →
      ∃ t codes, exec (.round inputs i tripFirst) s = .next t
        ∧ (∀ k, k < 8 → ((codes.get k : RawCode).toNat : Int) = max 0 (min 4095 (inputs.get k)))
        ∧ (∀ k, k < 8 → t.rail.values.get k = ((codes.get k).toNat * (p.channels.get k).scale + 500) / 1000)
        ∧ t.rail.ring = (s.rail.ring ++ [codes]).drop (s.rail.ring.length + 1 - 256)
        ∧ (∀ k, s.store.engine = .post k none → t.store.engine = .post k (some codes) ∧ t.store.port = .capture)
        ∧ t.clock = s.clock ∧ t.roundTaken = true)
    ∧ (∀ (inputs : Eight Int) (i : PanelSample) (tripFirst : Bool) (s : State), s.roundTaken = true →
      exec (.round inputs i tripFirst) s = exec (.round inputs i tripFirst) s.nextCount
        ∧ s.nextCount.clock = s.clock + 1#32 ∧ s.nextCount.roundTaken = false ∧ s.nextCount.pending = s.pending
        ∧ (s.pending = [] → step s = .next s.nextCount))

/-- The window check in BOOT and STRESS (R84), in a round that gives no trip: inside, the count returns to 0 and the latch is cleared; outside with the
latch clear the count rises, and at the dwell the latch is set and one report is made; inside, with the latch set, or below the dwell there is no report. The
count is 0 from the round that sets the latch on (log entry 16). The REST off check (R90): at or below the off level the count returns to 0; above it the
count of 0..255 rises, wrapping by section 1.5.2, and the dwell with a clear latch sets the latch and makes one class 4 report, and no other round makes
one. No report: the record of the signature, or its absence, is as it was. The trip count rises and returns to 0 (R91). A round in RAMP that does not settle
leaves the inside flags of the ramp-armed channels, and one in DRAIN that does not end it the held-up flags of the off-armed ones, as its values have them
(R86, R88). -/
def Obligations.ChannelChecks : Prop :=
  (∀ (inputs : Eight Int) (i : PanelSample) (tripFirst : Bool) (s : State) (p : Profile) (k v : Nat),
      s.profile = some p → s.roundTaken = false → (s.seq.phase = .boot ∨ s.seq.phase = .stress) →
      (roundValue p inputs 1 ≤ p.tripLimit ∨ s.rail.tripCount + 1 < p.tripDwell) →
      2 ≤ k → k ≤ 7 → (p.channels.get k).windowFlag = true → v = roundValue p inputs k →
      ∃ t, exec (.round inputs i tripFirst) s = .next t ∧ t.seq = s.seq
        ∧ ((p.channels.get k).low ≤ v ∧ v ≤ (p.channels.get k).high →
            (t.rail.watch.get k).windowCount = 0 ∧ (t.rail.watch.get k).windowLatch = false)
        ∧ (¬((p.channels.get k).low ≤ v ∧ v ≤ (p.channels.get k).high) → (s.rail.watch.get k).windowLatch = true →
            (t.rail.watch.get k).windowCount = 0 ∧ (t.rail.watch.get k).windowLatch = true)
        ∧ (¬((p.channels.get k).low ≤ v ∧ v ≤ (p.channels.get k).high) → (s.rail.watch.get k).windowLatch = false →
            (t.rail.watch.get k).windowCount =
                (if (p.channels.get k).dwell ≤ (s.rail.watch.get k).windowCount + 1 then 0 else (s.rail.watch.get k).windowCount + 1)
            ∧ (t.rail.watch.get k).windowLatch = decide ((p.channels.get k).dwell ≤ (s.rail.watch.get k).windowCount + 1)
            ∧ ((p.channels.get k).dwell ≤ (s.rail.watch.get k).windowCount + 1 →
                ((∃ r ∈ t.table.records, r.sig = signature (if v < (p.channels.get k).low then 1 else 2) k ∧ r.lastReport = s.clock)
                  ∨ 48 ≤ t.table.records.length)
                ∧ t.table.find (signature (if v < (p.channels.get k).low then 2 else 1) k)
                    = s.table.find (signature (if v < (p.channels.get k).low then 2 else 1) k)))
        ∧ (((p.channels.get k).low ≤ v ∧ v ≤ (p.channels.get k).high) ∨ (s.rail.watch.get k).windowLatch = true
              ∨ (s.rail.watch.get k).windowCount + 1 < (p.channels.get k).dwell →
            t.table.find (signature 1 k) = s.table.find (signature 1 k) ∧ t.table.find (signature 2 k) = s.table.find (signature 2 k)))
    ∧ (∀ (inputs : Eight Int) (i : PanelSample) (tripFirst : Bool) (s : State) (p : Profile) (k v n : Nat),
      s.profile = some p → s.roundTaken = false → s.seq.phase = .rest → k < 8 → (p.channels.get k).offFlag = true →
      v = roundValue p inputs k → n = ((s.rail.watch.get k).restCount + 1) % 256 →
      ∃ t, exec (.round inputs i tripFirst) s = .next t ∧ t.seq = s.seq
        ∧ (v ≤ (p.channels.get k).offLevel →
            (t.rail.watch.get k).restCount = 0 ∧ (t.rail.watch.get k).restLatch = (s.rail.watch.get k).restLatch)
        ∧ ((p.channels.get k).offLevel < v →
            (t.rail.watch.get k).restCount = n
            ∧ (t.rail.watch.get k).restLatch = ((s.rail.watch.get k).restLatch || decide ((p.channels.get k).dwell ≤ n))
            ∧ ((s.rail.watch.get k).restLatch = false → (p.channels.get k).dwell ≤ n →
                (∃ r ∈ t.table.records, r.sig = signature 4 k ∧ r.lastReport = s.clock) ∨ 48 ≤ t.table.records.length))
        ∧ (v ≤ (p.channels.get k).offLevel ∨ (s.rail.watch.get k).restLatch = true ∨ n < (p.channels.get k).dwell →
            t.table.find (signature 4 k) = s.table.find (signature 4 k)))
    ∧ (∀ (inputs : Eight Int) (i : PanelSample) (tripFirst : Bool) (s : State) (p : Profile), s.profile = some p → s.roundTaken = false →
      ∃ t, exec (.round inputs i tripFirst) s = .next t
        ∧ (s.seq.phase.powered = true →
            (roundValue p inputs 1 ≤ p.tripLimit → t.rail.tripCount = 0 ∧ t.seq.phase.powered = true)
            ∧ (p.tripLimit < roundValue p inputs 1 → s.rail.tripCount + 1 < p.tripDwell →
                t.rail.tripCount = s.rail.tripCount + 1 ∧ t.seq.phase.powered = true))
        ∧ (s.seq.phase = .ramp → (roundValue p inputs 1 ≤ p.tripLimit ∨ s.rail.tripCount + 1 < p.tripDwell) →
            (∃ k, k < 8 ∧ (p.channels.get k).rampFlag = true
              ∧ ¬((p.channels.get k).low ≤ roundValue p inputs k ∧ roundValue p inputs k ≤ (p.channels.get k).high)) →
            t.seq = s.seq ∧ t.table = s.table
              ∧ ∀ k, k < 8 → (t.rail.watch.get k).inside =
                  (if (p.channels.get k).rampFlag then
                    decide ((p.channels.get k).low ≤ roundValue p inputs k) && decide (roundValue p inputs k ≤ (p.channels.get k).high)
                  else (s.rail.watch.get k).inside))
        ∧ (s.seq.phase = .drain → (∃ k, k < 8 ∧ (p.channels.get k).offFlag = true ∧ (p.channels.get k).offLevel < roundValue p inputs k) →
            t.seq = s.seq ∧ t.table = s.table
              ∧ ∀ k, k < 8 → (t.rail.watch.get k).heldUp =
                  (if (p.channels.get k).offFlag then decide ((p.channels.get k).offLevel < roundValue p inputs k)
                  else (s.rail.watch.get k).heldUp)))

/-- A round in RAMP with every ramp-armed channel inside its window and no trip: BOOT with SETTLED(0), reset released, on-time set and the listener
enabled from its start; STRESS at once with a stage count of 0 (R66, R68, R86, R107). A standalone station hands no SETTLED (R60). -/
def Obligations.RailsSettled : Prop :=
  ∀ (inputs : Eight Int) (i : PanelSample) (tripFirst : Bool) (s : State) (p : Profile),
    s.profile = some p → s.roundTaken = false → s.seq.phase = .ramp →
    (roundValue p inputs 1 ≤ p.tripLimit ∨ s.rail.tripCount + 1 < p.tripDwell) → RoundSettles p inputs →
    ∃ t, exec (.round inputs i tripFirst) s = .next t
      ∧ t.seq.phase = (if p.stages = [] then .stress else .boot)
      ∧ t.seq.lines = { switchClosed := true, resetAsserted := false, strapDriven := true, listenerEnabled := true }
      ∧ t.seq.rampDeadline = none ∧ t.seq.onDeadline = some (s.clock + BitVec.ofNat 32 (1000 * p.onTime))
      ∧ t.lis.stage = -1 ∧ t.lis.stalled = [] ∧ t.lis.parser = .hunt ∧ t.lis.idleFlag = false
      ∧ StandingEnded 0#8 s t
      ∧ t.seq.cycle = s.seq.cycle ∧ t.seq.done = s.seq.done ∧ t.table = s.table

/-- A feed-current trip in RAMP, BOOT or STRESS (R71, R91, R92): DRAIN with the switch open, the trip count back at 0, the class 5 report with the phase of
the trip as its detail, and SETTLED(2) from RAMP. Where the round settles too and the settled report is taken first, BOOT is entered with SETTLED(0) and its
listener, and the trip is taken there with detail 3; with no stages STRESS is entered in the same instant (R68), and the detail is 4. A standalone
station hands no SETTLED (R60). -/
def Obligations.FeedTrip : Prop :=
  ∀ (inputs : Eight Int) (i : PanelSample) (tripFirst : Bool) (s : State) (p : Profile) (detail : Nat) (outcome : Byte),
    s.profile = some p → s.roundTaken = false → (s.seq.phase = .ramp ∨ s.seq.phase = .boot ∨ s.seq.phase = .stress) →
    p.tripLimit < roundValue p inputs 1 → p.tripDwell ≤ s.rail.tripCount + 1 →
    (tripFirst = false ∧ s.seq.phase = .ramp ∧ RoundSettles p inputs ∧ detail = (if p.stages = [] then 4 else 3) ∧ outcome = 0#8
      ∨ ¬(tripFirst = false ∧ s.seq.phase = .ramp ∧ RoundSettles p inputs) ∧ detail = s.seq.phase.code.toNat ∧ outcome = 2#8) →
    ∃ t, exec (.round inputs i tripFirst) s = .next t
      ∧ t.seq.phase = .drain ∧ t.seq.drainDeadline = some (s.clock + BitVec.ofNat 32 p.drainTimeout)
      ∧ t.seq.lines = { switchClosed := false, resetAsserted := true, strapDriven := false, listenerEnabled := false }
      ∧ t.rail.tripCount = 0
      ∧ ((∃ r ∈ t.table.records, r.sig = signature 5 detail ∧ r.lastReport = s.clock) ∨ 48 ≤ t.table.records.length)
      ∧ (∀ d, 2 ≤ d → d ≤ 4 → d ≠ detail → t.table.find (signature 5 d) = s.table.find (signature 5 d))
      ∧ (s.seq.phase = .ramp → StandingEnded outcome s t ∧ (outcome = 0#8 → t.lis.stage = -1 ∧ t.lis.stalled = [])
          ∧ (outcome = 2#8 → t.lis.stage = s.lis.stage ∧ t.lis.stalled = s.lis.stalled))
      ∧ t.seq.cycle = s.seq.cycle ∧ t.seq.done = s.seq.done ∧ t.seq.endRequest = s.seq.endRequest

/-- A round in DRAIN with every off-armed channel at or below its off level ends the drain (R72, R73, R88): cycles done rises, and the end request, then
the cycle counter, choose between OFF and REST. DRAIN_DEADLINE (R72, R73, R89): a class 4 report for every off-armed channel whose held-up flag is
set, and the drain ends as by completion. -/
def Obligations.DrainEnds : Prop :=
  (∀ (inputs : Eight Int) (i : PanelSample) (tripFirst : Bool) (s : State) (p : Profile),
      s.profile = some p → s.roundTaken = false → s.seq.phase = .drain →
      (∀ k, k < 8 → (p.channels.get k).offFlag = true →
        ((convert (inputs.get k)).toNat * (p.channels.get k).scale + 500) / 1000 ≤ (p.channels.get k).offLevel) →
      ∃ t, exec (.round inputs i tripFirst) s = .next t ∧ t.seq.done = s.seq.done + 1#8 ∧ t.seq.cycle = s.seq.cycle
        ∧ t.seq.drainDeadline = none
        ∧ (s.seq.endRequest = .stopped → t.seq.phase = .off ∧ t.run.state = .closing ∧ t.run.endReason = .stopped ∧ t.run.endTime = s.clock)
        ∧ (s.seq.endRequest = .aborted → t.seq.phase = .off ∧ t.run.state = .closing ∧ t.run.endReason = .aborted ∧ t.run.endTime = s.clock)
        ∧ (s.seq.endRequest = .none → s.seq.cycle.toNat = p.cycles →
            t.seq.phase = .off ∧ t.run.state = .closing ∧ t.run.endReason = .complete ∧ t.run.endTime = s.clock)
        ∧ (s.seq.endRequest = .none → s.seq.cycle.toNat ≠ p.cycles →
            t.seq.phase = .rest ∧ t.run.state = s.run.state ∧ t.seq.offDeadline = some (s.clock + BitVec.ofNat 32 (1000 * p.offTime))))
    ∧ (∀ (s : State) (p : Profile), s.profile = some p →
      ((¬RunOut s s.seq.drainDeadline ∨ s.seq.phase ≠ .drain) → exec .drainDeadline s = .next s)
        ∧ (RunOut s s.seq.drainDeadline → s.seq.phase = .drain →
            ∃ t, exec .drainDeadline s = .next t ∧ t.seq.done = s.seq.done + 1#8 ∧ t.seq.cycle = s.seq.cycle
              ∧ (∀ k, k < 8 → (p.channels.get k).offFlag = true → (s.rail.watch.get k).heldUp = true →
                  (∃ r ∈ t.table.records, r.sig = signature 4 k ∧ r.lastReport = s.clock) ∨ 48 ≤ t.table.records.length)
              ∧ (s.seq.endRequest = .stopped → t.seq.phase = .off ∧ t.run.state = .closing ∧ t.run.endReason = .stopped)
              ∧ (s.seq.endRequest = .aborted → t.seq.phase = .off ∧ t.run.state = .closing ∧ t.run.endReason = .aborted
                  ∧ t.judge.occurrences = [])
              ∧ (s.seq.endRequest = .none → s.seq.cycle.toNat = p.cycles → t.seq.phase = .off ∧ t.run.endReason = .complete)
              ∧ (s.seq.endRequest = .none → s.seq.cycle.toNat ≠ p.cycles → t.seq.phase = .rest)
              ∧ SameBut [.freeIndex, .run, .port, .seq, .rail, .lis, .table, .judge, .store, .closing] s t))

/-- The sag detector in a round, in every phase (R93, R94): below the threshold the count rises, and at the dwell the sag is confirmed with an own sag mark,
stored where there is room and matched with the open occurrences, and a SAG notice, queued or refused with OUTBOUND_FULL; in force it waits for the
threshold plus the hysteresis. A confirmed sag at the claim logic, in a phase in which the round makes no other change (R56): a hold in BLOCKED, HELD and
QUEUED, whose CLAIM is removed, and CANCELLING with reason sag where the CLAIM is on the wire; no effect in IDLE, STANDING and CANCELLING for the run's end. -/
def Obligations.SagDetector : Prop :=
  ∀ (inputs : Eight Int) (i : PanelSample) (tripFirst : Bool) (s : State) (p : Profile) (v : Nat),
    s.profile = some p → s.roundTaken = false → v = roundValue p inputs 0 →
    ∃ t, exec (.round inputs i tripFirst) s = .next t
      ∧ (∀ n, s.rail.sag = .armed n → p.sagThreshold ≤ v → t.rail.sag = .armed 0)
      ∧ (∀ n, s.rail.sag = .armed n → v < p.sagThreshold → n + 1 < p.sagDwell → t.rail.sag = .armed (n + 1))
      ∧ (∀ n, s.rail.sag = .armed n → v < p.sagThreshold → p.sagDwell ≤ n + 1 →
          t.rail.sag = .inForce
          ∧ (s.port.stationId ≠ 0#5 →
              (∃ m ∈ t.port.queue, m.content = .sag (BitVec.ofNat 16 (min v 65535)) ∧ m.target = 0#8 ∧ m.eventTime = s.clock)
                ∨ t.run.conds.outboundFull = true)
          ∧ (s.judge.echoes.length < 32 →
              t.judge.echoes = s.judge.echoes ++ [{ kind := .sag, source := s.ownId, eventTime := s.clock, allowance := 1 }])
          ∧ (32 ≤ s.judge.echoes.length → t.judge.echoes = s.judge.echoes ∧ t.run.conds.echoFull = true)
          ∧ (∀ o ∈ t.judge.occurrences, ((s.clock - o.time).toInt).natAbs ≤ p.window + 1 → o.sagFlag = true)
          ∧ (s.seq.phase = .off ∨ s.seq.phase = .waiting →
              (s.port.stationId ≠ 0#5 → Room s → s.judge.echoes.length < 32 →
                ∃ m ∈ t.port.queue, m.content = .sag (BitVec.ofNat 16 (min v 65535)) ∧ m.target = 0#8 ∧ m.eventTime = s.clock)
              ∧ (s.claim.state = .blocked ∨ (∃ d, s.claim.state = .held d) ∨ (s.claim.state = .queued ∧ s.port.claimOnWire = false) →
                  t.claim.state = .held s.freshHold)
              ∧ (s.claim.state = .queued → s.port.claimOnWire = false → ∀ m ∈ t.port.queue, m.isClaim = false)
              ∧ (s.claim.state = .queued → s.port.claimOnWire = true →
                  t.claim.state = .cancellingSag s.freshHold ∧ t.port.cancelAsked = true ∧ t.port.tx = s.port.tx)
              ∧ ((∃ d, s.claim.state = .cancellingSag d) → t.claim.state = .cancellingSag s.freshHold)
              ∧ (s.claim.state = .idle ∨ s.claim.state = .standing ∨ s.claim.state = .cancellingEnd → t.claim.state = s.claim.state)))
      ∧ (s.rail.sag = .inForce → t.rail.sag = (if p.sagThreshold + p.sagHysteresis ≤ v then .armed 0 else .inForce))
      ∧ (s.seq.phase = .off ∨ s.seq.phase = .waiting →
          (∀ n, s.rail.sag = .armed n → ¬(v < p.sagThreshold ∧ p.sagDwell ≤ n + 1) → t.judge = s.judge ∧ t.claim = s.claim)
          ∧ (s.rail.sag = .inForce → t.judge = s.judge ∧ t.claim = s.claim))

/-! ### The power sequencer's deadlines -/

/-- RAMP_DEADLINE (R67, R87): DRAIN with SETTLED(1), which a standalone station does not hand (R60), and a class 3 report for every ramp-armed channel whose inside flag is clear; not before its time,
and in no other phase. ON_TIME_DEADLINE ends the powered part of a cycle: DRAIN from BOOT or STRESS, with the parser in HUNT and the listener's
deadlines idle (R62, R70, R72, R99); not before its time, and in no other phase. -/
def Obligations.PoweredPhasesEnd : Prop :=
  (∀ (s : State) (p : Profile), s.profile = some p →
      ((¬RunOut s s.seq.rampDeadline ∨ s.seq.phase ≠ .ramp) → exec .rampDeadline s = .next s)
        ∧ (RunOut s s.seq.rampDeadline → s.seq.phase = .ramp →
            ∃ t, exec .rampDeadline s = .next t
              ∧ t.seq = { s.seq with phase := .drain, rampDeadline := none, onDeadline := none, offDeadline := none
                                     drainDeadline := some (s.clock + BitVec.ofNat 32 p.drainTimeout)
                                     lines := { switchClosed := false, resetAsserted := true, strapDriven := false, listenerEnabled := false } }
              ∧ (∀ k, k < 8 → (p.channels.get k).rampFlag = true → (s.rail.watch.get k).inside = false →
                  (∃ r ∈ t.table.records, r.sig = signature 3 k ∧ r.lastReport = s.clock) ∨ 48 ≤ t.table.records.length)
              ∧ ((∀ k, k < 8 → (p.channels.get k).rampFlag = true → (s.rail.watch.get k).inside = true) → t.table = s.table)
              ∧ StandingEnded 1#8 s t
              ∧ t.claim.roster = s.claim.roster
              ∧ SameBut [.freeIndex, .run, .port, .claim, .seq, .rail, .lis, .table, .judge, .store] s t))
    ∧ (∀ (s : State) (p : Profile), s.profile = some p →
      ((¬RunOut s s.seq.onDeadline ∨ (s.seq.phase ≠ .boot ∧ s.seq.phase ≠ .stress)) → exec .onTimeDeadline s = .next s)
        ∧ (RunOut s s.seq.onDeadline → (s.seq.phase = .boot ∨ s.seq.phase = .stress) →
            ∃ t, exec .onTimeDeadline s = .next t
              ∧ t.seq = { s.seq with phase := .drain, rampDeadline := none, onDeadline := none, offDeadline := none
                                     drainDeadline := some (s.clock + BitVec.ofNat 32 p.drainTimeout)
                                     lines := { switchClosed := false, resetAsserted := true, strapDriven := false, listenerEnabled := false } }
              ∧ t.lis = { s.lis with idleFlag := false, parser := .hunt, gapDeadline := none, awaitDeadline := none, pulseDeadline := none }
              ∧ (∀ k, k < 8 → (t.rail.watch.get k).windowCount = 0 ∧ (t.rail.watch.get k).windowLatch = false
                  ∧ (t.rail.watch.get k).heldUp = false)
              ∧ t.rail.tripCount = 0 ∧ t.rail.ring = s.rail.ring ∧ t.rail.sag = s.rail.sag
              ∧ SameBut [.seq, .rail, .lis] s t))

/-- OFF_TIME_DEADLINE (R50, R64, R73, R78): the cycle counter rises and WAITING begins its contest for the allowance: a hold with a sag in force, else a
CLAIM or BLOCKED by the budget check, and in standalone RAMP at once. HOLD_END (R55, R60): in HELD, once the hold has run out, the budget check queues
a CLAIM or blocks; in standalone the sequencer enters RAMP from WAITING. A hold that has not run out does not end. -/
def Obligations.ContestForAllowance : Prop :=
  (∀ (s : State) (p : Profile), s.profile = some p →
      ((¬RunOut s s.seq.offDeadline ∨ s.seq.phase ≠ .rest) → exec .offTimeDeadline s = .next s)
        ∧ (RunOut s s.seq.offDeadline → s.seq.phase = .rest → s.claim.state = .idle →
            ∃ t, exec .offTimeDeadline s = .next t ∧ t.seq.cycle = s.seq.cycle + 1#8 ∧ t.seq.done = s.seq.done
              ∧ t.claim.roster = s.claim.roster ∧ SameBut [.port, .claim, .seq, .rail, .lis] s t
              ∧ (s.rail.sag = .inForce → t.seq.phase = .waiting ∧ t.port = s.port
                  ∧ t.claim.state = .held (s.clock + BitVec.ofNat 32 (20 * (1 + s.port.generator.toNat % 8))))
              ∧ (∀ n, s.rail.sag = .armed n → s.port.stationId = 0#5 → t.seq.phase = .ramp ∧ t.claim.state = .idle ∧ t.port = s.port)
              ∧ (∀ n, s.rail.sag = .armed n → s.port.stationId ≠ 0#5 → p.allowance < budgetSum s.claim.roster + p.weight →
                  t.seq.phase = .waiting ∧ t.claim.state = .blocked ∧ t.port = s.port)
              ∧ (∀ n, s.rail.sag = .armed n → s.port.stationId ≠ 0#5 → budgetSum s.claim.roster + p.weight ≤ p.allowance →
                  t.seq.phase = .waiting ∧ t.claim.state = .queued ∧ ∃ m ∈ t.port.queue, m.target = 0#8
                    ∧ m.content = .claim (BitVec.ofNat 8 p.weight) (BitVec.ofNat 16 p.duration) (s.seq.cycle + 1#8))))
    ∧ (∀ (s : State) (p : Profile) (d : Time), s.profile = some p → s.claim.state = .held d →
      ((s.clock - d).toInt < 0 → exec .holdEnd s = .next s)
        ∧ (0 ≤ (s.clock - d).toInt → s.port.stationId ≠ 0#5 → p.allowance < budgetSum s.claim.roster + p.weight →
            exec .holdEnd s = .next { s with claim := { s.claim with state := .blocked } })
        ∧ (0 ≤ (s.clock - d).toInt → s.port.stationId ≠ 0#5 → budgetSum s.claim.roster + p.weight ≤ p.allowance →
            ∃ t, exec .holdEnd s = .next t ∧ t.claim = { s.claim with state := .queued }
              ∧ (∃ n ∈ t.port.queue, n.target = 0#8 ∧ n.attempts = 0
                  ∧ n.content = .claim (BitVec.ofNat 8 p.weight) (BitVec.ofNat 16 p.duration) s.seq.cycle)
              ∧ SameBut [.claim, .port] s t)
        ∧ (0 ≤ (s.clock - d).toInt → s.port.stationId = 0#5 → s.seq.phase = .waiting →
            ∃ t, exec .holdEnd s = .next t ∧ t.claim = { s.claim with state := .idle } ∧ t.seq.phase = .ramp
              ∧ t.seq.lines.switchClosed = true ∧ t.seq.rampDeadline = some (s.clock + BitVec.ofNat 32 p.duration)
              ∧ SameBut [.claim, .seq, .rail, .lis] s t))

/-! ### The service port listener -/

/-- BYTE_RECEIVED (R100, R102, R103, R104, R105) up to the classification of a code: the byte is written into the ring, which keeps the newest 512, and
moves the parser; each byte of a mark sets the gap deadline 11 ms on, and a complete identity is kept only where none is. A receiver that is disabled,
or has not seen the line idle, takes no byte. -/
def Obligations.ParserTakesByte : Prop :=
  ∀ (b : Byte) (s : State) (p : Profile),
    ((s.seq.lines.listenerEnabled = false ∨ s.lis.idleFlag = false) → exec (.byteReceived b) s = .next s)
      ∧ (Hearing p s → ∀ ring late, ring = (s.lis.trace ++ [b]).drop (s.lis.trace.length + 1 - 512) → late = some (s.clock + 11#32) →
          (s.lis.parser = .hunt → b ≠ p.leadByte → exec (.byteReceived b) s = .next { s with lis := { s.lis with trace := ring } })
          ∧ (s.lis.parser = .hunt → b = p.leadByte →
              exec (.byteReceived b) s = .next { s with lis := { s.lis with trace := ring, parser := .codeHi, gapDeadline := late } })
          ∧ (s.lis.parser = .codeHi →
              exec (.byteReceived b) s = .next { s with lis := { s.lis with trace := ring, parser := .codeLo b, gapDeadline := late } })
          ∧ (∀ high, s.lis.parser = .codeLo high → high ++ b = p.identityCode →
              exec (.byteReceived b) s = .next { s with lis := { s.lis with trace := ring, parser := .idLen, gapDeadline := late } })
          ∧ (s.lis.parser = .idLen → 1 ≤ b.toNat → b.toNat ≤ 16 →
              exec (.byteReceived b) s =
                .next { s with lis := { s.lis with trace := ring, parser := .idBytes b.toNat [], gapDeadline := late } })
          ∧ (s.lis.parser = .idLen → (b.toNat = 0 ∨ 16 < b.toNat) →
              exec (.byteReceived b) s = .next { s with lis := { s.lis with trace := ring, parser := .hunt, gapDeadline := none } })
          ∧ (∀ n got, s.lis.parser = .idBytes n got → got.length + 1 < n →
              exec (.byteReceived b) s =
                .next { s with lis := { s.lis with trace := ring, parser := .idBytes n (got ++ [b]), gapDeadline := late } })
          ∧ (∀ n got, s.lis.parser = .idBytes n got → n ≤ got.length + 1 →
              exec (.byteReceived b) s =
                .next { s with lis := { s.lis with
                  trace := ring, parser := .hunt, gapDeadline := none
                  identity := match s.lis.identity with | none => some (got ++ [b]) | some x => some x } }))

/-- A stage code (R102, R106, R108, R109, R110), by the index j it matches against k: its second byte enters the ring and ends the mark; an advance moves k and
sets the next deadline, a skip does so with a class 7 report and a regression with a class 8 report, and a repeat changes nothing but the ring and the
parser; the last stage in BOOT enters STRESS, and a regression in STRESS returns to BOOT. -/
def Obligations.StageCode : Prop :=
  ∀ (b high : Byte) (s : State) (p : Profile) (j : Nat) (ring : List Byte) (next : Option Time), Hearing p s →
    s.lis.parser = .codeLo high → high ++ b ≠ p.identityCode →
    stageIndex p s.lis.stage (high ++ b) = some j → (s.seq.phase = .boot ∨ s.seq.phase = .stress) →
    ring = (s.lis.trace ++ [b]).drop (s.lis.trace.length + 1 - 512) →
    next = (p.stages[j + 1]?).map (fun st => s.clock + BitVec.ofNat 32 (100 * st.maxWait + 1)) →
    ((j : Int) = s.lis.stage →
        exec (.byteReceived b) s = .next { s with lis := { s.lis with trace := ring, parser := .hunt, gapDeadline := none } })
      ∧ ((j : Int) = s.lis.stage + 1 → (j + 1 < p.stages.length ∨ s.seq.phase = .stress) →
          exec (.byteReceived b) s =
            .next { s with lis := { s.lis with
              trace := ring, parser := .hunt, gapDeadline := none, stage := j, awaitDeadline := next } })
      ∧ ∃ t, exec (.byteReceived b) s = .next t
        ∧ t.lis.trace = ring ∧ t.lis.identity = s.lis.identity ∧ t.lis.idleFlag = s.lis.idleFlag ∧ t.lis.bitRate = s.lis.bitRate
        ∧ t.lis.parser = .hunt ∧ t.lis.gapDeadline = none ∧ t.lis.stage = (j : Int) ∧ t.lis.stalled = s.lis.stalled
        ∧ ((j : Int) ≠ s.lis.stage → t.lis.awaitDeadline = next)
        ∧ ((j : Int) = s.lis.stage + 1 → t.table = s.table ∧ SameBut [.seq, .rail, .lis] s t)
        ∧ (s.lis.stage + 1 < (j : Int) →
            (∃ r ∈ t.table.records, r.sig = signature 7 j ∧ r.lastReport = s.clock) ∨ 48 ≤ t.table.records.length)
        ∧ ((j : Int) < s.lis.stage →
            ((∃ r ∈ t.table.records, r.sig = signature 8 j ∧ r.lastReport = s.clock) ∨ 48 ≤ t.table.records.length)
              ∧ t.seq.phase = .boot ∧ t.lis.pulseDeadline = (if s.seq.phase = .stress then none else s.lis.pulseDeadline))
        ∧ (s.lis.stage < (j : Int) → j + 1 = p.stages.length → s.seq.phase = .boot →
            t.seq.phase = .stress
              ∧ t.lis.pulseDeadline = (if p.pulseInterval = 0 then none else some (s.clock + BitVec.ofNat 32 (p.pulseInterval + 1))))
        ∧ (s.lis.stage < (j : Int) → j + 1 < p.stages.length → t.seq = s.seq ∧ t.lis.pulseDeadline = s.lis.pulseDeadline)
        ∧ (s.LinesOfPhase → t.seq.lines = s.seq.lines) ∧ t.seq.onDeadline = s.seq.onDeadline ∧ t.seq.cycle = s.seq.cycle
        ∧ SameBut [.freeIndex, .run, .port, .seq, .rail, .lis, .table, .judge, .store] s t

/-- A code that is no stage code (R106, R111): the pulse code sets the pulse deadline again in STRESS and is ignored in BOOT or with an interval of 0; a
code in the error range makes a class 11 report; any other code is ignored. -/
def Obligations.OtherCodes : Prop :=
  ∀ (b high : Byte) (s : State) (p : Profile), Hearing p s → s.lis.parser = .codeLo high → high ++ b ≠ p.identityCode →
    stageIndex p s.lis.stage (high ++ b) = none →
    ∃ x, x = { s.lis with trace := (s.lis.trace ++ [b]).drop (s.lis.trace.length + 1 - 512), parser := .hunt, gapDeadline := none }
      ∧ (high ++ b = p.pulseCode → s.seq.phase = .stress → p.pulseInterval ≠ 0 →
          exec (.byteReceived b) s =
            .next { s with lis := { x with pulseDeadline := some (s.clock + BitVec.ofNat 32 (p.pulseInterval + 1)) } })
      ∧ (high ++ b = p.pulseCode → (s.seq.phase ≠ .stress ∨ p.pulseInterval = 0) → exec (.byteReceived b) s = .next { s with lis := x })
      ∧ (high ++ b ≠ p.pulseCode → p.errorLow ≤ (high ++ b).toNat → (high ++ b).toNat ≤ p.errorHigh →
          ∃ t, exec (.byteReceived b) s = .next t ∧ t.lis = x
            ∧ ((∃ r ∈ t.table.records, r.sig = signature 11 ((high ++ b).toNat - p.errorLow) ∧ r.lastReport = s.clock)
                ∨ 48 ≤ t.table.records.length))
      ∧ (high ++ b ≠ p.pulseCode → ((high ++ b).toNat < p.errorLow ∨ p.errorHigh < (high ++ b).toNat) →
          exec (.byteReceived b) s = .next { s with lis := x })

/-- IDLE_FLAG_SET and GAP_DEADLINE (R100, R104): an enabled receiver notes that the line is idle; a gap that has run out discards the partial mark, and
one that has not is left alone. AWAITED_STAGE_DEADLINE and PULSE_DEADLINE (R110, R112): a stall is reported once for each stage in a cycle, and a lost
pulse in STRESS makes its report and ends in DRAIN. -/
def Obligations.ListenerTimers : Prop :=
  (∀ s : State,
      (s.seq.lines.listenerEnabled = true → exec .idleFlagSet s = .next { s with lis := { s.lis with idleFlag := true } })
        ∧ (s.seq.lines.listenerEnabled = false → exec .idleFlagSet s = .next s)
        ∧ (RunOut s s.lis.gapDeadline → exec .gapDeadline s = .next { s with lis := { s.lis with parser := .hunt, gapDeadline := none } })
        ∧ (¬RunOut s s.lis.gapDeadline → exec .gapDeadline s = .next s))
    ∧ (∀ (s : State) (p : Profile), s.profile = some p →
      (RunOut s s.lis.awaitDeadline → (s.lis.stage + 1).toNat ∈ s.lis.stalled →
          exec .awaitedStageDeadline s = .next { s with lis := { s.lis with awaitDeadline := none } })
        ∧ (RunOut s s.lis.awaitDeadline → (s.lis.stage + 1).toNat ∉ s.lis.stalled →
            ∃ t, exec .awaitedStageDeadline s = .next t
              ∧ t.lis = { s.lis with awaitDeadline := none, stalled := s.lis.stalled ++ [(s.lis.stage + 1).toNat] } ∧ t.seq = s.seq
              ∧ ((∃ r ∈ t.table.records, r.sig = signature 6 (s.lis.stage + 1).toNat ∧ r.lastReport = s.clock)
                  ∨ 48 ≤ t.table.records.length))
        ∧ (RunOut s s.lis.pulseDeadline → s.seq.phase = .stress →
            ∃ t, exec .pulseDeadline s = .next t ∧ t.seq.phase = .drain
              ∧ t.seq.drainDeadline = some (s.clock + BitVec.ofNat 32 p.drainTimeout) ∧ t.lis.pulseDeadline = none ∧ t.lis.parser = .hunt
              ∧ ((∃ r ∈ t.table.records, r.sig = 0x9000#16 ∧ r.lastReport = s.clock) ∨ 48 ≤ t.table.records.length)
              ∧ SameBut [.freeIndex, .run, .port, .seq, .rail, .lis, .table, .judge, .store] s t)
        ∧ (¬RunOut s s.lis.awaitDeadline → exec .awaitedStageDeadline s = .next s)
        ∧ ((¬RunOut s s.lis.pulseDeadline ∨ s.seq.phase ≠ .stress) → exec .pulseDeadline s = .next s))

/-! ### The sighting table and the judge -/

/-- A fault report, as FRAMING_ERROR makes it (R101, R116, R118 to R121, R124): a new signature gets a record at the end of the creation order, or is lost
with TABLE_FULL where 48 are held; a known one counts a repeat within the re-arm time of its last occurrence, and a new occurrence from then on. The
framing error itself puts the parser into HUNT and clears the idle flag. The occurrence that a report opens (R122, R123, R140, R141): with room it
joins the queue with its close time t + W + H and the stored echoes that match it, and with a full queue it is refused with OCC_FULL; either way a
SIGHTING with the occurrence's time goes to all stations, or is refused with OUTBOUND_FULL, which leaves the occurrence as it is. All this holds of the first
occurrence of a new record too, whose snapshot trigger may be answered MISSED with SNAP_MISSED (R126, R153). -/
def Obligations.FaultReportTaken : Prop :=
  (∀ (s : State) (p : Profile), Hearing p s →
      ∃ t, exec .framingError s = .next t
        ∧ t.lis = { s.lis with parser := .hunt, gapDeadline := none, idleFlag := false } ∧ t.seq = s.seq
        ∧ (s.table.find 0xA000#16 = none → s.table.records.length < 48 →
            (∃ r, t.table.records = s.table.records ++ [r] ∧ r.sig = 0xA000#16 ∧ r.firstSeen = s.clock ∧ r.lastReport = s.clock
              ∧ r.firstCycle = s.seq.cycle ∧ r.firstPhase = s.seq.phase ∧ r.occurrences = 1 ∧ r.repeats = 0 ∧ r.localCount = 0
              ∧ r.commonCount = 0 ∧ r.late = 0 ∧ r.lastOccurrence = s.clock ∧ r.lastClosed = none
              ∧ r.unjudged = (if s.judge.occurrences.length < 8 then 0 else 1)
              ∧ ((p.classOf 0xA000#16).snapshot = false → r.snapshot = .absent))
            ∧ (∀ h, h < 64 → t.table.mask.getLsbD h = (s.table.mask.getLsbD h || decide (h = hash6 0xA000#16))))
        ∧ (s.table.find 0xA000#16 = none → 48 ≤ s.table.records.length →
            t.table = { s.table with firstLost := match s.table.firstLost with | none => some 0xA000#16 | some x => some x }
            ∧ t.judge = s.judge ∧ t.store = s.store ∧ t.run.conds.tableFull = true)
        ∧ (∀ r, s.table.find 0xA000#16 = some r → (s.clock - r.lastOccurrence).toInt < p.rearm →
            t.table.find 0xA000#16 = some { r with lastReport := s.clock, repeats := satInc r.repeats }
            ∧ t.judge = s.judge ∧ t.store = s.store ∧ t.port = s.port ∧ t.run = s.run)
        ∧ (∀ r, s.table.find 0xA000#16 = some r → p.rearm ≤ (s.clock - r.lastOccurrence).toInt →
            t.table.find 0xA000#16 = some { r with
              lastReport := s.clock, occurrences := satInc r.occurrences, lastOccurrence := s.clock
              unjudged := if s.judge.occurrences.length < 8 then r.unjudged else satInc r.unjudged }
            ∧ t.store = s.store))
    ∧ (∀ (s : State) (p : Profile), Hearing p s →
      (s.table.find 0xA000#16 = none ∧ s.table.records.length < 48
        ∨ ∃ r, s.table.find 0xA000#16 = some r ∧ p.rearm ≤ (s.clock - r.lastOccurrence).toInt) →
      ∃ t u v w taken, exec .framingError s = .next t ∧ SameBut [.freeIndex, .run, .port, .lis, .table, .judge, .store] s t
        ∧ (s.judge.occurrences.length < 8 → u = s) ∧ (8 ≤ s.judge.occurrences.length → ConditionSet .occFull s u)
        ∧ Handed (handedAs (.sighting 0xA000#16 s.seq.cycle s.seq.phase.code) 0#8 s) u v taken
        ∧ (SnapshotMissed p 0xA000#16 s → ConditionSet .snapMissed v w) ∧ (¬SnapshotMissed p 0xA000#16 s → w = v)
        ∧ t.port = w.port ∧ t.run = w.run
        ∧ (s.table.find 0xA000#16 ≠ none ∨ (p.classOf 0xA000#16).snapshot = false → t.store = s.store ∧ t.freeIndex = s.freeIndex)
        ∧ (8 ≤ s.judge.occurrences.length → t.judge = s.judge ∧ t.run.conds.occFull = true)
        ∧ (s.judge.occurrences.length < 8 →
            t.judge.echoes = s.judge.echoes ∧ ∃ o, t.judge.occurrences = s.judge.occurrences ++ [o]
              ∧ o.sig = 0xA000#16 ∧ o.time = s.clock ∧ o.closeTime = s.clock + BitVec.ofNat 32 (p.window + p.holdOff)
              ∧ (∀ b, b ∈ o.matched ↔ ∃ e ∈ s.judge.echoes, e.kind = .sighting 0xA000#16 ∧ e.source = b
                  ∧ ((e.eventTime - s.clock).toInt).natAbs ≤ p.window + e.allowance)
              ∧ (o.sagFlag = true ↔ ∃ e ∈ s.judge.echoes, e.kind = .sag
                  ∧ ((e.eventTime - s.clock).toInt).natAbs ≤ p.window + e.allowance)))

/-- OCCURRENCE_CLOSE (R127, R144, R145): the oldest open occurrence, at its close time, is common with Q matched peers or with a sag for a
supply-sensitive class, and local otherwise; its record counts it, and no other record changes. A local close that meets a non-zero threshold under
stop-on-fail stops the run by its phase (R74): OFF with the end reason STOPPED from WAITING, where the claim ends, and from REST; DRAIN with the end request
STOPPED from RAMP, with SETTLED(3), from BOOT and from STRESS; in DRAIN the end request alone; nothing in OFF. The close that leaves no occurrence open lets
the closing work advance (R11). -/
def Obligations.OccurrenceCloses : Prop :=
  ∀ (s : State) (p : Profile) (o : Occurrence) (rest : List Occurrence) (r : Record),
    s.profile = some p → s.judge.occurrences = o :: rest → s.table.find o.sig = some r →
    ((s.clock - o.closeTime).toInt < 0 → exec .occurrenceClose s = .next s)
      ∧ (0 ≤ (s.clock - o.closeTime).toInt →
          ∃ t, exec .occurrenceClose s = .next t ∧ t.judge = { s.judge with occurrences := rest }
            ∧ t.table.records.map Record.sig = s.table.records.map Record.sig ∧ t.table.mask = s.table.mask ∧ t.table.firstLost = s.table.firstLost
            ∧ (∀ g, g ≠ o.sig → t.table.find g = s.table.find g)
            ∧ ((p.quorum ≤ o.matched.length ∨ (o.sagFlag = true ∧ (p.classOf o.sig).supplySensitive = true)) →
              t.table.find o.sig = some { r with commonCount := satInc r.commonCount, lastClosed := some o.time })
            ∧ (¬(p.quorum ≤ o.matched.length ∨ (o.sagFlag = true ∧ (p.classOf o.sig).supplySensitive = true)) →
              t.table.find o.sig = some { r with localCount := satInc r.localCount, lastClosed := some o.time })
            ∧ (¬CloseStops p s ∨ s.seq.phase = .off →
              t.closing = (if s.closing = .drain ∧ rest = [] then .headers else s.closing) ∧ SameBut [.table, .judge, .closing] s t)
            ∧ (CloseStops p s → ∀ request, request = (if s.seq.endRequest = .none then .stopped else s.seq.endRequest) →
              (s.seq.phase = .ramp ∨ s.seq.phase = .boot ∨ s.seq.phase = .stress →
                  t.seq = { s.seq with phase := .drain, rampDeadline := none, onDeadline := none, offDeadline := none, endRequest := request
                                       drainDeadline := some (s.clock + BitVec.ofNat 32 p.drainTimeout)
                                       lines := { switchClosed := false, resetAsserted := true, strapDriven := false, listenerEnabled := false } }
                  ∧ t.closing = (if s.closing = .drain ∧ rest = [] then .headers else s.closing)
                  ∧ (s.seq.phase = .ramp → StandingEnded 3#8 s t)
                  ∧ (s.seq.phase ≠ .ramp → t.claim = s.claim ∧ t.port = s.port)
                  ∧ SameBut [.port, .claim, .seq, .rail, .lis, .table, .judge, .closing] s t)
              ∧ (s.seq.phase = .drain →
                  t.seq = { s.seq with endRequest := request }
                  ∧ t.closing = (if s.closing = .drain ∧ rest = [] then .headers else s.closing)
                  ∧ SameBut [.seq, .table, .judge, .closing] s t)
              ∧ (s.seq.phase = .waiting ∨ s.seq.phase = .rest →
                  t.seq.phase = .off ∧ t.seq.endRequest = .none ∧ t.seq.offDeadline = none ∧ t.seq.cycle = s.seq.cycle ∧ t.seq.done = s.seq.done
                  ∧ t.run = { s.run with state := .closing, endReason := .stopped, endTime := s.clock }
                  ∧ t.closing = (if rest = [] then .headers else .drain)
                  ∧ (s.seq.phase = .rest → t.claim = s.claim ∧ t.port = s.port)
                  ∧ SameBut [.run, .port, .claim, .seq, .rail, .lis, .table, .judge, .closing] s t)))

/-! ### The snapshot store -/

/-- The first occurrence of a signature whose class has its snapshot flag, as FRAMING_ERROR opens it (R126, R152, R153, R154, R157): with an IDLE engine
the lowest EMPTY slot becomes CAPTURING, with copies of the newest pre-count rounds and of the newest 128 trace bytes to write, and the port goes to
the capture, a read that runs being suspended at a byte, no earlier than where it last resumed, that the model leaves free (log entry 12); otherwise the answer is MISSED, with SNAP_MISSED
and the first missed signature. The record keeps the answer. -/
def Obligations.SnapshotTriggered : Prop :=
  ∀ (s : State) (p : Profile), Hearing p s → s.table.find 0xA000#16 = none → s.table.records.length < 48 →
    (p.classOf 0xA000#16).snapshot = true →
    (∀ i, i < 8 → s.store.engine = .idle → s.store.slots.get i = none → (∀ j, j < i → s.store.slots.get j ≠ none) →
      ∃ t, exec .framingError s = .next t ∧ (∃ r ∈ t.table.records, r.sig = 0xA000#16 ∧ r.snapshot = .slot i)
        ∧ t.store.slots = s.store.slots.set i (some
            { complete := false, sig := 0xA000#16, time := s.clock, preCount := min p.preRounds s.rail.ring.length, postCount := p.postRounds,
              postTaken := 0, traceCount := min 128 s.lis.trace.length, headBytes := [], postBytes := [], traceBytes := [], checksum := 0#32 })
        ∧ t.store.engine = .pre i (s.rail.ring.drop (s.rail.ring.length - p.preRounds)) (s.lis.trace.drop (s.lis.trace.length - 128))
        ∧ t.store.port = .capture ∧ t.store.firstMissed = s.store.firstMissed
        ∧ (∀ r m, s.store.readout = some r → r.stage = .reading m →
            ∃ n, n ≤ 20 ∧ (m ≤ (pieceAt (s.store.contentOf r.slot) r.offset).length → m ≤ n)
              ∧ t.store.readout = some { r with stage := .suspended n })
        ∧ ((∀ r m, s.store.readout = some r → r.stage ≠ .reading m) → t.store.readout = s.store.readout ∧ t.freeIndex = s.freeIndex))
      ∧ ((s.store.engine ≠ .idle ∨ ∀ i, i < 8 → s.store.slots.get i ≠ none) →
          ∃ t, exec .framingError s = .next t ∧ (∃ r ∈ t.table.records, r.sig = 0xA000#16 ∧ r.snapshot = .missed)
            ∧ t.store = { s.store with firstMissed := match s.store.firstMissed with | none => some 0xA000#16 | some x => some x }
            ∧ t.run.conds.snapMissed = true)

/-- PRE_SEGMENT_WRITE_END and POST_ROUND_WRITE_END (R154, R155, R156, R157): the bytes are stored and summed; the slot is COMPLETE and the engine IDLE when
the post count is reached, and the engine goes on in POST until then. The capture's release grants the port to a readout that waits, which reads from its
piece's first byte, or that is suspended, which resumes at the byte where it stopped; otherwise the port is free. -/
def Obligations.CaptureWrites : Prop :=
  ∀ (s : State) (i : Nat) (x : Snapshot) (port : PortHolder) (readout : Option Readout), i < 8 → s.store.slots.get i = some x →
    ((s.store.readout = none ∧ readout = none ∧ port = .free)
      ∨ (∃ r, s.store.readout = some r ∧ r.stage = .waiting ∧ readout = some { r with stage := .reading 0 } ∧ port = .readout)
      ∨ (∃ r n, s.store.readout = some r ∧ r.stage = .suspended n ∧ readout = some { r with stage := .reading n } ∧ port = .readout)
      ∨ (∃ r, s.store.readout = some r ∧ (r.stage = .held ∨ r.stage = .dataQueued ∨ r.stage = .finalQueued) ∧ readout = some r ∧ port = .free)) →
    (∀ rounds trace, s.store.engine = .pre i rounds trace →
        ∃ y, exec .preSegmentWriteEnd s =
              .next { s with
                store := { s.store with
                  slots := s.store.slots.set i (some y), engine := if x.postCount = 0 then .idle else .post i none
                  port := port, readout := readout } }
          ∧ y.headBytes = be16 x.sig ++ be32 x.time
              ++ [BitVec.ofNat 8 x.preCount, BitVec.ofNat 8 x.postCount, BitVec.ofNat 8 x.traceCount] ++ rounds.flatMap roundBytes
          ∧ y.traceBytes = trace ∧ y.postBytes = x.postBytes ∧ y.checksum = x.checksum + byteSum (y.headBytes ++ trace)
          ∧ y.complete = decide (x.postCount = 0))
      ∧ (∀ r, s.store.engine = .post i (some r) →
          ∃ y, exec .postRoundWriteEnd s =
                .next { s with
                  store := { s.store with
                    slots := s.store.slots.set i (some y), engine := if x.postCount ≤ x.postTaken + 1 then .idle else .post i none
                    port := port, readout := readout } }
            ∧ y.headBytes = x.headBytes ∧ y.traceBytes = x.traceBytes ∧ y.postBytes = x.postBytes ++ roundBytes r
            ∧ y.postTaken = x.postTaken + 1 ∧ y.checksum = x.checksum + byteSum (roundBytes r)
            ∧ y.complete = decide (x.postCount ≤ x.postTaken + 1))

/-- PIECE_READ_END (R157, R159, R161): the port is released and the piece of at most 20 bytes is handed as a DETAIL, or held while a DETAIL is still
queued; refused by a full queue, it ends the readout with REFUSED. A DETAIL sent (R159, R160), whatever stands behind it in the queue and whatever the alert:
after a data piece that is not the last the next is requested of the port, or waits where the capture holds the port (R157); after the last the final piece
follows, with the slot's length as offset and its checksum; after the final piece the readout ends with SENT. The departure of a DETAIL of an earlier readout
releases a held first piece (R159). A PENDING alert is handed again at the same departure, in either order (R184; log entry 9). Bits 1..7 of the flags byte
are 0 by the model's choice (log entry 18). -/
def Obligations.ReadoutPieces : Prop :=
  (∀ (s : State) (r : Readout) (m : Nat) (released : State), s.store.readout = some r → r.stage = .reading m →
      released = { s with store := { s.store with port := if s.store.port = .readout then .free else s.store.port } } →
      (s.port.queue.any Notice.isDetail = true →
          exec .pieceReadEnd s = .next { released with store := { released.store with readout := some { r with stage := .held } } })
        ∧ (s.port.queue.any Notice.isDetail = false →
            ∃ t, exec .pieceReadEnd s = .next t ∧ PieceHanded r (dataPiece r (s.store.contentOf r.slot)) .dataQueued released t))
    ∧ (∀ (s : State) (b bt : Nat) (f : List Byte) (n : Notice) (q : List Notice) (alertFirst : Bool),
      s.port.tx = .send b f → s.port.queue = n :: q → b + 8 * f.length ≤ bt → n.isDetail = true →
      ∃ t, exec (.attemptCompletion bt alertFirst) s = .next t
        ∧ DetailLeft alertFirst { s with port := s.port.headGone (b + 8 * f.length) q } t)

/-! ### Closing work and tray tag -/

/-- The tag plan (R170). A candidate is a valid slot whose next sequence no other valid slot holds; the newest has the greatest sequence, and the lowest
number among those; the target is the slot after it with its next sequence, or slot 0 with sequence 0 where no slot is a candidate. -/
def Obligations.TagPlan : Prop :=
  ∀ (h : SlotHeaders) (marker seq : Nat → Byte),
    (marker 0 = h.s0.marker ∧ marker 1 = h.s1.marker ∧ marker 2 = h.s2.marker ∧ marker 3 = h.s3.marker) →
    (seq 0 = h.s0.sequence ∧ seq 1 = h.s1.sequence ∧ seq 2 = h.s2.sequence ∧ seq 3 = h.s3.sequence) →
    ∀ candidate : Nat → Prop,
      (∀ i, candidate i ↔ i < 4 ∧ marker i = 0xC5#8 ∧ ∀ j, j < 4 → j ≠ i → marker j = 0xC5#8 → seq j ≠ seq i + 1#8) →
      ((∀ i, ¬candidate i) → tagPlan h = (0, 0#8))
        ∧ ∀ i, candidate i → (∀ j, candidate j → (seq j).toNat < (seq i).toNat ∨ (seq j = seq i ∧ i ≤ j)) →
            tagPlan h = ((i + 1) % 4, seq i + 1#8)

/-- The verdict (R166), at each of its instants (R165): the end or the failure of the header read, and a tray removal in CLOSING before step 3, which drops
the open occurrences first (R12, R14). FAIL by a met threshold, else INCOMPLETE by ABORTED or TABLE_FULL, else SUSPECT by the common or unjudged total,
else PASS. The totals are those of R167. -/
def Obligations.Verdict : Prop :=
  (∀ (c : Instr) (s : State) (p : Profile), VerdictInstant c s → s.profile = some p →
      ∃ t, exec c s = .next t
        ∧ t.table = (if s.closing = .drain then { s.table with
            records := s.table.records.map (fun r => { r with unjudged := satInc^[s.openOf r.sig] r.unjudged }) } else s.table)
        ∧ t.run.conds.aborted = s.run.conds.aborted ∧ t.run.conds.tableFull = s.run.conds.tableFull
        ∧ ((∃ r ∈ t.table.records, 0 < (p.classOf r.sig).threshold ∧ (p.classOf r.sig).threshold ≤ r.localCount) → t.run.verdict = .fail)
        ∧ ((∀ r ∈ t.table.records, (p.classOf r.sig).threshold = 0 ∨ r.localCount < (p.classOf r.sig).threshold) →
            ((s.run.conds.aborted = true ∨ s.run.conds.tableFull = true) → t.run.verdict = .incomplete)
            ∧ (s.run.conds.aborted = false → s.run.conds.tableFull = false →
                (p.suspectLimit ≤ min ((t.table.records.map Record.commonCount).sum) 65535
                  ∨ 1 ≤ min ((t.table.records.map Record.unjudged).sum) 65535 → t.run.verdict = .suspect)
                ∧ (min ((t.table.records.map Record.commonCount).sum) 65535 < p.suspectLimit →
                    (t.table.records.map Record.unjudged).sum = 0 → t.run.verdict = .pass))))
    ∧ (∀ (s : State) (p : Profile) (h : SlotHeaders), s.closing = .headers → s.profile = some p →
      ∃ t, exec (.slotHeaderReadEnd h) s = .next t ∧ t.run = { s.run with verdict := t.run.verdict } ∧ SameBut [.run, .closing, .tag, .openMarker] s t)

/-- The docket and the six writes (R171, R172, R189): write 1 clears the marker of the target slot, writes 2 to 5 carry bytes 1..63, write 6 sets the
marker 0xC5; the docket is 64 bytes, with verdict, cycles done, station ID, profile tag, totals, identity, leading records and run end time at their
offsets. The leading records are the first four by local count, common count, time since the run start and creation (R168). Of the tag the read tells the
eight bytes read; the other bytes of a slot stay as R174 left them, and are unknown where what was read is not what the part's own transfers can have left (log entry 10). -/
def Obligations.DocketWrites : Prop :=
  ∀ (s : State) (p : Profile) (h : SlotHeaders), s.closing = .headers → s.profile = some p →
    (∀ l, s.lis.identity = some l → l.length ≤ 16) →
    ∃ t w, exec (.slotHeaderReadEnd h) s = .next t ∧ t.closing = .write w ∧ w.number = 1 ∧ w.poll = none
      ∧ w.slot = (tagPlan h).1 ∧ w.docket.length = 64
      ∧ w.docket.take 7 = [0xC5#8, (tagPlan h).2, t.run.verdict.code, s.seq.done, s.port.stationId.setWidth 8] ++ be16 p.profileTag
      ∧ (w.docket.drop 7).take 8 =
          count16 (min ((s.table.records.map Record.occurrences).sum) 65535) ++ count16 (min ((s.table.records.map Record.localCount).sum) 65535)
            ++ count16 (min ((s.table.records.map Record.commonCount).sum) 65535) ++ count16 (min ((s.table.records.map Record.unjudged).sum) 65535)
      ∧ (w.docket.drop 15).take 17 = (match s.lis.identity with
          | none => List.replicate 17 0#8
          | some l => [BitVec.ofNat 8 l.length] ++ l ++ List.replicate (16 - l.length) 0#8)
      ∧ (∃ order : List Nat, order.Perm (List.range s.table.records.length)
          ∧ order.Pairwise (RanksBefore s.run.startTime s.table.records)
          ∧ ∃ lead, lead = (order.take 4).filterMap (fun i => s.table.records[i]?)
            ∧ w.summary.leading = lead.map (fun r => { sig := r.sig, localCount := r.localCount, commonCount := r.commonCount,
                                                        firstCycle := r.firstCycle })
            ∧ (w.docket.drop 32).take 28 =
                lead.flatMap (fun r => be16 r.sig ++ be16 (BitVec.ofNat 16 r.localCount) ++ be16 (BitVec.ofNat 16 r.commonCount) ++ [r.firstCycle])
                  ++ List.replicate (28 - 7 * lead.length) 0#8)
      ∧ (∀ i (x : SlotHeader), (i = 0 ∧ x = h.s0) ∨ (i = 1 ∧ x = h.s1) ∨ (i = 2 ∧ x = h.s2) ∨ (i = 3 ∧ x = h.s3) →
          Memory.read t.tag (64 * i) = some x.marker ∧ Memory.read t.tag (64 * i + 1) = some x.sequence
          ∧ (SlotAgrees i x s → ∀ a, 64 * i + 2 ≤ a → a < 64 * i + 64 → Memory.read t.tag a = Memory.read s.tag a)
          ∧ (¬SlotAgrees i x s → ∀ a, 64 * i + 2 ≤ a → a < 64 * i + 64 → Memory.read t.tag a = none))
      ∧ t.openMarker = none
      ∧ w.docket.drop 60 = be32 s.run.endTime
      ∧ ({ w with number := 1 } : DocketWrite).data = [0x00#8] ∧ ({ w with number := 1 } : DocketWrite).target = 64 * w.slot
      ∧ ({ w with number := 2 } : DocketWrite).data = (w.docket.drop 1).take 15 ∧ ({ w with number := 2 } : DocketWrite).target = 64 * w.slot + 1
      ∧ ({ w with number := 3 } : DocketWrite).data = (w.docket.drop 16).take 16 ∧ ({ w with number := 3 } : DocketWrite).target = 64 * w.slot + 16
      ∧ ({ w with number := 4 } : DocketWrite).data = (w.docket.drop 32).take 16 ∧ ({ w with number := 4 } : DocketWrite).target = 64 * w.slot + 32
      ∧ ({ w with number := 5 } : DocketWrite).data = (w.docket.drop 48).take 16 ∧ ({ w with number := 5 } : DocketWrite).target = 64 * w.slot + 48
      ∧ ({ w with number := 6 } : DocketWrite).data = [0xC5#8] ∧ ({ w with number := 6 } : DocketWrite).target = 64 * w.slot

/-- TAG_WRITE_END and POLL_ACKNOWLEDGE (R172, R173, R176): the poll deadline is 10 ms from the end of the write, and until it is confirmed the tag may have
taken it or not (R174); an acknowledge confirms the write, whose bytes then stand in the tag and no other byte changes, and the next write begins; after
write 6 the VERDICT goes out with the flag 1, or is refused with OUTBOUND_FULL, and DONE is entered. -/
def Obligations.TagWriteConfirmed : Prop :=
  ∀ (s : State) (p : Profile) (w : DocketWrite), s.closing = .write w → s.profile = some p →
    (w.poll = none →
        ∃ t, exec .tagWriteEnd s = .next t ∧ t.closing = .write { w with poll := some (s.clock + 10#32) }
          ∧ CutOff w s t ∧ SameBut [.closing, .tag, .openMarker] s t)
      ∧ (∀ d, w.poll = some d →
          ∃ t, exec .pollAcknowledge s = .next t ∧ t.openMarker = none
            ∧ (∀ i (hi : i < w.data.length), Memory.read t.tag (w.target + i) = some w.data[i])
            ∧ (∀ a, (a < w.target ∨ w.target + w.data.length ≤ a) → Memory.read t.tag a = Memory.read s.tag a)
            ∧ (w.number < 6 →
                t.closing = .write { w with number := w.number + 1, poll := none } ∧ SameBut [.closing, .tag, .openMarker] s t)
            ∧ (6 ≤ w.number → t.closing = .none ∧ SameBut [.run, .port, .closing, .tag, .openMarker] s t
                ∧ ∃ v taken, Handed (handedAs (.verdict (s.verdictPayload p w.summary true)) 0#8 s) s v taken
                    ∧ t.port = v.port ∧ t.run = { v.run with state := .done }))

/-- A failure of the tray tag (R12, R60, R166, R173, R174, R175, R176): TAG_FAILED is set, the VERDICT is handed over with the flag 0, to be refused with
OUTBOUND_FULL by a full queue and discarded in standalone, and DONE is entered; a failed header read computes the verdict all the same, as its end would
have. A write not acknowledged at its start leaves the tag as it was; one that fails later, and one that a fixture change cuts off, leaves what R174 says. A
poll that has not timed out goes on. -/
def Obligations.TagFailure : Prop :=
  (∀ (s : State) (p : Profile), s.profile = some p →
      (∀ w d, s.closing = .write w → w.poll = some d → 0 ≤ (s.clock - d).toInt →
          ∃ t, exec .pollTimeout s = .next t ∧ FailureAnnounced (s.verdictPayload p w.summary false) s t
            ∧ t.run.verdict = s.run.verdict ∧ t.tag = s.tag ∧ t.openMarker = s.openMarker)
        ∧ (∀ w d, s.closing = .write w → w.poll = some d → (s.clock - d).toInt < 0 → exec .pollTimeout s = .next s)
        ∧ (∀ w atStart, s.closing = .write w → w.poll = none →
            ∃ t, exec (.tagNoAcknowledge atStart) s = .next t ∧ FailureAnnounced (s.verdictPayload p w.summary false) s t
              ∧ t.run.verdict = s.run.verdict
              ∧ (atStart = true → t.tag = s.tag ∧ t.openMarker = s.openMarker) ∧ (atStart = false → CutOff w s t))
        ∧ (∀ atStart h, s.closing = .headers →
            ∃ t u, exec (.tagNoAcknowledge atStart) s = .next t ∧ exec (.slotHeaderReadEnd h) s = .next u
              ∧ FailureAnnounced (u.verdictPayload p s.summary false) s t
              ∧ t.run.verdict ≠ .none ∧ t.run.verdict = u.run.verdict ∧ t.tag = s.tag ∧ t.openMarker = s.openMarker))
    ∧ (∀ (s : State), EdgeDue s s.panel.fixture false →
      ∃ t, exec .fixtureChange s = .next t ∧ t.closing = .none
        ∧ (∀ w, s.closing = .write w → CutOff w s t)
        ∧ ((∀ w, s.closing ≠ .write w) → t.tag = s.tag ∧ t.openMarker = s.openMarker))

/-! ### The profile load -/

/-- PROFILE_HEADER_READ_END and PROM_NO_ACKNOWLEDGE (R17, R178, R179): a length of 64..512 begins the image read; a length out of range and a missing PROM
refuse the load: PROFILE_BAD set, PROFILE_CLAMPED cleared, no field applied. IMAGE_READ_END (R17, R95, R98, R178, R179, R180): an image that passes
the CRC, format and cover checks becomes the profile, clamped, with READY and the conditions by whether a field was clamped; one that fails a check is
refused. That the first two commands change nothing with no load in progress is the model's choice (log entry 2). -/
def Obligations.ProfileLoadOutcomes : Prop :=
  (∀ (s : State) (hi lo : Byte),
      (s.load = .header → 64 ≤ hi.toNat * 256 + lo.toNat → hi.toNat * 256 + lo.toNat ≤ 512 →
          exec (.profileHeaderReadEnd hi lo) s = .next { s with load := .image (hi.toNat * 256 + lo.toNat) })
        ∧ (s.load = .header → (hi.toNat * 256 + lo.toNat < 64 ∨ 512 < hi.toNat * 256 + lo.toNat) →
            ∃ t, exec (.profileHeaderReadEnd hi lo) s = .next t ∧ t.load = .idle ∧ t.run.state = s.run.state
              ∧ t.run.conds.profileBad = true ∧ t.run.conds.profileClamped = false ∧ SameBut [.load, .run, .port] s t)
        ∧ (s.load ≠ .idle →
            ∃ t, exec .promNoAcknowledge s = .next t ∧ t.load = .idle ∧ t.run.state = s.run.state
              ∧ t.run.conds.profileBad = true ∧ t.run.conds.profileClamped = false ∧ SameBut [.load, .run, .port] s t)
        ∧ (s.load = .idle → exec .promNoAcknowledge s = .next s ∧ exec (.profileHeaderReadEnd hi lo) s = .next s))
    ∧ (∀ (s : State) (l : List Byte), s.load = .image l.length →
      ((crc16 (l.take (l.length - 2)) = wordAt l (l.length - 2) ∧ nat8At l 2 = 1 ∧ 187 + 4 * min (nat8At l 184) 16 ≤ l.length) →
          ∃ t, exec (.imageReadEnd l) s = .next t ∧ t.profile = some (rawProfile l).clamp ∧ t.run.state = .ready ∧ t.load = .idle
            ∧ t.run.conds.profileBad = false ∧ t.run.conds.profileClamped = decide ((rawProfile l).clamp ≠ rawProfile l)
            ∧ t.rail.sag = .armed 0 ∧ t.rail.tripCount = 0 ∧ t.rail.ring = s.rail.ring ∧ t.rail.values = s.rail.values
            ∧ SameBut [.profile, .run, .load, .rail, .port] s t)
        ∧ (¬(crc16 (l.take (l.length - 2)) = wordAt l (l.length - 2) ∧ nat8At l 2 = 1 ∧ 187 + 4 * min (nat8At l 184) 16 ≤ l.length) →
            ∃ t, exec (.imageReadEnd l) s = .next t ∧ t.load = .idle ∧ t.run.state = s.run.state
              ∧ t.run.conds.profileBad = true ∧ t.run.conds.profileClamped = false ∧ SameBut [.load, .run, .port] s t))

/-- The clamps of R180. A clamped profile lies in every range, and a profile that already lies in the ranges is left as it is. Each field that lies outside
goes to the value the table names: the nearer bound, but baud codes above 5 to 3, pulse intervals 1..99 to 100, E_hi to E_lo + 4095, w against the clamped
A, P2 to 256 − P1 after both have been limited to 192, and low and high swapped. Fields not listed are taken as read. -/
def Obligations.ClampRanges : Prop :=
  ∀ p : Profile,
    p.clamp.InRanges ∧ (p.InRanges → p.clamp = p)
      ∧ p.clamp.allowance = (if p.allowance = 0 then 1 else if 4095 < p.allowance then 4095 else p.allowance)
      ∧ p.clamp.weight = (if p.weight = 0 then 1 else if p.clamp.allowance < p.weight then p.clamp.allowance else p.weight)
      ∧ p.clamp.duration = (if p.duration < 50 then 50 else if 10000 < p.duration then 10000 else p.duration)
      ∧ p.clamp.cycles = (if p.cycles = 0 then 1 else p.cycles) ∧ p.clamp.onTime = (if p.onTime < 10 then 10 else p.onTime)
      ∧ p.clamp.offTime = (if p.offTime = 0 then 1 else p.offTime)
      ∧ p.clamp.drainTimeout = (if p.drainTimeout < 100 then 100 else if 10000 < p.drainTimeout then 10000 else p.drainTimeout)
      ∧ p.clamp.window = (if p.window < 1 then 1 else if 4000 < p.window then 4000 else p.window)
      ∧ p.clamp.holdOff = (if 1000 < p.holdOff then 1000 else p.holdOff)
      ∧ p.clamp.quorum = (if p.quorum = 0 then 1 else if 31 < p.quorum then 31 else p.quorum)
      ∧ p.clamp.rearm = (if 60000 < p.rearm then 60000 else p.rearm)
      ∧ p.clamp.suspectLimit = (if p.suspectLimit = 0 then 1 else p.suspectLimit)
      ∧ (∀ k, k < 8 → p.clamp.channels.get k = { p.channels.get k with
            scale := if (p.channels.get k).scale = 0 then 1 else (p.channels.get k).scale
            dwell := if (p.channels.get k).dwell = 0 then 1 else (p.channels.get k).dwell
            low := if (p.channels.get k).high < (p.channels.get k).low then (p.channels.get k).high else (p.channels.get k).low
            high := if (p.channels.get k).high < (p.channels.get k).low then (p.channels.get k).low else (p.channels.get k).high })
      ∧ p.clamp.tripDwell = (if p.tripDwell = 0 then 1 else p.tripDwell) ∧ p.clamp.sagDwell = (if p.sagDwell = 0 then 1 else p.sagDwell)
      ∧ p.clamp.sagHysteresis = (if 5000 < p.sagHysteresis then 5000 else p.sagHysteresis)
      ∧ p.clamp.baudCode = (if 5 < p.baudCode then 3 else p.baudCode)
      ∧ p.clamp.stageCount = (if 16 < p.stageCount then 16 else p.stageCount)
      ∧ p.clamp.stages = p.stages.map (fun st => { st with maxWait := if st.maxWait = 0 then 1 else st.maxWait })
      ∧ p.clamp.pulseInterval =
          (if 1 ≤ p.pulseInterval ∧ p.pulseInterval ≤ 99 then 100 else if 60000 < p.pulseInterval then 60000 else p.pulseInterval)
      ∧ p.clamp.errorHigh = (if p.errorLow + 4096 ≤ p.errorHigh then p.errorLow + 4095 else p.errorHigh)
      ∧ p.clamp.classes = p.classes.map (fun c => { c with threshold := if 15 < c.threshold then 15 else c.threshold })
      ∧ p.clamp.preRounds = (if 192 < p.preRounds then 192 else p.preRounds)
      ∧ p.clamp.postRounds =
          (if 256 < p.clamp.preRounds + (if 192 < p.postRounds then 192 else p.postRounds) then 256 - p.clamp.preRounds
           else if 192 < p.postRounds then 192 else p.postRounds)
      ∧ (p.clamp.profileTag = p.profileTag ∧ p.clamp.stopOnFail = p.stopOnFail ∧ p.clamp.tripLimit = p.tripLimit
          ∧ p.clamp.sagThreshold = p.sagThreshold ∧ p.clamp.leadByte = p.leadByte ∧ p.clamp.identityCode = p.identityCode
          ∧ p.clamp.pulseCode = p.pulseCode ∧ p.clamp.errorLow = p.errorLow ∧ p.clamp.watchPreset = p.watchPreset)

/-! ### Tray and fixture -/

/-- TRAY_REMOVAL (R13, R14, R15, R76, R165), on the line and in standalone: in RUNNING the run is abandoned with the phase OFF at once; in CLOSING the closing
work ends at its step with the VERDICT still handed over with the flag 0, TAG_FAILED not set, and a write cut off as R174 says; in DONE the run
state becomes READY; in READY and UNCONFIGURED only the switch changes. -/
def Obligations.TrayRemoval : Prop :=
  (∀ s : State, EdgeDue s s.panel.seat false →
      ((s.run.state = .ready ∨ s.run.state = .unconfigured) → exec .trayRemoval s = .next s.seatOpen)
        ∧ (s.run.state = .done → exec .trayRemoval s = .next { s.seatOpen with run := { s.run with state := .ready } })
        ∧ (s.run.state = .running →
            ∃ t, exec .trayRemoval s = .next t
              ∧ t.run = { s.run with state := .ready, endTime := s.clock, endReason := .removed }
              ∧ t.seq.phase = .off ∧ t.seq.cycle = s.seq.cycle ∧ t.seq.done = s.seq.done
              ∧ (s.seq.phase ≠ .off →
                  t.seq.lines = { switchClosed := false, resetAsserted := true, strapDriven := false, listenerEnabled := false })
              ∧ t.judge = { s.judge with occurrences := [] }
              ∧ t.table = { s.table with
                  records := s.table.records.map (fun r => { r with unjudged := satInc^[s.openOf r.sig] r.unjudged }) }
              ∧ (s.seq.phase = .ramp → s.claim.state = .standing →
                  t.claim.state = .idle ∧ (s.port.stationId ≠ 0#5 → ∃ n ∈ t.port.queue, n.content = .settled 3#8 ∧ n.target = 0#8))
              ∧ t.claim.roster = s.claim.roster ∧ t.rail.ring = s.rail.ring ∧ t.rail.sag = s.rail.sag ∧ t.lis.trace = s.lis.trace
              ∧ SameBut [.port, .claim, .seq, .rail, .lis, .table, .judge, .run] s.seatOpen t))
    ∧ (∀ (s : State) (p : Profile), EdgeDue s s.panel.seat false → s.profile = some p → s.run.state = .closing → s.closing ≠ .none →
      ∃ t m, exec .trayRemoval s = .next t ∧ t.closing = .none
        ∧ t.run = { s.run with state := .ready, verdict := t.run.verdict, conds := t.run.conds, alert := t.run.alert }
        ∧ (∃ v taken, Handed (handedAs (.verdict (t.verdictPayload p m false)) 0#8 s) s v taken
            ∧ t.port = v.port ∧ t.run.conds = v.run.conds ∧ t.run.alert = v.run.alert)
        ∧ ((s.closing = .drain ∨ s.closing = .headers) →
            t.run.verdict ≠ .none ∧ m = t.summary ∧ t.tag = s.tag ∧ t.openMarker = s.openMarker)
        ∧ (s.closing = .drain →
            t.judge = { s.judge with occurrences := [] }
            ∧ t.table = { s.table with
                records := s.table.records.map (fun r => { r with unjudged := satInc^[s.openOf r.sig] r.unjudged }) })
        ∧ (s.closing ≠ .drain → t.judge = s.judge ∧ t.table = s.table)
        ∧ (∀ w, s.closing = .write w → t.run.verdict = s.run.verdict ∧ m = w.summary ∧ CutOff w s t)
        ∧ SameBut [.run, .port, .table, .judge, .closing, .tag, .openMarker] s.seatOpen t)

/-- FIXTURE_CHANGE (R16, R77, R114, R117, R148, R164): everything that depends on the fixture is stopped and cleared in one instant; roster, alert, last
order result and the three load conditions are kept. The run times become 0 by the model's choice (log entry 11). -/
def Obligations.FixtureChange : Prop :=
  ∀ s : State, EdgeDue s s.panel.fixture false →
    ∃ t, exec .fixtureChange s = .next t
      ∧ t.profile = none ∧ t.load = .idle ∧ t.closing = .none
      ∧ t.run = { state := .unconfigured, verdict := .none, endReason := .none, startTime := 0#32, endTime := 0#32,
                  lastOrder := s.run.lastOrder, alert := s.run.alert,
                  conds := { profileBad := s.run.conds.profileBad, profileClamped := s.run.conds.profileClamped, idClash := s.run.conds.idClash,
                             echoFull := false, outboundFull := false, occFull := false, tableFull := false, snapMissed := false,
                             tagFailed := false, noticeDropped := false, aborted := false } }
      ∧ t.seq.phase = .off ∧ t.seq.cycle = 0#8 ∧ t.seq.done = 0#8 ∧ t.seq.endRequest = .none
      ∧ (s.seq.phase ≠ .off → t.seq = {
          phase := .off, cycle := 0#8, done := 0#8, endRequest := .none, rampDeadline := none, onDeadline := none, drainDeadline := none,
          offDeadline := none,
          lines := { switchClosed := false, resetAsserted := true, strapDriven := false, listenerEnabled := false } })
      ∧ t.table = { records := [], mask := 0#64, firstLost := none }
      ∧ t.judge = { echoes := [], occurrences := [], firstRefused := none }
      ∧ t.store = { slots := Eight.all none, engine := .idle, port := .free, readout := none, fetchResult := .none, firstMissed := none }
      ∧ t.rail.ring = [] ∧ t.rail.sag = .armed 0 ∧ t.rail.values = s.rail.values
      ∧ t.lis.trace = [] ∧ t.lis.identity = none ∧ t.lis.stage = -1 ∧ t.lis.stalled = []
      ∧ t.claim.roster = s.claim.roster
      ∧ (s.seq.phase = .ramp → s.claim.state = .standing → s.port.stationId ≠ 0#5 →
          ∃ n ∈ t.port.queue, n.content = .settled 3#8 ∧ n.target = 0#8)
      ∧ (s.seq.phase = .waiting → s.claim.state = .queued → s.port.claimOnWire = true →
          t.claim.state = .cancellingEnd ∧ t.port = { s.port with cancelAsked := true })
      ∧ t.panel = { s.panel with fixture := { s.panel.fixture with level := false, differing := 0 } }
      ∧ SameBut [.panel, .run, .profile, .load, .port, .claim, .seq, .rail, .lis, .table, .judge, .store, .closing, .tag, .openMarker] s t

/-! ### Encodings and computations -/

/-- The codes of phases (R1). -/
def Obligations.PhaseCodes : Prop :=
  Phase.code .off = 0#8 ∧ Phase.code .waiting = 1#8 ∧ Phase.code .ramp = 2#8 ∧ Phase.code .boot = 3#8 ∧ Phase.code .stress = 4#8
    ∧ Phase.code .drain = 5#8 ∧ Phase.code .rest = 6#8

/-- What goes over the wires. A notice (R22, R39, R187): sync pattern, kind, source, target, age, payload length, payload, and the CRC over header and payload,
with the kind codes and the payload of every kind that is sent; the age is the whole waiting time in ms, held at 65535 (log entry 7). The VERDICT payload
(R176), the 19 bytes of a STATUS and its condition bits (R183, R186), bits 11..15 being 0 by the model's choice (log entry 18), and the codes it
carries (R165, R182, R186). The line CRC (R22): one bit at a time into the register of
x^16 + x^12 + x^5 + 1 that starts at 0xFFFF, most significant bit first, so that the CRC of bytes with their own CRC is 0; the hash of a signature is its
top 6 bits (R125). The PROM bus (R181): the sequence of each of the four operations, the stop condition at a byte that is not acknowledged, and at an abandoned operation. -/
def Obligations.WireLayouts : Prop :=
  (∀ (source : Byte) (now : Time) (n : Notice) (body : List Byte),
      body = [n.content.kind, source, n.target] ++ be16 (BitVec.ofNat 16 (min (now - n.eventTime).toNat 65535))
          ++ [BitVec.ofNat 8 n.content.payload.length] ++ n.content.payload →
      frameBytes source now n = [0xB3#8, 0x8E#8] ++ body ++ be16 (crc16 body)
        ∧ frameBits (frameBytes source now n) = 80 + 8 * n.content.payload.length)
    ∧ (∀ w d c, Content.kind (.claim w d c) = 1#8 ∧ Content.payload (.claim w d c) = [w] ++ be16 d ++ [c])
    ∧ (Content.kind .withdraw = 2#8 ∧ Content.payload .withdraw = [])
    ∧ (∀ o, Content.kind (.settled o) = 3#8 ∧ Content.payload (.settled o) = [o])
    ∧ (∀ g c ph, Content.kind (.sighting g c ph) = 4#8 ∧ Content.payload (.sighting g c ph) = be16 g ++ [c, ph])
    ∧ (∀ v, Content.kind (.sag v) = 5#8 ∧ Content.payload (.sag v) = be16 v)
    ∧ (∀ l, Content.kind (.verdict l) = 6#8 ∧ Content.payload (.verdict l) = l ∧ Content.kind (.detail l) = 9#8 ∧ Content.payload (.detail l) = l)
    ∧ (∀ a c l, Content.kind (.status a c) = 8#8 ∧ Content.payload (.status a (some l)) = l)
    ∧ (∀ (s : State) (p : Profile) (m : Summary) (flag : Bool),
      s.verdictPayload p m flag =
        [s.run.verdict.code, s.run.endReason.code, m.done, BitVec.ofNat 8 p.cycles, BitVec.ofNat 8 m.records]
          ++ be16 (BitVec.ofNat 16 m.localTotal) ++ be16 (BitVec.ofNat 16 m.commonTotal) ++ be16 (BitVec.ofNat 16 m.unjudgedTotal)
          ++ be16 (BitVec.ofNat 16 m.lateTotal) ++ [if flag then 1#8 else 0#8]
          ++ be16 (match m.leading.head? with | none => 0#16 | some r => r.sig)
        ∧ (s.verdictPayload p m flag).length = 16)
    ∧ (∀ s : State,
      s.statusContent =
        [s.run.state.code, s.seq.phase.code, s.seq.cycle, (match s.profile with | none => 0#8 | some p => BitVec.ofNat 8 p.cycles),
          BitVec.ofNat 8 s.table.records.length, BitVec.ofNat 8 s.judge.occurrences.length, BitVec.ofNat 8 s.judge.echoes.length]
          ++ be16 s.run.conds.bits ++ be16 (s.table.firstLost.getD 0#16) ++ [s.judge.firstRefused.getD 0xFF#8]
          ++ be16 (s.store.firstMissed.getD 0#16)
          ++ [s.run.lastOrder.code, s.store.fetchResult.code, s.run.verdict.code, s.run.endReason.code, s.seq.done]
        ∧ s.statusContent.length = 19)
    ∧ (∀ (x : Conditions) (i : Nat), x.bits.getLsbD i =
        ([x.profileBad, x.profileClamped, x.idClash, x.echoFull, x.outboundFull, x.occFull, x.tableFull, x.snapMissed, x.tagFailed,
          x.noticeDropped, x.aborted].getD i false))
    ∧ [RunState.unconfigured, .ready, .running, .closing, .done].map RunState.code = [0#8, 1#8, 2#8, 3#8, 4#8]
    ∧ [Verdict.none, .pass, .fail, .suspect, .incomplete].map Verdict.code = [0#8, 1#8, 2#8, 3#8, 4#8]
    ∧ [EndReason.none, .complete, .stopped, .aborted, .removed].map EndReason.code = [0#8, 1#8, 2#8, 3#8, 4#8]
    ∧ [OrderResult.none, .accepted, .refusedState, .refusedUnseated, .badArgument].map OrderResult.code = [0#8, 1#8, 2#8, 3#8, 4#8]
    ∧ [FetchResult.none, .reading, .sent, .empty, .busy, .refused].map FetchResult.code = [0#8, 1#8, 2#8, 3#8, 4#8, 5#8]
    ∧ (∀ (r : BitVec 16) (b : Bool), crcBit r b = if (r.getLsbD 15 ^^ b) = true then (r <<< 1) ^^^ 0x1021#16 else r <<< 1)
    ∧ crc16 [] = 0xFFFF#16
    ∧ (∀ (l : List Byte) (b : Byte),
      crc16 (l ++ [b]) = [7, 6, 5, 4, 3, 2, 1, 0].foldl (fun r i => crcBit r (b.getLsbD i)) (crc16 l)
        ∧ crc16 (l ++ be16 (crc16 l)) = 0#16)
    ∧ (∀ g : Sig, hash6 g = (crc16 [g.extractLsb' 8 8, g.extractLsb' 0 8]).toNat / 1024 ∧ hash6 g < 64)
    ∧ (∀ (a n : Nat) (data : List BusEvent), 0 < n → data = List.replicate (n - 1) (.received true) ++ [.received false] →
      (BusOp.sequentialRead 0x52 a n).sequence =
          [.start, .address 0x52 false, .sent (BitVec.ofNat 8 (a / 256)), .sent (BitVec.ofNat 8 a), .repeatedStart, .address 0x52 true]
            ++ data ++ [.stop]
        ∧ (BusOp.sequentialRead 0x56 a n).sequence =
          [.start, .address 0x56 false, .sent (BitVec.ofNat 8 a), .repeatedStart, .address 0x56 true] ++ data ++ [.stop])
    ∧ (∀ (a : Nat) (l : List Byte) (b : Byte),
      (BusOp.pageWrite 0x56 a l).sequence = [.start, .address 0x56 false, .sent (BitVec.ofNat 8 a)] ++ l.map .sent ++ [.stop]
        ∧ (BusOp.singleByteWrite 0x56 a b).sequence = [.start, .address 0x56 false, .sent (BitVec.ofNat 8 a), .sent b, .stop]
        ∧ (BusOp.completionPoll 0x56).sequence = [.start, .address 0x56 false, .stop])
    ∧ (∀ (op : BusOp) (acks : List Bool) (n : Nat),
      (acks = List.replicate (op.sequence.countP BusEvent.toDevice) true → busRun op.sequence acks = (op.sequence, true))
        ∧ (∀ pre e post rest, op.sequence = pre ++ e :: post → e.toDevice = true →
            acks = List.replicate (pre.countP BusEvent.toDevice) true ++ false :: rest →
              busRun op.sequence acks = (pre ++ [e, .stop], false))
        ∧ op.abandoned n = op.sequence.take n ++ [.stop])

/-- The three displayed lamps (R18, R19). -/
def Obligations.Lamps : Prop :=
  ∀ s : State,
    (s.runLamp = .lit ↔ s.run.state = .running) ∧ (s.runLamp = .blinking ↔ s.run.state = .closing)
      ∧ (s.doneLamp = .lit ↔ s.run.state = .done ∧ s.run.verdict = .pass)
      ∧ (s.doneLamp = .blinking ↔ s.run.state = .done ∧ (s.run.verdict = .fail ∨ s.run.verdict = .suspect ∨ s.run.verdict = .incomplete))
      ∧ (s.faultLamp = .blinking ↔ s.run.conds.idClash = true ∨ s.run.conds.profileBad = true)
      ∧ (s.faultLamp = .lit ↔ s.run.conds.idClash = false ∧ s.run.conds.profileBad = false ∧ ∃ r ∈ s.table.records, 0 < r.localCount)
      ∧ ∀ now, Lamp.shines now .blinking = decide (now.toNat / 500 % 2 = 0)

/-! ### Invariants -/

/-- Every invariant below holds after power-on reset, with any straps. -/
def Obligations.InvariantsAtReset : Prop :=
  ∀ straps : BitVec 5, ∀ s, s = State.powerOn straps →
    s.WithinCapacity ∧ s.LinesOfPhase ∧ s.GeneratorAlive ∧ s.TagCanonical ∧ s.RosterOfPeers ∧ s.MatchesOfPeers ∧ s.Accounted
      ∧ s.StoreSound ∧ s.RunConsistent ∧ s.ClaimOfPhase ∧ s.QueueKept

/-- No step lets the non-step notices of the queue, the record table, the echo list, the occurrence queue or a ring grow beyond its capacity (R34, R96, R102,
R116, R135, R140). In a state whose blocks agree, no step lets the queue grow beyond 16 notices, nor take a second CLAIM or a second DETAIL (R34); in such a state one step
notice at most stands with the CLAIM, ahead of it. -/
def Obligations.CapacityKept : Prop :=
  (∀ s t : State, s.WithinCapacity → step s = .next t → t.WithinCapacity)
    ∧ (∀ s t : State, s.WithinCapacity → s.RunConsistent → s.ClaimOfPhase → s.QueueKept → step s = .next t →
      t.QueueKept ∧ t.port.queue.length ≤ 16 ∧ t.port.queue.countP Notice.isClaim ≤ 1 ∧ t.port.queue.countP Notice.isDetail ≤ 1)

/-- Every step leaves the outputs and the listener enable as the phase has them (R62). The backoff generator never holds 0 (R28), and what is known of the
tag keeps its canonical form, with an open marker one that no determined byte stands for and that may be 0x00 (R174). -/
def Obligations.LinesGeneratorTagKept : Prop :=
  (∀ s t : State, s.LinesOfPhase → step s = .next t → t.LinesOfPhase)
    ∧ (∀ s t : State, step s = .next t → (s.GeneratorAlive → t.GeneratorAlive) ∧ (s.TagCanonical → t.TagCanonical))

/-- The roster, the sighting echoes and the matched sets name peers only, each once, so that the roster has no more than its 31 entries (R44, R135, R140). -/
def Obligations.PeersKept : Prop :=
  ∀ s t : State, s.RosterOfPeers → s.MatchesOfPeers → step s = .next t →
    t.RosterOfPeers ∧ t.claim.roster.length ≤ 31 ∧ t.MatchesOfPeers

/-- Every occurrence is accounted for: occurrences = local + common + unjudged + open, for every record whose occurrences count has not saturated, with
one record for each signature and a record for each open occurrence (R116, R129). -/
def Obligations.OccurrencesAccounted : Prop := ∀ s t : State, s.Accounted → step s = .next t → t.Accounted

/-- Slots, checksums and the capture engine stay in agreement (R151, R154, R155, R156). -/
def Obligations.StoreKept : Prop := ∀ s t : State, s.StoreSound → step s = .next t → t.StoreSound

/-- Run state, profile, load, phase, closing work and claim state stay in agreement (sections 1.2 and 3.2). -/
def Obligations.RunStatesAgree : Prop := ∀ s t : State, s.RunConsistent → s.ClaimOfPhase → step s = .next t → t.RunConsistent ∧ t.ClaimOfPhase

/-! ### What is sent can be read -/

/-- The formats read back (R41, R43, R187, R188). A frame that this station sends, read by a peer past its sync pattern, is the command of its kind with the
same source, target, age and payload; that frames come whole is the model's choice (log entry 13). A VERDICT, a STATUS and a DETAIL are dispatched to no
consumer (R43), and that they come as FRAME_DISCARDED is the model's reading (log entry 17). An ORDER frame is the order of its operation and
argument. A frame that fails a check of R41, or whose carrier ends inside a byte, is discarded. A profile whose fields fit their places in the image is what a load
reads from its image, which passes the checks of R179. -/
def Obligations.FormatsReadBack : Prop :=
  (∀ (src target : Byte) (now e : Time) (k : Nat) (sync : Int) (h : Header), 1 ≤ src.toNat → src.toNat ≤ 31 →
      h = { sync := sync, source := src, target := target, age := BitVec.ofNat 16 (min (now - e).toNat 65535) } →
      (∀ w d c, frameCommand ⟨sync, (frameBytes src now ⟨.claim w d c, target, e, k⟩).drop 2, false⟩ = .claim h w d c)
        ∧ frameCommand ⟨sync, (frameBytes src now ⟨.withdraw, target, e, k⟩).drop 2, false⟩ = .withdraw h
        ∧ (∀ o, frameCommand ⟨sync, (frameBytes src now ⟨.settled o, target, e, k⟩).drop 2, false⟩ = .settled h o)
        ∧ (∀ g c ph, frameCommand ⟨sync, (frameBytes src now ⟨.sighting g c ph, target, e, k⟩).drop 2, false⟩ = .sighting h g c ph)
        ∧ (∀ v, frameCommand ⟨sync, (frameBytes src now ⟨.sag v, target, e, k⟩).drop 2, false⟩ = .sag h v)
        ∧ (∀ n f, (∃ l, n.content = .verdict l ∨ n.content = .detail l ∨ ∃ a, n.content = .status a (some l)) →
            f = (frameBytes src now n).drop 2 → frameCommand ⟨sync, f, false⟩ = .frameDiscarded ⟨sync, f, false⟩))
    ∧ (∀ (h : Header) (op arg : Byte) (body f : List Byte), 1 ≤ h.source.toNat → h.source.toNat ≤ 31 →
      body = [7#8, h.source, h.target] ++ be16 h.age ++ [2#8, op, arg] → f = body ++ be16 (crc16 body) →
      (op = 1#8 → frameCommand ⟨h.sync, f, false⟩ = .start h arg) ∧ (op = 2#8 → frameCommand ⟨h.sync, f, false⟩ = .abort h arg)
        ∧ (op = 3#8 → frameCommand ⟨h.sync, f, false⟩ = .query h arg) ∧ (op = 4#8 → frameCommand ⟨h.sync, f, false⟩ = .fetch h arg)
        ∧ ((op = 0#8 ∨ 5 ≤ op.toNat) → frameCommand ⟨h.sync, f, false⟩ = .unknownOperation h op arg))
    ∧ (∀ (sync : Int) (f : List Byte) (inside : Bool),
      (inside = true ∨ f.length < 8 ∨ 24 < (f.getD 5 0#8).toNat ∨ f.length ≠ 8 + (f.getD 5 0#8).toNat
        ∨ crc16 (f.take (f.length - 2)) ≠ f.getD (f.length - 2) 0#8 ++ f.getD (f.length - 1) 0#8
        ∨ f.getD 0 0#8 = 0#8 ∨ 9 < (f.getD 0 0#8).toNat ∨ f.getD 1 0#8 = 0#8 ∨ 31 < (f.getD 1 0#8).toNat) →
      frameCommand ⟨sync, f, inside⟩ = .frameDiscarded ⟨sync, f, inside⟩)
    ∧ (∀ p : Profile, p.FitsImage →
      rawProfile p.image = p ∧ imageGood p.image = true ∧ p.image.take 2 = be16 (BitVec.ofNat 16 p.image.length)
        ∧ 64 ≤ p.image.length ∧ p.image.length ≤ 512)
end

