-- ==== Sys2Proof/Laws/State.lean ====
section
/-! SUPPORT. One lemma for each field under each named update of State. -/

namespace Sys2Proof.Machine

@[simp] theorem State.setPending_pending (s : State) (x : List Instr) : (s.setPending x).pending = x := rfl
@[simp] theorem State.setPending_clock (s : State) (x : List Instr) : (s.setPending x).clock = s.clock := rfl
@[simp] theorem State.setPending_roundTaken (s : State) (x : List Instr) : (s.setPending x).roundTaken = s.roundTaken := rfl
@[simp] theorem State.setPending_freeIndex (s : State) (x : List Instr) : (s.setPending x).freeIndex = s.freeIndex := rfl
@[simp] theorem State.setPending_panel (s : State) (x : List Instr) : (s.setPending x).panel = s.panel := rfl
@[simp] theorem State.setPending_run (s : State) (x : List Instr) : (s.setPending x).run = s.run := rfl
@[simp] theorem State.setPending_profile (s : State) (x : List Instr) : (s.setPending x).profile = s.profile := rfl
@[simp] theorem State.setPending_load (s : State) (x : List Instr) : (s.setPending x).load = s.load := rfl
@[simp] theorem State.setPending_port (s : State) (x : List Instr) : (s.setPending x).port = s.port := rfl
@[simp] theorem State.setPending_claim (s : State) (x : List Instr) : (s.setPending x).claim = s.claim := rfl
@[simp] theorem State.setPending_seq (s : State) (x : List Instr) : (s.setPending x).seq = s.seq := rfl
@[simp] theorem State.setPending_rail (s : State) (x : List Instr) : (s.setPending x).rail = s.rail := rfl
@[simp] theorem State.setPending_lis (s : State) (x : List Instr) : (s.setPending x).lis = s.lis := rfl
@[simp] theorem State.setPending_table (s : State) (x : List Instr) : (s.setPending x).table = s.table := rfl
@[simp] theorem State.setPending_judge (s : State) (x : List Instr) : (s.setPending x).judge = s.judge := rfl
@[simp] theorem State.setPending_store (s : State) (x : List Instr) : (s.setPending x).store = s.store := rfl
@[simp] theorem State.setPending_closing (s : State) (x : List Instr) : (s.setPending x).closing = s.closing := rfl
@[simp] theorem State.setPending_tag (s : State) (x : List Instr) : (s.setPending x).tag = s.tag := rfl
@[simp] theorem State.setPending_openMarker (s : State) (x : List Instr) : (s.setPending x).openMarker = s.openMarker := rfl

@[simp] theorem State.setClock_pending (s : State) (x : Time) : (s.setClock x).pending = s.pending := rfl
@[simp] theorem State.setClock_clock (s : State) (x : Time) : (s.setClock x).clock = x := rfl
@[simp] theorem State.setClock_roundTaken (s : State) (x : Time) : (s.setClock x).roundTaken = s.roundTaken := rfl
@[simp] theorem State.setClock_freeIndex (s : State) (x : Time) : (s.setClock x).freeIndex = s.freeIndex := rfl
@[simp] theorem State.setClock_panel (s : State) (x : Time) : (s.setClock x).panel = s.panel := rfl
@[simp] theorem State.setClock_run (s : State) (x : Time) : (s.setClock x).run = s.run := rfl
@[simp] theorem State.setClock_profile (s : State) (x : Time) : (s.setClock x).profile = s.profile := rfl
@[simp] theorem State.setClock_load (s : State) (x : Time) : (s.setClock x).load = s.load := rfl
@[simp] theorem State.setClock_port (s : State) (x : Time) : (s.setClock x).port = s.port := rfl
@[simp] theorem State.setClock_claim (s : State) (x : Time) : (s.setClock x).claim = s.claim := rfl
@[simp] theorem State.setClock_seq (s : State) (x : Time) : (s.setClock x).seq = s.seq := rfl
@[simp] theorem State.setClock_rail (s : State) (x : Time) : (s.setClock x).rail = s.rail := rfl
@[simp] theorem State.setClock_lis (s : State) (x : Time) : (s.setClock x).lis = s.lis := rfl
@[simp] theorem State.setClock_table (s : State) (x : Time) : (s.setClock x).table = s.table := rfl
@[simp] theorem State.setClock_judge (s : State) (x : Time) : (s.setClock x).judge = s.judge := rfl
@[simp] theorem State.setClock_store (s : State) (x : Time) : (s.setClock x).store = s.store := rfl
@[simp] theorem State.setClock_closing (s : State) (x : Time) : (s.setClock x).closing = s.closing := rfl
@[simp] theorem State.setClock_tag (s : State) (x : Time) : (s.setClock x).tag = s.tag := rfl
@[simp] theorem State.setClock_openMarker (s : State) (x : Time) : (s.setClock x).openMarker = s.openMarker := rfl

@[simp] theorem State.setRoundTaken_pending (s : State) (x : Bool) : (s.setRoundTaken x).pending = s.pending := rfl
@[simp] theorem State.setRoundTaken_clock (s : State) (x : Bool) : (s.setRoundTaken x).clock = s.clock := rfl
@[simp] theorem State.setRoundTaken_roundTaken (s : State) (x : Bool) : (s.setRoundTaken x).roundTaken = x := rfl
@[simp] theorem State.setRoundTaken_freeIndex (s : State) (x : Bool) : (s.setRoundTaken x).freeIndex = s.freeIndex := rfl
@[simp] theorem State.setRoundTaken_panel (s : State) (x : Bool) : (s.setRoundTaken x).panel = s.panel := rfl
@[simp] theorem State.setRoundTaken_run (s : State) (x : Bool) : (s.setRoundTaken x).run = s.run := rfl
@[simp] theorem State.setRoundTaken_profile (s : State) (x : Bool) : (s.setRoundTaken x).profile = s.profile := rfl
@[simp] theorem State.setRoundTaken_load (s : State) (x : Bool) : (s.setRoundTaken x).load = s.load := rfl
@[simp] theorem State.setRoundTaken_port (s : State) (x : Bool) : (s.setRoundTaken x).port = s.port := rfl
@[simp] theorem State.setRoundTaken_claim (s : State) (x : Bool) : (s.setRoundTaken x).claim = s.claim := rfl
@[simp] theorem State.setRoundTaken_seq (s : State) (x : Bool) : (s.setRoundTaken x).seq = s.seq := rfl
@[simp] theorem State.setRoundTaken_rail (s : State) (x : Bool) : (s.setRoundTaken x).rail = s.rail := rfl
@[simp] theorem State.setRoundTaken_lis (s : State) (x : Bool) : (s.setRoundTaken x).lis = s.lis := rfl
@[simp] theorem State.setRoundTaken_table (s : State) (x : Bool) : (s.setRoundTaken x).table = s.table := rfl
@[simp] theorem State.setRoundTaken_judge (s : State) (x : Bool) : (s.setRoundTaken x).judge = s.judge := rfl
@[simp] theorem State.setRoundTaken_store (s : State) (x : Bool) : (s.setRoundTaken x).store = s.store := rfl
@[simp] theorem State.setRoundTaken_closing (s : State) (x : Bool) : (s.setRoundTaken x).closing = s.closing := rfl
@[simp] theorem State.setRoundTaken_tag (s : State) (x : Bool) : (s.setRoundTaken x).tag = s.tag := rfl
@[simp] theorem State.setRoundTaken_openMarker (s : State) (x : Bool) : (s.setRoundTaken x).openMarker = s.openMarker := rfl

@[simp] theorem State.setFreeIndex_pending (s : State) (x : Nat) : (s.setFreeIndex x).pending = s.pending := rfl
@[simp] theorem State.setFreeIndex_clock (s : State) (x : Nat) : (s.setFreeIndex x).clock = s.clock := rfl
@[simp] theorem State.setFreeIndex_roundTaken (s : State) (x : Nat) : (s.setFreeIndex x).roundTaken = s.roundTaken := rfl
@[simp] theorem State.setFreeIndex_freeIndex (s : State) (x : Nat) : (s.setFreeIndex x).freeIndex = x := rfl
@[simp] theorem State.setFreeIndex_panel (s : State) (x : Nat) : (s.setFreeIndex x).panel = s.panel := rfl
@[simp] theorem State.setFreeIndex_run (s : State) (x : Nat) : (s.setFreeIndex x).run = s.run := rfl
@[simp] theorem State.setFreeIndex_profile (s : State) (x : Nat) : (s.setFreeIndex x).profile = s.profile := rfl
@[simp] theorem State.setFreeIndex_load (s : State) (x : Nat) : (s.setFreeIndex x).load = s.load := rfl
@[simp] theorem State.setFreeIndex_port (s : State) (x : Nat) : (s.setFreeIndex x).port = s.port := rfl
@[simp] theorem State.setFreeIndex_claim (s : State) (x : Nat) : (s.setFreeIndex x).claim = s.claim := rfl
@[simp] theorem State.setFreeIndex_seq (s : State) (x : Nat) : (s.setFreeIndex x).seq = s.seq := rfl
@[simp] theorem State.setFreeIndex_rail (s : State) (x : Nat) : (s.setFreeIndex x).rail = s.rail := rfl
@[simp] theorem State.setFreeIndex_lis (s : State) (x : Nat) : (s.setFreeIndex x).lis = s.lis := rfl
@[simp] theorem State.setFreeIndex_table (s : State) (x : Nat) : (s.setFreeIndex x).table = s.table := rfl
@[simp] theorem State.setFreeIndex_judge (s : State) (x : Nat) : (s.setFreeIndex x).judge = s.judge := rfl
@[simp] theorem State.setFreeIndex_store (s : State) (x : Nat) : (s.setFreeIndex x).store = s.store := rfl
@[simp] theorem State.setFreeIndex_closing (s : State) (x : Nat) : (s.setFreeIndex x).closing = s.closing := rfl
@[simp] theorem State.setFreeIndex_tag (s : State) (x : Nat) : (s.setFreeIndex x).tag = s.tag := rfl
@[simp] theorem State.setFreeIndex_openMarker (s : State) (x : Nat) : (s.setFreeIndex x).openMarker = s.openMarker := rfl

@[simp] theorem State.setPanel_pending (s : State) (x : Panel) : (s.setPanel x).pending = s.pending := rfl
@[simp] theorem State.setPanel_clock (s : State) (x : Panel) : (s.setPanel x).clock = s.clock := rfl
@[simp] theorem State.setPanel_roundTaken (s : State) (x : Panel) : (s.setPanel x).roundTaken = s.roundTaken := rfl
@[simp] theorem State.setPanel_freeIndex (s : State) (x : Panel) : (s.setPanel x).freeIndex = s.freeIndex := rfl
@[simp] theorem State.setPanel_panel (s : State) (x : Panel) : (s.setPanel x).panel = x := rfl
@[simp] theorem State.setPanel_run (s : State) (x : Panel) : (s.setPanel x).run = s.run := rfl
@[simp] theorem State.setPanel_profile (s : State) (x : Panel) : (s.setPanel x).profile = s.profile := rfl
@[simp] theorem State.setPanel_load (s : State) (x : Panel) : (s.setPanel x).load = s.load := rfl
@[simp] theorem State.setPanel_port (s : State) (x : Panel) : (s.setPanel x).port = s.port := rfl
@[simp] theorem State.setPanel_claim (s : State) (x : Panel) : (s.setPanel x).claim = s.claim := rfl
@[simp] theorem State.setPanel_seq (s : State) (x : Panel) : (s.setPanel x).seq = s.seq := rfl
@[simp] theorem State.setPanel_rail (s : State) (x : Panel) : (s.setPanel x).rail = s.rail := rfl
@[simp] theorem State.setPanel_lis (s : State) (x : Panel) : (s.setPanel x).lis = s.lis := rfl
@[simp] theorem State.setPanel_table (s : State) (x : Panel) : (s.setPanel x).table = s.table := rfl
@[simp] theorem State.setPanel_judge (s : State) (x : Panel) : (s.setPanel x).judge = s.judge := rfl
@[simp] theorem State.setPanel_store (s : State) (x : Panel) : (s.setPanel x).store = s.store := rfl
@[simp] theorem State.setPanel_closing (s : State) (x : Panel) : (s.setPanel x).closing = s.closing := rfl
@[simp] theorem State.setPanel_tag (s : State) (x : Panel) : (s.setPanel x).tag = s.tag := rfl
@[simp] theorem State.setPanel_openMarker (s : State) (x : Panel) : (s.setPanel x).openMarker = s.openMarker := rfl

@[simp] theorem State.setRun_pending (s : State) (x : RunControl) : (s.setRun x).pending = s.pending := rfl
@[simp] theorem State.setRun_clock (s : State) (x : RunControl) : (s.setRun x).clock = s.clock := rfl
@[simp] theorem State.setRun_roundTaken (s : State) (x : RunControl) : (s.setRun x).roundTaken = s.roundTaken := rfl
@[simp] theorem State.setRun_freeIndex (s : State) (x : RunControl) : (s.setRun x).freeIndex = s.freeIndex := rfl
@[simp] theorem State.setRun_panel (s : State) (x : RunControl) : (s.setRun x).panel = s.panel := rfl
@[simp] theorem State.setRun_run (s : State) (x : RunControl) : (s.setRun x).run = x := rfl
@[simp] theorem State.setRun_profile (s : State) (x : RunControl) : (s.setRun x).profile = s.profile := rfl
@[simp] theorem State.setRun_load (s : State) (x : RunControl) : (s.setRun x).load = s.load := rfl
@[simp] theorem State.setRun_port (s : State) (x : RunControl) : (s.setRun x).port = s.port := rfl
@[simp] theorem State.setRun_claim (s : State) (x : RunControl) : (s.setRun x).claim = s.claim := rfl
@[simp] theorem State.setRun_seq (s : State) (x : RunControl) : (s.setRun x).seq = s.seq := rfl
@[simp] theorem State.setRun_rail (s : State) (x : RunControl) : (s.setRun x).rail = s.rail := rfl
@[simp] theorem State.setRun_lis (s : State) (x : RunControl) : (s.setRun x).lis = s.lis := rfl
@[simp] theorem State.setRun_table (s : State) (x : RunControl) : (s.setRun x).table = s.table := rfl
@[simp] theorem State.setRun_judge (s : State) (x : RunControl) : (s.setRun x).judge = s.judge := rfl
@[simp] theorem State.setRun_store (s : State) (x : RunControl) : (s.setRun x).store = s.store := rfl
@[simp] theorem State.setRun_closing (s : State) (x : RunControl) : (s.setRun x).closing = s.closing := rfl
@[simp] theorem State.setRun_tag (s : State) (x : RunControl) : (s.setRun x).tag = s.tag := rfl
@[simp] theorem State.setRun_openMarker (s : State) (x : RunControl) : (s.setRun x).openMarker = s.openMarker := rfl

@[simp] theorem State.setProfile_pending (s : State) (x : Option Profile) : (s.setProfile x).pending = s.pending := rfl
@[simp] theorem State.setProfile_clock (s : State) (x : Option Profile) : (s.setProfile x).clock = s.clock := rfl
@[simp] theorem State.setProfile_roundTaken (s : State) (x : Option Profile) : (s.setProfile x).roundTaken = s.roundTaken := rfl
@[simp] theorem State.setProfile_freeIndex (s : State) (x : Option Profile) : (s.setProfile x).freeIndex = s.freeIndex := rfl
@[simp] theorem State.setProfile_panel (s : State) (x : Option Profile) : (s.setProfile x).panel = s.panel := rfl
@[simp] theorem State.setProfile_run (s : State) (x : Option Profile) : (s.setProfile x).run = s.run := rfl
@[simp] theorem State.setProfile_profile (s : State) (x : Option Profile) : (s.setProfile x).profile = x := rfl
@[simp] theorem State.setProfile_load (s : State) (x : Option Profile) : (s.setProfile x).load = s.load := rfl
@[simp] theorem State.setProfile_port (s : State) (x : Option Profile) : (s.setProfile x).port = s.port := rfl
@[simp] theorem State.setProfile_claim (s : State) (x : Option Profile) : (s.setProfile x).claim = s.claim := rfl
@[simp] theorem State.setProfile_seq (s : State) (x : Option Profile) : (s.setProfile x).seq = s.seq := rfl
@[simp] theorem State.setProfile_rail (s : State) (x : Option Profile) : (s.setProfile x).rail = s.rail := rfl
@[simp] theorem State.setProfile_lis (s : State) (x : Option Profile) : (s.setProfile x).lis = s.lis := rfl
@[simp] theorem State.setProfile_table (s : State) (x : Option Profile) : (s.setProfile x).table = s.table := rfl
@[simp] theorem State.setProfile_judge (s : State) (x : Option Profile) : (s.setProfile x).judge = s.judge := rfl
@[simp] theorem State.setProfile_store (s : State) (x : Option Profile) : (s.setProfile x).store = s.store := rfl
@[simp] theorem State.setProfile_closing (s : State) (x : Option Profile) : (s.setProfile x).closing = s.closing := rfl
@[simp] theorem State.setProfile_tag (s : State) (x : Option Profile) : (s.setProfile x).tag = s.tag := rfl
@[simp] theorem State.setProfile_openMarker (s : State) (x : Option Profile) : (s.setProfile x).openMarker = s.openMarker := rfl

@[simp] theorem State.setLoad_pending (s : State) (x : Load) : (s.setLoad x).pending = s.pending := rfl
@[simp] theorem State.setLoad_clock (s : State) (x : Load) : (s.setLoad x).clock = s.clock := rfl
@[simp] theorem State.setLoad_roundTaken (s : State) (x : Load) : (s.setLoad x).roundTaken = s.roundTaken := rfl
@[simp] theorem State.setLoad_freeIndex (s : State) (x : Load) : (s.setLoad x).freeIndex = s.freeIndex := rfl
@[simp] theorem State.setLoad_panel (s : State) (x : Load) : (s.setLoad x).panel = s.panel := rfl
@[simp] theorem State.setLoad_run (s : State) (x : Load) : (s.setLoad x).run = s.run := rfl
@[simp] theorem State.setLoad_profile (s : State) (x : Load) : (s.setLoad x).profile = s.profile := rfl
@[simp] theorem State.setLoad_load (s : State) (x : Load) : (s.setLoad x).load = x := rfl
@[simp] theorem State.setLoad_port (s : State) (x : Load) : (s.setLoad x).port = s.port := rfl
@[simp] theorem State.setLoad_claim (s : State) (x : Load) : (s.setLoad x).claim = s.claim := rfl
@[simp] theorem State.setLoad_seq (s : State) (x : Load) : (s.setLoad x).seq = s.seq := rfl
@[simp] theorem State.setLoad_rail (s : State) (x : Load) : (s.setLoad x).rail = s.rail := rfl
@[simp] theorem State.setLoad_lis (s : State) (x : Load) : (s.setLoad x).lis = s.lis := rfl
@[simp] theorem State.setLoad_table (s : State) (x : Load) : (s.setLoad x).table = s.table := rfl
@[simp] theorem State.setLoad_judge (s : State) (x : Load) : (s.setLoad x).judge = s.judge := rfl
@[simp] theorem State.setLoad_store (s : State) (x : Load) : (s.setLoad x).store = s.store := rfl
@[simp] theorem State.setLoad_closing (s : State) (x : Load) : (s.setLoad x).closing = s.closing := rfl
@[simp] theorem State.setLoad_tag (s : State) (x : Load) : (s.setLoad x).tag = s.tag := rfl
@[simp] theorem State.setLoad_openMarker (s : State) (x : Load) : (s.setLoad x).openMarker = s.openMarker := rfl

@[simp] theorem State.setPort_pending (s : State) (x : LinePort) : (s.setPort x).pending = s.pending := rfl
@[simp] theorem State.setPort_clock (s : State) (x : LinePort) : (s.setPort x).clock = s.clock := rfl
@[simp] theorem State.setPort_roundTaken (s : State) (x : LinePort) : (s.setPort x).roundTaken = s.roundTaken := rfl
@[simp] theorem State.setPort_freeIndex (s : State) (x : LinePort) : (s.setPort x).freeIndex = s.freeIndex := rfl
@[simp] theorem State.setPort_panel (s : State) (x : LinePort) : (s.setPort x).panel = s.panel := rfl
@[simp] theorem State.setPort_run (s : State) (x : LinePort) : (s.setPort x).run = s.run := rfl
@[simp] theorem State.setPort_profile (s : State) (x : LinePort) : (s.setPort x).profile = s.profile := rfl
@[simp] theorem State.setPort_load (s : State) (x : LinePort) : (s.setPort x).load = s.load := rfl
@[simp] theorem State.setPort_port (s : State) (x : LinePort) : (s.setPort x).port = x := rfl
@[simp] theorem State.setPort_claim (s : State) (x : LinePort) : (s.setPort x).claim = s.claim := rfl
@[simp] theorem State.setPort_seq (s : State) (x : LinePort) : (s.setPort x).seq = s.seq := rfl
@[simp] theorem State.setPort_rail (s : State) (x : LinePort) : (s.setPort x).rail = s.rail := rfl
@[simp] theorem State.setPort_lis (s : State) (x : LinePort) : (s.setPort x).lis = s.lis := rfl
@[simp] theorem State.setPort_table (s : State) (x : LinePort) : (s.setPort x).table = s.table := rfl
@[simp] theorem State.setPort_judge (s : State) (x : LinePort) : (s.setPort x).judge = s.judge := rfl
@[simp] theorem State.setPort_store (s : State) (x : LinePort) : (s.setPort x).store = s.store := rfl
@[simp] theorem State.setPort_closing (s : State) (x : LinePort) : (s.setPort x).closing = s.closing := rfl
@[simp] theorem State.setPort_tag (s : State) (x : LinePort) : (s.setPort x).tag = s.tag := rfl
@[simp] theorem State.setPort_openMarker (s : State) (x : LinePort) : (s.setPort x).openMarker = s.openMarker := rfl

@[simp] theorem State.setClaim_pending (s : State) (x : ClaimLogic) : (s.setClaim x).pending = s.pending := rfl
@[simp] theorem State.setClaim_clock (s : State) (x : ClaimLogic) : (s.setClaim x).clock = s.clock := rfl
@[simp] theorem State.setClaim_roundTaken (s : State) (x : ClaimLogic) : (s.setClaim x).roundTaken = s.roundTaken := rfl
@[simp] theorem State.setClaim_freeIndex (s : State) (x : ClaimLogic) : (s.setClaim x).freeIndex = s.freeIndex := rfl
@[simp] theorem State.setClaim_panel (s : State) (x : ClaimLogic) : (s.setClaim x).panel = s.panel := rfl
@[simp] theorem State.setClaim_run (s : State) (x : ClaimLogic) : (s.setClaim x).run = s.run := rfl
@[simp] theorem State.setClaim_profile (s : State) (x : ClaimLogic) : (s.setClaim x).profile = s.profile := rfl
@[simp] theorem State.setClaim_load (s : State) (x : ClaimLogic) : (s.setClaim x).load = s.load := rfl
@[simp] theorem State.setClaim_port (s : State) (x : ClaimLogic) : (s.setClaim x).port = s.port := rfl
@[simp] theorem State.setClaim_claim (s : State) (x : ClaimLogic) : (s.setClaim x).claim = x := rfl
@[simp] theorem State.setClaim_seq (s : State) (x : ClaimLogic) : (s.setClaim x).seq = s.seq := rfl
@[simp] theorem State.setClaim_rail (s : State) (x : ClaimLogic) : (s.setClaim x).rail = s.rail := rfl
@[simp] theorem State.setClaim_lis (s : State) (x : ClaimLogic) : (s.setClaim x).lis = s.lis := rfl
@[simp] theorem State.setClaim_table (s : State) (x : ClaimLogic) : (s.setClaim x).table = s.table := rfl
@[simp] theorem State.setClaim_judge (s : State) (x : ClaimLogic) : (s.setClaim x).judge = s.judge := rfl
@[simp] theorem State.setClaim_store (s : State) (x : ClaimLogic) : (s.setClaim x).store = s.store := rfl
@[simp] theorem State.setClaim_closing (s : State) (x : ClaimLogic) : (s.setClaim x).closing = s.closing := rfl
@[simp] theorem State.setClaim_tag (s : State) (x : ClaimLogic) : (s.setClaim x).tag = s.tag := rfl
@[simp] theorem State.setClaim_openMarker (s : State) (x : ClaimLogic) : (s.setClaim x).openMarker = s.openMarker := rfl

@[simp] theorem State.setSeq_pending (s : State) (x : Sequencer) : (s.setSeq x).pending = s.pending := rfl
@[simp] theorem State.setSeq_clock (s : State) (x : Sequencer) : (s.setSeq x).clock = s.clock := rfl
@[simp] theorem State.setSeq_roundTaken (s : State) (x : Sequencer) : (s.setSeq x).roundTaken = s.roundTaken := rfl
@[simp] theorem State.setSeq_freeIndex (s : State) (x : Sequencer) : (s.setSeq x).freeIndex = s.freeIndex := rfl
@[simp] theorem State.setSeq_panel (s : State) (x : Sequencer) : (s.setSeq x).panel = s.panel := rfl
@[simp] theorem State.setSeq_run (s : State) (x : Sequencer) : (s.setSeq x).run = s.run := rfl
@[simp] theorem State.setSeq_profile (s : State) (x : Sequencer) : (s.setSeq x).profile = s.profile := rfl
@[simp] theorem State.setSeq_load (s : State) (x : Sequencer) : (s.setSeq x).load = s.load := rfl
@[simp] theorem State.setSeq_port (s : State) (x : Sequencer) : (s.setSeq x).port = s.port := rfl
@[simp] theorem State.setSeq_claim (s : State) (x : Sequencer) : (s.setSeq x).claim = s.claim := rfl
@[simp] theorem State.setSeq_seq (s : State) (x : Sequencer) : (s.setSeq x).seq = x := rfl
@[simp] theorem State.setSeq_rail (s : State) (x : Sequencer) : (s.setSeq x).rail = s.rail := rfl
@[simp] theorem State.setSeq_lis (s : State) (x : Sequencer) : (s.setSeq x).lis = s.lis := rfl
@[simp] theorem State.setSeq_table (s : State) (x : Sequencer) : (s.setSeq x).table = s.table := rfl
@[simp] theorem State.setSeq_judge (s : State) (x : Sequencer) : (s.setSeq x).judge = s.judge := rfl
@[simp] theorem State.setSeq_store (s : State) (x : Sequencer) : (s.setSeq x).store = s.store := rfl
@[simp] theorem State.setSeq_closing (s : State) (x : Sequencer) : (s.setSeq x).closing = s.closing := rfl
@[simp] theorem State.setSeq_tag (s : State) (x : Sequencer) : (s.setSeq x).tag = s.tag := rfl
@[simp] theorem State.setSeq_openMarker (s : State) (x : Sequencer) : (s.setSeq x).openMarker = s.openMarker := rfl

@[simp] theorem State.setRail_pending (s : State) (x : RailMonitor) : (s.setRail x).pending = s.pending := rfl
@[simp] theorem State.setRail_clock (s : State) (x : RailMonitor) : (s.setRail x).clock = s.clock := rfl
@[simp] theorem State.setRail_roundTaken (s : State) (x : RailMonitor) : (s.setRail x).roundTaken = s.roundTaken := rfl
@[simp] theorem State.setRail_freeIndex (s : State) (x : RailMonitor) : (s.setRail x).freeIndex = s.freeIndex := rfl
@[simp] theorem State.setRail_panel (s : State) (x : RailMonitor) : (s.setRail x).panel = s.panel := rfl
@[simp] theorem State.setRail_run (s : State) (x : RailMonitor) : (s.setRail x).run = s.run := rfl
@[simp] theorem State.setRail_profile (s : State) (x : RailMonitor) : (s.setRail x).profile = s.profile := rfl
@[simp] theorem State.setRail_load (s : State) (x : RailMonitor) : (s.setRail x).load = s.load := rfl
@[simp] theorem State.setRail_port (s : State) (x : RailMonitor) : (s.setRail x).port = s.port := rfl
@[simp] theorem State.setRail_claim (s : State) (x : RailMonitor) : (s.setRail x).claim = s.claim := rfl
@[simp] theorem State.setRail_seq (s : State) (x : RailMonitor) : (s.setRail x).seq = s.seq := rfl
@[simp] theorem State.setRail_rail (s : State) (x : RailMonitor) : (s.setRail x).rail = x := rfl
@[simp] theorem State.setRail_lis (s : State) (x : RailMonitor) : (s.setRail x).lis = s.lis := rfl
@[simp] theorem State.setRail_table (s : State) (x : RailMonitor) : (s.setRail x).table = s.table := rfl
@[simp] theorem State.setRail_judge (s : State) (x : RailMonitor) : (s.setRail x).judge = s.judge := rfl
@[simp] theorem State.setRail_store (s : State) (x : RailMonitor) : (s.setRail x).store = s.store := rfl
@[simp] theorem State.setRail_closing (s : State) (x : RailMonitor) : (s.setRail x).closing = s.closing := rfl
@[simp] theorem State.setRail_tag (s : State) (x : RailMonitor) : (s.setRail x).tag = s.tag := rfl
@[simp] theorem State.setRail_openMarker (s : State) (x : RailMonitor) : (s.setRail x).openMarker = s.openMarker := rfl

@[simp] theorem State.setLis_pending (s : State) (x : Listener) : (s.setLis x).pending = s.pending := rfl
@[simp] theorem State.setLis_clock (s : State) (x : Listener) : (s.setLis x).clock = s.clock := rfl
@[simp] theorem State.setLis_roundTaken (s : State) (x : Listener) : (s.setLis x).roundTaken = s.roundTaken := rfl
@[simp] theorem State.setLis_freeIndex (s : State) (x : Listener) : (s.setLis x).freeIndex = s.freeIndex := rfl
@[simp] theorem State.setLis_panel (s : State) (x : Listener) : (s.setLis x).panel = s.panel := rfl
@[simp] theorem State.setLis_run (s : State) (x : Listener) : (s.setLis x).run = s.run := rfl
@[simp] theorem State.setLis_profile (s : State) (x : Listener) : (s.setLis x).profile = s.profile := rfl
@[simp] theorem State.setLis_load (s : State) (x : Listener) : (s.setLis x).load = s.load := rfl
@[simp] theorem State.setLis_port (s : State) (x : Listener) : (s.setLis x).port = s.port := rfl
@[simp] theorem State.setLis_claim (s : State) (x : Listener) : (s.setLis x).claim = s.claim := rfl
@[simp] theorem State.setLis_seq (s : State) (x : Listener) : (s.setLis x).seq = s.seq := rfl
@[simp] theorem State.setLis_rail (s : State) (x : Listener) : (s.setLis x).rail = s.rail := rfl
@[simp] theorem State.setLis_lis (s : State) (x : Listener) : (s.setLis x).lis = x := rfl
@[simp] theorem State.setLis_table (s : State) (x : Listener) : (s.setLis x).table = s.table := rfl
@[simp] theorem State.setLis_judge (s : State) (x : Listener) : (s.setLis x).judge = s.judge := rfl
@[simp] theorem State.setLis_store (s : State) (x : Listener) : (s.setLis x).store = s.store := rfl
@[simp] theorem State.setLis_closing (s : State) (x : Listener) : (s.setLis x).closing = s.closing := rfl
@[simp] theorem State.setLis_tag (s : State) (x : Listener) : (s.setLis x).tag = s.tag := rfl
@[simp] theorem State.setLis_openMarker (s : State) (x : Listener) : (s.setLis x).openMarker = s.openMarker := rfl

@[simp] theorem State.setTable_pending (s : State) (x : SightingTable) : (s.setTable x).pending = s.pending := rfl
@[simp] theorem State.setTable_clock (s : State) (x : SightingTable) : (s.setTable x).clock = s.clock := rfl
@[simp] theorem State.setTable_roundTaken (s : State) (x : SightingTable) : (s.setTable x).roundTaken = s.roundTaken := rfl
@[simp] theorem State.setTable_freeIndex (s : State) (x : SightingTable) : (s.setTable x).freeIndex = s.freeIndex := rfl
@[simp] theorem State.setTable_panel (s : State) (x : SightingTable) : (s.setTable x).panel = s.panel := rfl
@[simp] theorem State.setTable_run (s : State) (x : SightingTable) : (s.setTable x).run = s.run := rfl
@[simp] theorem State.setTable_profile (s : State) (x : SightingTable) : (s.setTable x).profile = s.profile := rfl
@[simp] theorem State.setTable_load (s : State) (x : SightingTable) : (s.setTable x).load = s.load := rfl
@[simp] theorem State.setTable_port (s : State) (x : SightingTable) : (s.setTable x).port = s.port := rfl
@[simp] theorem State.setTable_claim (s : State) (x : SightingTable) : (s.setTable x).claim = s.claim := rfl
@[simp] theorem State.setTable_seq (s : State) (x : SightingTable) : (s.setTable x).seq = s.seq := rfl
@[simp] theorem State.setTable_rail (s : State) (x : SightingTable) : (s.setTable x).rail = s.rail := rfl
@[simp] theorem State.setTable_lis (s : State) (x : SightingTable) : (s.setTable x).lis = s.lis := rfl
@[simp] theorem State.setTable_table (s : State) (x : SightingTable) : (s.setTable x).table = x := rfl
@[simp] theorem State.setTable_judge (s : State) (x : SightingTable) : (s.setTable x).judge = s.judge := rfl
@[simp] theorem State.setTable_store (s : State) (x : SightingTable) : (s.setTable x).store = s.store := rfl
@[simp] theorem State.setTable_closing (s : State) (x : SightingTable) : (s.setTable x).closing = s.closing := rfl
@[simp] theorem State.setTable_tag (s : State) (x : SightingTable) : (s.setTable x).tag = s.tag := rfl
@[simp] theorem State.setTable_openMarker (s : State) (x : SightingTable) : (s.setTable x).openMarker = s.openMarker := rfl

@[simp] theorem State.setJudge_pending (s : State) (x : Judge) : (s.setJudge x).pending = s.pending := rfl
@[simp] theorem State.setJudge_clock (s : State) (x : Judge) : (s.setJudge x).clock = s.clock := rfl
@[simp] theorem State.setJudge_roundTaken (s : State) (x : Judge) : (s.setJudge x).roundTaken = s.roundTaken := rfl
@[simp] theorem State.setJudge_freeIndex (s : State) (x : Judge) : (s.setJudge x).freeIndex = s.freeIndex := rfl
@[simp] theorem State.setJudge_panel (s : State) (x : Judge) : (s.setJudge x).panel = s.panel := rfl
@[simp] theorem State.setJudge_run (s : State) (x : Judge) : (s.setJudge x).run = s.run := rfl
@[simp] theorem State.setJudge_profile (s : State) (x : Judge) : (s.setJudge x).profile = s.profile := rfl
@[simp] theorem State.setJudge_load (s : State) (x : Judge) : (s.setJudge x).load = s.load := rfl
@[simp] theorem State.setJudge_port (s : State) (x : Judge) : (s.setJudge x).port = s.port := rfl
@[simp] theorem State.setJudge_claim (s : State) (x : Judge) : (s.setJudge x).claim = s.claim := rfl
@[simp] theorem State.setJudge_seq (s : State) (x : Judge) : (s.setJudge x).seq = s.seq := rfl
@[simp] theorem State.setJudge_rail (s : State) (x : Judge) : (s.setJudge x).rail = s.rail := rfl
@[simp] theorem State.setJudge_lis (s : State) (x : Judge) : (s.setJudge x).lis = s.lis := rfl
@[simp] theorem State.setJudge_table (s : State) (x : Judge) : (s.setJudge x).table = s.table := rfl
@[simp] theorem State.setJudge_judge (s : State) (x : Judge) : (s.setJudge x).judge = x := rfl
@[simp] theorem State.setJudge_store (s : State) (x : Judge) : (s.setJudge x).store = s.store := rfl
@[simp] theorem State.setJudge_closing (s : State) (x : Judge) : (s.setJudge x).closing = s.closing := rfl
@[simp] theorem State.setJudge_tag (s : State) (x : Judge) : (s.setJudge x).tag = s.tag := rfl
@[simp] theorem State.setJudge_openMarker (s : State) (x : Judge) : (s.setJudge x).openMarker = s.openMarker := rfl

@[simp] theorem State.setStore_pending (s : State) (x : SnapshotStore) : (s.setStore x).pending = s.pending := rfl
@[simp] theorem State.setStore_clock (s : State) (x : SnapshotStore) : (s.setStore x).clock = s.clock := rfl
@[simp] theorem State.setStore_roundTaken (s : State) (x : SnapshotStore) : (s.setStore x).roundTaken = s.roundTaken := rfl
@[simp] theorem State.setStore_freeIndex (s : State) (x : SnapshotStore) : (s.setStore x).freeIndex = s.freeIndex := rfl
@[simp] theorem State.setStore_panel (s : State) (x : SnapshotStore) : (s.setStore x).panel = s.panel := rfl
@[simp] theorem State.setStore_run (s : State) (x : SnapshotStore) : (s.setStore x).run = s.run := rfl
@[simp] theorem State.setStore_profile (s : State) (x : SnapshotStore) : (s.setStore x).profile = s.profile := rfl
@[simp] theorem State.setStore_load (s : State) (x : SnapshotStore) : (s.setStore x).load = s.load := rfl
@[simp] theorem State.setStore_port (s : State) (x : SnapshotStore) : (s.setStore x).port = s.port := rfl
@[simp] theorem State.setStore_claim (s : State) (x : SnapshotStore) : (s.setStore x).claim = s.claim := rfl
@[simp] theorem State.setStore_seq (s : State) (x : SnapshotStore) : (s.setStore x).seq = s.seq := rfl
@[simp] theorem State.setStore_rail (s : State) (x : SnapshotStore) : (s.setStore x).rail = s.rail := rfl
@[simp] theorem State.setStore_lis (s : State) (x : SnapshotStore) : (s.setStore x).lis = s.lis := rfl
@[simp] theorem State.setStore_table (s : State) (x : SnapshotStore) : (s.setStore x).table = s.table := rfl
@[simp] theorem State.setStore_judge (s : State) (x : SnapshotStore) : (s.setStore x).judge = s.judge := rfl
@[simp] theorem State.setStore_store (s : State) (x : SnapshotStore) : (s.setStore x).store = x := rfl
@[simp] theorem State.setStore_closing (s : State) (x : SnapshotStore) : (s.setStore x).closing = s.closing := rfl
@[simp] theorem State.setStore_tag (s : State) (x : SnapshotStore) : (s.setStore x).tag = s.tag := rfl
@[simp] theorem State.setStore_openMarker (s : State) (x : SnapshotStore) : (s.setStore x).openMarker = s.openMarker := rfl

@[simp] theorem State.setClosing_pending (s : State) (x : Closing) : (s.setClosing x).pending = s.pending := rfl
@[simp] theorem State.setClosing_clock (s : State) (x : Closing) : (s.setClosing x).clock = s.clock := rfl
@[simp] theorem State.setClosing_roundTaken (s : State) (x : Closing) : (s.setClosing x).roundTaken = s.roundTaken := rfl
@[simp] theorem State.setClosing_freeIndex (s : State) (x : Closing) : (s.setClosing x).freeIndex = s.freeIndex := rfl
@[simp] theorem State.setClosing_panel (s : State) (x : Closing) : (s.setClosing x).panel = s.panel := rfl
@[simp] theorem State.setClosing_run (s : State) (x : Closing) : (s.setClosing x).run = s.run := rfl
@[simp] theorem State.setClosing_profile (s : State) (x : Closing) : (s.setClosing x).profile = s.profile := rfl
@[simp] theorem State.setClosing_load (s : State) (x : Closing) : (s.setClosing x).load = s.load := rfl
@[simp] theorem State.setClosing_port (s : State) (x : Closing) : (s.setClosing x).port = s.port := rfl
@[simp] theorem State.setClosing_claim (s : State) (x : Closing) : (s.setClosing x).claim = s.claim := rfl
@[simp] theorem State.setClosing_seq (s : State) (x : Closing) : (s.setClosing x).seq = s.seq := rfl
@[simp] theorem State.setClosing_rail (s : State) (x : Closing) : (s.setClosing x).rail = s.rail := rfl
@[simp] theorem State.setClosing_lis (s : State) (x : Closing) : (s.setClosing x).lis = s.lis := rfl
@[simp] theorem State.setClosing_table (s : State) (x : Closing) : (s.setClosing x).table = s.table := rfl
@[simp] theorem State.setClosing_judge (s : State) (x : Closing) : (s.setClosing x).judge = s.judge := rfl
@[simp] theorem State.setClosing_store (s : State) (x : Closing) : (s.setClosing x).store = s.store := rfl
@[simp] theorem State.setClosing_closing (s : State) (x : Closing) : (s.setClosing x).closing = x := rfl
@[simp] theorem State.setClosing_tag (s : State) (x : Closing) : (s.setClosing x).tag = s.tag := rfl
@[simp] theorem State.setClosing_openMarker (s : State) (x : Closing) : (s.setClosing x).openMarker = s.openMarker := rfl

@[simp] theorem State.setTag_pending (s : State) (x : List Host.Cell) : (s.setTag x).pending = s.pending := rfl
@[simp] theorem State.setTag_clock (s : State) (x : List Host.Cell) : (s.setTag x).clock = s.clock := rfl
@[simp] theorem State.setTag_roundTaken (s : State) (x : List Host.Cell) : (s.setTag x).roundTaken = s.roundTaken := rfl
@[simp] theorem State.setTag_freeIndex (s : State) (x : List Host.Cell) : (s.setTag x).freeIndex = s.freeIndex := rfl
@[simp] theorem State.setTag_panel (s : State) (x : List Host.Cell) : (s.setTag x).panel = s.panel := rfl
@[simp] theorem State.setTag_run (s : State) (x : List Host.Cell) : (s.setTag x).run = s.run := rfl
@[simp] theorem State.setTag_profile (s : State) (x : List Host.Cell) : (s.setTag x).profile = s.profile := rfl
@[simp] theorem State.setTag_load (s : State) (x : List Host.Cell) : (s.setTag x).load = s.load := rfl
@[simp] theorem State.setTag_port (s : State) (x : List Host.Cell) : (s.setTag x).port = s.port := rfl
@[simp] theorem State.setTag_claim (s : State) (x : List Host.Cell) : (s.setTag x).claim = s.claim := rfl
@[simp] theorem State.setTag_seq (s : State) (x : List Host.Cell) : (s.setTag x).seq = s.seq := rfl
@[simp] theorem State.setTag_rail (s : State) (x : List Host.Cell) : (s.setTag x).rail = s.rail := rfl
@[simp] theorem State.setTag_lis (s : State) (x : List Host.Cell) : (s.setTag x).lis = s.lis := rfl
@[simp] theorem State.setTag_table (s : State) (x : List Host.Cell) : (s.setTag x).table = s.table := rfl
@[simp] theorem State.setTag_judge (s : State) (x : List Host.Cell) : (s.setTag x).judge = s.judge := rfl
@[simp] theorem State.setTag_store (s : State) (x : List Host.Cell) : (s.setTag x).store = s.store := rfl
@[simp] theorem State.setTag_closing (s : State) (x : List Host.Cell) : (s.setTag x).closing = s.closing := rfl
@[simp] theorem State.setTag_tag (s : State) (x : List Host.Cell) : (s.setTag x).tag = x := rfl
@[simp] theorem State.setTag_openMarker (s : State) (x : List Host.Cell) : (s.setTag x).openMarker = s.openMarker := rfl

@[simp] theorem State.setOpenMarker_pending (s : State) (x : Option OpenMarker) : (s.setOpenMarker x).pending = s.pending := rfl
@[simp] theorem State.setOpenMarker_clock (s : State) (x : Option OpenMarker) : (s.setOpenMarker x).clock = s.clock := rfl
@[simp] theorem State.setOpenMarker_roundTaken (s : State) (x : Option OpenMarker) : (s.setOpenMarker x).roundTaken = s.roundTaken := rfl
@[simp] theorem State.setOpenMarker_freeIndex (s : State) (x : Option OpenMarker) : (s.setOpenMarker x).freeIndex = s.freeIndex := rfl
@[simp] theorem State.setOpenMarker_panel (s : State) (x : Option OpenMarker) : (s.setOpenMarker x).panel = s.panel := rfl
@[simp] theorem State.setOpenMarker_run (s : State) (x : Option OpenMarker) : (s.setOpenMarker x).run = s.run := rfl
@[simp] theorem State.setOpenMarker_profile (s : State) (x : Option OpenMarker) : (s.setOpenMarker x).profile = s.profile := rfl
@[simp] theorem State.setOpenMarker_load (s : State) (x : Option OpenMarker) : (s.setOpenMarker x).load = s.load := rfl
@[simp] theorem State.setOpenMarker_port (s : State) (x : Option OpenMarker) : (s.setOpenMarker x).port = s.port := rfl
@[simp] theorem State.setOpenMarker_claim (s : State) (x : Option OpenMarker) : (s.setOpenMarker x).claim = s.claim := rfl
@[simp] theorem State.setOpenMarker_seq (s : State) (x : Option OpenMarker) : (s.setOpenMarker x).seq = s.seq := rfl
@[simp] theorem State.setOpenMarker_rail (s : State) (x : Option OpenMarker) : (s.setOpenMarker x).rail = s.rail := rfl
@[simp] theorem State.setOpenMarker_lis (s : State) (x : Option OpenMarker) : (s.setOpenMarker x).lis = s.lis := rfl
@[simp] theorem State.setOpenMarker_table (s : State) (x : Option OpenMarker) : (s.setOpenMarker x).table = s.table := rfl
@[simp] theorem State.setOpenMarker_judge (s : State) (x : Option OpenMarker) : (s.setOpenMarker x).judge = s.judge := rfl
@[simp] theorem State.setOpenMarker_store (s : State) (x : Option OpenMarker) : (s.setOpenMarker x).store = s.store := rfl
@[simp] theorem State.setOpenMarker_closing (s : State) (x : Option OpenMarker) : (s.setOpenMarker x).closing = s.closing := rfl
@[simp] theorem State.setOpenMarker_tag (s : State) (x : Option OpenMarker) : (s.setOpenMarker x).tag = s.tag := rfl
@[simp] theorem State.setOpenMarker_openMarker (s : State) (x : Option OpenMarker) : (s.setOpenMarker x).openMarker = x := rfl

end Sys2Proof.Machine
end

