-- ==== Sys2Proof/Laws/Frames.lean ====
section
/-! SUPPORT. What each operation on the whole state leaves as it was: the blocks that it does not own. -/

namespace Sys2Proof.Machine

/-- A notice handed over touches the line port alone. -/
theorem State.enqueue_spec (n : Notice) (s t : State) (h : s.enqueue n = some t) :
    (s.standalone = true ∧ t = s) ∨
      (s.standalone = false ∧ nonStepCount s.port.queue < nonStepLimit ∧
        t = s.setPort ({ s.port with queue := s.port.queue ++ [n] } : LinePort).wake) := by
  unfold State.enqueue at h
  split at h
  · rename_i hs; exact .inl ⟨hs, (Option.some.inj h).symm⟩
  · rename_i hs
    split at h
    · rename_i hn; exact .inr ⟨by simpa using hs, hn, (Option.some.inj h).symm⟩
    · cases h

theorem State.enqueue_frame (n : Notice) (s t : State) (h : s.enqueue n = some t) : ∃ x, t = s.setPort x := by
  rcases s.enqueue_spec n t h with ⟨-, rfl⟩ | ⟨-, -, rfl⟩
  · exact ⟨t.port, rfl⟩
  · exact ⟨_, rfl⟩

@[simp] theorem State.handStep_frame (n : Notice) (s : State) :
    (s.handStep n).pending = s.pending ∧ (s.handStep n).clock = s.clock ∧ (s.handStep n).roundTaken = s.roundTaken ∧ (s.handStep n).freeIndex = s.freeIndex ∧ (s.handStep n).panel = s.panel ∧ (s.handStep n).run = s.run ∧ (s.handStep n).profile = s.profile ∧ (s.handStep n).load = s.load ∧ (s.handStep n).claim = s.claim ∧ (s.handStep n).seq = s.seq ∧ (s.handStep n).rail = s.rail ∧ (s.handStep n).lis = s.lis ∧ (s.handStep n).table = s.table ∧ (s.handStep n).judge = s.judge ∧ (s.handStep n).store = s.store ∧ (s.handStep n).closing = s.closing ∧ (s.handStep n).tag = s.tag ∧ (s.handStep n).openMarker = s.openMarker := by
  unfold State.handStep
  (repeat' split) <;> simp

@[simp] theorem State.putCondition_frame (c : Condition) (b : Bool) (s : State) :
    (s.putCondition c b).pending = s.pending ∧ (s.putCondition c b).clock = s.clock ∧ (s.putCondition c b).roundTaken = s.roundTaken ∧ (s.putCondition c b).freeIndex = s.freeIndex ∧ (s.putCondition c b).panel = s.panel ∧ (s.putCondition c b).profile = s.profile ∧ (s.putCondition c b).load = s.load ∧ (s.putCondition c b).port = s.port ∧ (s.putCondition c b).claim = s.claim ∧ (s.putCondition c b).seq = s.seq ∧ (s.putCondition c b).rail = s.rail ∧ (s.putCondition c b).lis = s.lis ∧ (s.putCondition c b).table = s.table ∧ (s.putCondition c b).judge = s.judge ∧ (s.putCondition c b).store = s.store ∧ (s.putCondition c b).closing = s.closing ∧ (s.putCondition c b).tag = s.tag ∧ (s.putCondition c b).openMarker = s.openMarker := by
  unfold State.putCondition
  simp

@[simp] theorem State.setAlert_frame (a : Alert) (s : State) :
    (s.setAlert a).pending = s.pending ∧ (s.setAlert a).clock = s.clock ∧ (s.setAlert a).roundTaken = s.roundTaken ∧ (s.setAlert a).freeIndex = s.freeIndex ∧ (s.setAlert a).panel = s.panel ∧ (s.setAlert a).profile = s.profile ∧ (s.setAlert a).load = s.load ∧ (s.setAlert a).port = s.port ∧ (s.setAlert a).claim = s.claim ∧ (s.setAlert a).seq = s.seq ∧ (s.setAlert a).rail = s.rail ∧ (s.setAlert a).lis = s.lis ∧ (s.setAlert a).table = s.table ∧ (s.setAlert a).judge = s.judge ∧ (s.setAlert a).store = s.store ∧ (s.setAlert a).closing = s.closing ∧ (s.setAlert a).tag = s.tag ∧ (s.setAlert a).openMarker = s.openMarker := by
  unfold State.setAlert
  simp

@[simp] theorem State.handAlert_frame (s : State) :
    (s.handAlert).pending = s.pending ∧ (s.handAlert).clock = s.clock ∧ (s.handAlert).roundTaken = s.roundTaken ∧ (s.handAlert).freeIndex = s.freeIndex ∧ (s.handAlert).panel = s.panel ∧ (s.handAlert).profile = s.profile ∧ (s.handAlert).load = s.load ∧ (s.handAlert).claim = s.claim ∧ (s.handAlert).seq = s.seq ∧ (s.handAlert).rail = s.rail ∧ (s.handAlert).lis = s.lis ∧ (s.handAlert).table = s.table ∧ (s.handAlert).judge = s.judge ∧ (s.handAlert).store = s.store ∧ (s.handAlert).closing = s.closing ∧ (s.handAlert).tag = s.tag ∧ (s.handAlert).openMarker = s.openMarker := by
  unfold State.handAlert
  split
  · rename_i t h
    obtain ⟨x, rfl⟩ := State.enqueue_frame _ _ _ h
    simp
  · simp

@[simp] theorem State.setCondition_frame (c : Condition) (s : State) :
    (s.setCondition c).pending = s.pending ∧ (s.setCondition c).clock = s.clock ∧ (s.setCondition c).roundTaken = s.roundTaken ∧ (s.setCondition c).freeIndex = s.freeIndex ∧ (s.setCondition c).panel = s.panel ∧ (s.setCondition c).profile = s.profile ∧ (s.setCondition c).load = s.load ∧ (s.setCondition c).claim = s.claim ∧ (s.setCondition c).seq = s.seq ∧ (s.setCondition c).rail = s.rail ∧ (s.setCondition c).lis = s.lis ∧ (s.setCondition c).table = s.table ∧ (s.setCondition c).judge = s.judge ∧ (s.setCondition c).store = s.store ∧ (s.setCondition c).closing = s.closing ∧ (s.setCondition c).tag = s.tag ∧ (s.setCondition c).openMarker = s.openMarker := by
  unfold State.setCondition
  (repeat' split) <;> simp

@[simp] theorem State.handNotice_frame (n : Notice) (s : State) :
    (s.handNotice n).1.pending = s.pending ∧ (s.handNotice n).1.clock = s.clock ∧ (s.handNotice n).1.roundTaken = s.roundTaken ∧ (s.handNotice n).1.freeIndex = s.freeIndex ∧ (s.handNotice n).1.panel = s.panel ∧ (s.handNotice n).1.profile = s.profile ∧ (s.handNotice n).1.load = s.load ∧ (s.handNotice n).1.claim = s.claim ∧ (s.handNotice n).1.seq = s.seq ∧ (s.handNotice n).1.rail = s.rail ∧ (s.handNotice n).1.lis = s.lis ∧ (s.handNotice n).1.table = s.table ∧ (s.handNotice n).1.judge = s.judge ∧ (s.handNotice n).1.store = s.store ∧ (s.handNotice n).1.closing = s.closing ∧ (s.handNotice n).1.tag = s.tag ∧ (s.handNotice n).1.openMarker = s.openMarker := by
  unfold State.handNotice
  split
  · rename_i t h
    obtain ⟨x, rfl⟩ := State.enqueue_frame _ _ _ h
    simp
  · simp

@[simp] theorem State.alertOnDeparture_frame (s : State) :
    (s.alertOnDeparture).pending = s.pending ∧ (s.alertOnDeparture).clock = s.clock ∧ (s.alertOnDeparture).roundTaken = s.roundTaken ∧ (s.alertOnDeparture).freeIndex = s.freeIndex ∧ (s.alertOnDeparture).panel = s.panel ∧ (s.alertOnDeparture).profile = s.profile ∧ (s.alertOnDeparture).load = s.load ∧ (s.alertOnDeparture).claim = s.claim ∧ (s.alertOnDeparture).seq = s.seq ∧ (s.alertOnDeparture).rail = s.rail ∧ (s.alertOnDeparture).lis = s.lis ∧ (s.alertOnDeparture).table = s.table ∧ (s.alertOnDeparture).judge = s.judge ∧ (s.alertOnDeparture).store = s.store ∧ (s.alertOnDeparture).closing = s.closing ∧ (s.alertOnDeparture).tag = s.tag ∧ (s.alertOnDeparture).openMarker = s.openMarker := by
  unfold State.alertOnDeparture
  (repeat' split) <;> simp

@[simp] theorem State.advanceGenerator_frame (bt : Nat) (s : State) :
    (s.advanceGenerator bt).pending = s.pending ∧ (s.advanceGenerator bt).clock = s.clock ∧ (s.advanceGenerator bt).roundTaken = s.roundTaken ∧ (s.advanceGenerator bt).freeIndex = s.freeIndex ∧ (s.advanceGenerator bt).panel = s.panel ∧ (s.advanceGenerator bt).run = s.run ∧ (s.advanceGenerator bt).profile = s.profile ∧ (s.advanceGenerator bt).load = s.load ∧ (s.advanceGenerator bt).claim = s.claim ∧ (s.advanceGenerator bt).seq = s.seq ∧ (s.advanceGenerator bt).rail = s.rail ∧ (s.advanceGenerator bt).lis = s.lis ∧ (s.advanceGenerator bt).table = s.table ∧ (s.advanceGenerator bt).judge = s.judge ∧ (s.advanceGenerator bt).store = s.store ∧ (s.advanceGenerator bt).closing = s.closing ∧ (s.advanceGenerator bt).tag = s.tag ∧ (s.advanceGenerator bt).openMarker = s.openMarker := by
  unfold State.advanceGenerator
  (repeat' split) <;> simp

@[simp] theorem State.cancelClaim_frame (s : State) :
    (s.cancelClaim).pending = s.pending ∧ (s.cancelClaim).clock = s.clock ∧ (s.cancelClaim).roundTaken = s.roundTaken ∧ (s.cancelClaim).freeIndex = s.freeIndex ∧ (s.cancelClaim).panel = s.panel ∧ (s.cancelClaim).run = s.run ∧ (s.cancelClaim).profile = s.profile ∧ (s.cancelClaim).load = s.load ∧ (s.cancelClaim).claim = s.claim ∧ (s.cancelClaim).seq = s.seq ∧ (s.cancelClaim).rail = s.rail ∧ (s.cancelClaim).lis = s.lis ∧ (s.cancelClaim).table = s.table ∧ (s.cancelClaim).judge = s.judge ∧ (s.cancelClaim).store = s.store ∧ (s.cancelClaim).closing = s.closing ∧ (s.cancelClaim).tag = s.tag ∧ (s.cancelClaim).openMarker = s.openMarker := by
  unfold State.cancelClaim
  (repeat' split) <;> simp

@[simp] theorem State.beginAttempt_frame (bt : Nat) (n : Notice) (rest : List Notice) (s : State) :
    (s.beginAttempt bt n rest).pending = s.pending ∧ (s.beginAttempt bt n rest).clock = s.clock ∧ (s.beginAttempt bt n rest).roundTaken = s.roundTaken ∧ (s.beginAttempt bt n rest).freeIndex = s.freeIndex ∧ (s.beginAttempt bt n rest).panel = s.panel ∧ (s.beginAttempt bt n rest).profile = s.profile ∧ (s.beginAttempt bt n rest).load = s.load ∧ (s.beginAttempt bt n rest).claim = s.claim ∧ (s.beginAttempt bt n rest).seq = s.seq ∧ (s.beginAttempt bt n rest).rail = s.rail ∧ (s.beginAttempt bt n rest).lis = s.lis ∧ (s.beginAttempt bt n rest).table = s.table ∧ (s.beginAttempt bt n rest).judge = s.judge ∧ (s.beginAttempt bt n rest).store = s.store ∧ (s.beginAttempt bt n rest).closing = s.closing ∧ (s.beginAttempt bt n rest).tag = s.tag ∧ (s.beginAttempt bt n rest).openMarker = s.openMarker := by
  unfold State.beginAttempt
  (repeat' split) <;> simp

@[simp] theorem State.quietGapEnd_frame (bt : Nat) (s : State) :
    (s.quietGapEnd bt).pending = s.pending ∧ (s.quietGapEnd bt).clock = s.clock ∧ (s.quietGapEnd bt).roundTaken = s.roundTaken ∧ (s.quietGapEnd bt).freeIndex = s.freeIndex ∧ (s.quietGapEnd bt).panel = s.panel ∧ (s.quietGapEnd bt).profile = s.profile ∧ (s.quietGapEnd bt).load = s.load ∧ (s.quietGapEnd bt).claim = s.claim ∧ (s.quietGapEnd bt).seq = s.seq ∧ (s.quietGapEnd bt).rail = s.rail ∧ (s.quietGapEnd bt).lis = s.lis ∧ (s.quietGapEnd bt).table = s.table ∧ (s.quietGapEnd bt).judge = s.judge ∧ (s.quietGapEnd bt).store = s.store ∧ (s.quietGapEnd bt).closing = s.closing ∧ (s.quietGapEnd bt).tag = s.tag ∧ (s.quietGapEnd bt).openMarker = s.openMarker := by
  unfold State.quietGapEnd
  (repeat' split) <;> simp

@[simp] theorem State.collision_frame (bt : Nat) (s : State) :
    (s.collision bt).pending = s.pending ∧ (s.collision bt).clock = s.clock ∧ (s.collision bt).roundTaken = s.roundTaken ∧ (s.collision bt).freeIndex = s.freeIndex ∧ (s.collision bt).panel = s.panel ∧ (s.collision bt).run = s.run ∧ (s.collision bt).profile = s.profile ∧ (s.collision bt).load = s.load ∧ (s.collision bt).claim = s.claim ∧ (s.collision bt).seq = s.seq ∧ (s.collision bt).rail = s.rail ∧ (s.collision bt).lis = s.lis ∧ (s.collision bt).table = s.table ∧ (s.collision bt).judge = s.judge ∧ (s.collision bt).store = s.store ∧ (s.collision bt).closing = s.closing ∧ (s.collision bt).tag = s.tag ∧ (s.collision bt).openMarker = s.openMarker := by
  unfold State.collision
  (repeat' split) <;> simp

@[simp] theorem State.backoffEnd_frame (bt : Nat) (s : State) :
    (s.backoffEnd bt).pending = s.pending ∧ (s.backoffEnd bt).clock = s.clock ∧ (s.backoffEnd bt).roundTaken = s.roundTaken ∧ (s.backoffEnd bt).freeIndex = s.freeIndex ∧ (s.backoffEnd bt).panel = s.panel ∧ (s.backoffEnd bt).run = s.run ∧ (s.backoffEnd bt).profile = s.profile ∧ (s.backoffEnd bt).load = s.load ∧ (s.backoffEnd bt).claim = s.claim ∧ (s.backoffEnd bt).seq = s.seq ∧ (s.backoffEnd bt).rail = s.rail ∧ (s.backoffEnd bt).lis = s.lis ∧ (s.backoffEnd bt).table = s.table ∧ (s.backoffEnd bt).judge = s.judge ∧ (s.backoffEnd bt).store = s.store ∧ (s.backoffEnd bt).closing = s.closing ∧ (s.backoffEnd bt).tag = s.tag ∧ (s.backoffEnd bt).openMarker = s.openMarker := by
  unfold State.backoffEnd
  (repeat' split) <;> simp

@[simp] theorem State.captureRequest_frame (s : State) :
    (s.captureRequest).pending = s.pending ∧ (s.captureRequest).clock = s.clock ∧ (s.captureRequest).roundTaken = s.roundTaken ∧ (s.captureRequest).panel = s.panel ∧ (s.captureRequest).run = s.run ∧ (s.captureRequest).profile = s.profile ∧ (s.captureRequest).load = s.load ∧ (s.captureRequest).port = s.port ∧ (s.captureRequest).claim = s.claim ∧ (s.captureRequest).seq = s.seq ∧ (s.captureRequest).rail = s.rail ∧ (s.captureRequest).lis = s.lis ∧ (s.captureRequest).table = s.table ∧ (s.captureRequest).judge = s.judge ∧ (s.captureRequest).closing = s.closing ∧ (s.captureRequest).tag = s.tag ∧ (s.captureRequest).openMarker = s.openMarker := by
  unfold State.captureRequest
  (repeat' split) <;> simp

@[simp] theorem State.snapshotMissed_frame (g : Sig) (s : State) :
    (s.snapshotMissed g).pending = s.pending ∧ (s.snapshotMissed g).clock = s.clock ∧ (s.snapshotMissed g).roundTaken = s.roundTaken ∧ (s.snapshotMissed g).freeIndex = s.freeIndex ∧ (s.snapshotMissed g).panel = s.panel ∧ (s.snapshotMissed g).profile = s.profile ∧ (s.snapshotMissed g).load = s.load ∧ (s.snapshotMissed g).claim = s.claim ∧ (s.snapshotMissed g).seq = s.seq ∧ (s.snapshotMissed g).rail = s.rail ∧ (s.snapshotMissed g).lis = s.lis ∧ (s.snapshotMissed g).table = s.table ∧ (s.snapshotMissed g).judge = s.judge ∧ (s.snapshotMissed g).closing = s.closing ∧ (s.snapshotMissed g).tag = s.tag ∧ (s.snapshotMissed g).openMarker = s.openMarker := by
  unfold State.snapshotMissed
  (repeat' split) <;> simp

@[simp] theorem State.beginCapture_frame (p : Profile) (g : Sig) (t : Time) (i : Nat) (s : State) :
    (s.beginCapture p g t i).pending = s.pending ∧ (s.beginCapture p g t i).clock = s.clock ∧ (s.beginCapture p g t i).roundTaken = s.roundTaken ∧ (s.beginCapture p g t i).panel = s.panel ∧ (s.beginCapture p g t i).run = s.run ∧ (s.beginCapture p g t i).profile = s.profile ∧ (s.beginCapture p g t i).load = s.load ∧ (s.beginCapture p g t i).port = s.port ∧ (s.beginCapture p g t i).claim = s.claim ∧ (s.beginCapture p g t i).seq = s.seq ∧ (s.beginCapture p g t i).rail = s.rail ∧ (s.beginCapture p g t i).lis = s.lis ∧ (s.beginCapture p g t i).table = s.table ∧ (s.beginCapture p g t i).judge = s.judge ∧ (s.beginCapture p g t i).closing = s.closing ∧ (s.beginCapture p g t i).tag = s.tag ∧ (s.beginCapture p g t i).openMarker = s.openMarker := by
  unfold State.beginCapture
  simp

@[simp] theorem State.trigger_frame (p : Profile) (g : Sig) (t : Time) (s : State) :
    (s.trigger p g t).1.pending = s.pending ∧ (s.trigger p g t).1.clock = s.clock ∧ (s.trigger p g t).1.roundTaken = s.roundTaken ∧ (s.trigger p g t).1.panel = s.panel ∧ (s.trigger p g t).1.profile = s.profile ∧ (s.trigger p g t).1.load = s.load ∧ (s.trigger p g t).1.claim = s.claim ∧ (s.trigger p g t).1.seq = s.seq ∧ (s.trigger p g t).1.rail = s.rail ∧ (s.trigger p g t).1.lis = s.lis ∧ (s.trigger p g t).1.table = s.table ∧ (s.trigger p g t).1.judge = s.judge ∧ (s.trigger p g t).1.closing = s.closing ∧ (s.trigger p g t).1.tag = s.tag ∧ (s.trigger p g t).1.openMarker = s.openMarker := by
  unfold State.trigger
  (repeat' split) <;> simp

@[simp] theorem State.offerRound_frame (r : Round) (s : State) :
    (s.offerRound r).pending = s.pending ∧ (s.offerRound r).clock = s.clock ∧ (s.offerRound r).roundTaken = s.roundTaken ∧ (s.offerRound r).panel = s.panel ∧ (s.offerRound r).run = s.run ∧ (s.offerRound r).profile = s.profile ∧ (s.offerRound r).load = s.load ∧ (s.offerRound r).port = s.port ∧ (s.offerRound r).claim = s.claim ∧ (s.offerRound r).seq = s.seq ∧ (s.offerRound r).rail = s.rail ∧ (s.offerRound r).lis = s.lis ∧ (s.offerRound r).table = s.table ∧ (s.offerRound r).judge = s.judge ∧ (s.offerRound r).closing = s.closing ∧ (s.offerRound r).tag = s.tag ∧ (s.offerRound r).openMarker = s.openMarker := by
  unfold State.offerRound
  (repeat' split) <;> simp

@[simp] theorem State.handPiece_frame (r : Readout) (payload : List Byte) (next : ReadStage) (s : State) :
    (s.handPiece r payload next).pending = s.pending ∧ (s.handPiece r payload next).clock = s.clock ∧ (s.handPiece r payload next).roundTaken = s.roundTaken ∧ (s.handPiece r payload next).freeIndex = s.freeIndex ∧ (s.handPiece r payload next).panel = s.panel ∧ (s.handPiece r payload next).profile = s.profile ∧ (s.handPiece r payload next).load = s.load ∧ (s.handPiece r payload next).claim = s.claim ∧ (s.handPiece r payload next).seq = s.seq ∧ (s.handPiece r payload next).rail = s.rail ∧ (s.handPiece r payload next).lis = s.lis ∧ (s.handPiece r payload next).table = s.table ∧ (s.handPiece r payload next).judge = s.judge ∧ (s.handPiece r payload next).closing = s.closing ∧ (s.handPiece r payload next).tag = s.tag ∧ (s.handPiece r payload next).openMarker = s.openMarker := by
  unfold State.handPiece
  split <;> rename_i t h <;> have F := State.handNotice_frame (Notice.fresh (.detail payload) r.target s.clock) s <;>
    rw [h] at F <;> simp_all

@[simp] theorem State.handData_frame (r : Readout) (s : State) :
    (s.handData r).pending = s.pending ∧ (s.handData r).clock = s.clock ∧ (s.handData r).roundTaken = s.roundTaken ∧ (s.handData r).freeIndex = s.freeIndex ∧ (s.handData r).panel = s.panel ∧ (s.handData r).profile = s.profile ∧ (s.handData r).load = s.load ∧ (s.handData r).claim = s.claim ∧ (s.handData r).seq = s.seq ∧ (s.handData r).rail = s.rail ∧ (s.handData r).lis = s.lis ∧ (s.handData r).table = s.table ∧ (s.handData r).judge = s.judge ∧ (s.handData r).closing = s.closing ∧ (s.handData r).tag = s.tag ∧ (s.handData r).openMarker = s.openMarker := by
  unfold State.handData
  simp

@[simp] theorem State.handFinal_frame (r : Readout) (s : State) :
    (s.handFinal r).pending = s.pending ∧ (s.handFinal r).clock = s.clock ∧ (s.handFinal r).roundTaken = s.roundTaken ∧ (s.handFinal r).freeIndex = s.freeIndex ∧ (s.handFinal r).panel = s.panel ∧ (s.handFinal r).profile = s.profile ∧ (s.handFinal r).load = s.load ∧ (s.handFinal r).claim = s.claim ∧ (s.handFinal r).seq = s.seq ∧ (s.handFinal r).rail = s.rail ∧ (s.handFinal r).lis = s.lis ∧ (s.handFinal r).table = s.table ∧ (s.handFinal r).judge = s.judge ∧ (s.handFinal r).closing = s.closing ∧ (s.handFinal r).tag = s.tag ∧ (s.handFinal r).openMarker = s.openMarker := by
  unfold State.handFinal
  (repeat' split) <;> simp

@[simp] theorem State.pieceReadEnd_frame (s : State) :
    (s.pieceReadEnd).pending = s.pending ∧ (s.pieceReadEnd).clock = s.clock ∧ (s.pieceReadEnd).roundTaken = s.roundTaken ∧ (s.pieceReadEnd).freeIndex = s.freeIndex ∧ (s.pieceReadEnd).panel = s.panel ∧ (s.pieceReadEnd).profile = s.profile ∧ (s.pieceReadEnd).load = s.load ∧ (s.pieceReadEnd).claim = s.claim ∧ (s.pieceReadEnd).seq = s.seq ∧ (s.pieceReadEnd).rail = s.rail ∧ (s.pieceReadEnd).lis = s.lis ∧ (s.pieceReadEnd).table = s.table ∧ (s.pieceReadEnd).judge = s.judge ∧ (s.pieceReadEnd).closing = s.closing ∧ (s.pieceReadEnd).tag = s.tag ∧ (s.pieceReadEnd).openMarker = s.openMarker := by
  unfold State.pieceReadEnd
  dsimp only
  (repeat' split) <;> simp

@[simp] theorem State.detailDeparted_frame (s : State) :
    (s.detailDeparted).pending = s.pending ∧ (s.detailDeparted).clock = s.clock ∧ (s.detailDeparted).roundTaken = s.roundTaken ∧ (s.detailDeparted).freeIndex = s.freeIndex ∧ (s.detailDeparted).panel = s.panel ∧ (s.detailDeparted).profile = s.profile ∧ (s.detailDeparted).load = s.load ∧ (s.detailDeparted).claim = s.claim ∧ (s.detailDeparted).seq = s.seq ∧ (s.detailDeparted).rail = s.rail ∧ (s.detailDeparted).lis = s.lis ∧ (s.detailDeparted).table = s.table ∧ (s.detailDeparted).judge = s.judge ∧ (s.detailDeparted).closing = s.closing ∧ (s.detailDeparted).tag = s.tag ∧ (s.detailDeparted).openMarker = s.openMarker := by
  unfold State.detailDeparted
  (repeat' split) <;> simp

@[simp] theorem State.updateRecord_frame (g : Sig) (f : Record → Record) (s : State) :
    (s.updateRecord g f).pending = s.pending ∧ (s.updateRecord g f).clock = s.clock ∧ (s.updateRecord g f).roundTaken = s.roundTaken ∧ (s.updateRecord g f).freeIndex = s.freeIndex ∧ (s.updateRecord g f).panel = s.panel ∧ (s.updateRecord g f).run = s.run ∧ (s.updateRecord g f).profile = s.profile ∧ (s.updateRecord g f).load = s.load ∧ (s.updateRecord g f).port = s.port ∧ (s.updateRecord g f).claim = s.claim ∧ (s.updateRecord g f).seq = s.seq ∧ (s.updateRecord g f).rail = s.rail ∧ (s.updateRecord g f).lis = s.lis ∧ (s.updateRecord g f).judge = s.judge ∧ (s.updateRecord g f).store = s.store ∧ (s.updateRecord g f).closing = s.closing ∧ (s.updateRecord g f).tag = s.tag ∧ (s.updateRecord g f).openMarker = s.openMarker := by
  unfold State.updateRecord
  simp

@[simp] theorem State.matchEcho_frame (p : Profile) (e : Echo) (s : State) :
    (s.matchEcho p e).pending = s.pending ∧ (s.matchEcho p e).clock = s.clock ∧ (s.matchEcho p e).roundTaken = s.roundTaken ∧ (s.matchEcho p e).freeIndex = s.freeIndex ∧ (s.matchEcho p e).panel = s.panel ∧ (s.matchEcho p e).run = s.run ∧ (s.matchEcho p e).profile = s.profile ∧ (s.matchEcho p e).load = s.load ∧ (s.matchEcho p e).port = s.port ∧ (s.matchEcho p e).claim = s.claim ∧ (s.matchEcho p e).seq = s.seq ∧ (s.matchEcho p e).rail = s.rail ∧ (s.matchEcho p e).lis = s.lis ∧ (s.matchEcho p e).table = s.table ∧ (s.matchEcho p e).store = s.store ∧ (s.matchEcho p e).closing = s.closing ∧ (s.matchEcho p e).tag = s.tag ∧ (s.matchEcho p e).openMarker = s.openMarker := by
  unfold State.matchEcho
  simp

@[simp] theorem State.lateTest_frame (p : Profile) (g : Sig) (e : Echo) (s : State) :
    (s.lateTest p g e).pending = s.pending ∧ (s.lateTest p g e).clock = s.clock ∧ (s.lateTest p g e).roundTaken = s.roundTaken ∧ (s.lateTest p g e).freeIndex = s.freeIndex ∧ (s.lateTest p g e).panel = s.panel ∧ (s.lateTest p g e).run = s.run ∧ (s.lateTest p g e).profile = s.profile ∧ (s.lateTest p g e).load = s.load ∧ (s.lateTest p g e).port = s.port ∧ (s.lateTest p g e).claim = s.claim ∧ (s.lateTest p g e).seq = s.seq ∧ (s.lateTest p g e).rail = s.rail ∧ (s.lateTest p g e).lis = s.lis ∧ (s.lateTest p g e).judge = s.judge ∧ (s.lateTest p g e).store = s.store ∧ (s.lateTest p g e).closing = s.closing ∧ (s.lateTest p g e).tag = s.tag ∧ (s.lateTest p g e).openMarker = s.openMarker := by
  unfold State.lateTest
  (repeat' split) <;> simp

@[simp] theorem State.storeEcho_frame (p : Profile) (e : Echo) (s : State) :
    (s.storeEcho p e).pending = s.pending ∧ (s.storeEcho p e).clock = s.clock ∧ (s.storeEcho p e).roundTaken = s.roundTaken ∧ (s.storeEcho p e).freeIndex = s.freeIndex ∧ (s.storeEcho p e).panel = s.panel ∧ (s.storeEcho p e).profile = s.profile ∧ (s.storeEcho p e).load = s.load ∧ (s.storeEcho p e).claim = s.claim ∧ (s.storeEcho p e).seq = s.seq ∧ (s.storeEcho p e).rail = s.rail ∧ (s.storeEcho p e).lis = s.lis ∧ (s.storeEcho p e).table = s.table ∧ (s.storeEcho p e).store = s.store ∧ (s.storeEcho p e).closing = s.closing ∧ (s.storeEcho p e).tag = s.tag ∧ (s.storeEcho p e).openMarker = s.openMarker := by
  unfold State.storeEcho
  (repeat' split) <;> simp

@[simp] theorem State.sagEcho_frame (p : Profile) (e : Echo) (s : State) :
    (s.sagEcho p e).pending = s.pending ∧ (s.sagEcho p e).clock = s.clock ∧ (s.sagEcho p e).roundTaken = s.roundTaken ∧ (s.sagEcho p e).freeIndex = s.freeIndex ∧ (s.sagEcho p e).panel = s.panel ∧ (s.sagEcho p e).profile = s.profile ∧ (s.sagEcho p e).load = s.load ∧ (s.sagEcho p e).claim = s.claim ∧ (s.sagEcho p e).seq = s.seq ∧ (s.sagEcho p e).rail = s.rail ∧ (s.sagEcho p e).lis = s.lis ∧ (s.sagEcho p e).table = s.table ∧ (s.sagEcho p e).store = s.store ∧ (s.sagEcho p e).closing = s.closing ∧ (s.sagEcho p e).tag = s.tag ∧ (s.sagEcho p e).openMarker = s.openMarker := by
  unfold State.sagEcho
  simp

@[simp] theorem State.sightingEcho_frame (p : Profile) (g : Sig) (e : Echo) (s : State) :
    (s.sightingEcho p g e).pending = s.pending ∧ (s.sightingEcho p g e).clock = s.clock ∧ (s.sightingEcho p g e).roundTaken = s.roundTaken ∧ (s.sightingEcho p g e).freeIndex = s.freeIndex ∧ (s.sightingEcho p g e).panel = s.panel ∧ (s.sightingEcho p g e).profile = s.profile ∧ (s.sightingEcho p g e).load = s.load ∧ (s.sightingEcho p g e).claim = s.claim ∧ (s.sightingEcho p g e).seq = s.seq ∧ (s.sightingEcho p g e).rail = s.rail ∧ (s.sightingEcho p g e).lis = s.lis ∧ (s.sightingEcho p g e).store = s.store ∧ (s.sightingEcho p g e).closing = s.closing ∧ (s.sightingEcho p g e).tag = s.tag ∧ (s.sightingEcho p g e).openMarker = s.openMarker := by
  unfold State.sightingEcho
  (repeat' split) <;> simp

@[simp] theorem State.takeSighting_frame (h : Header) (g : Sig) (s : State) :
    (s.takeSighting h g).pending = s.pending ∧ (s.takeSighting h g).clock = s.clock ∧ (s.takeSighting h g).roundTaken = s.roundTaken ∧ (s.takeSighting h g).freeIndex = s.freeIndex ∧ (s.takeSighting h g).panel = s.panel ∧ (s.takeSighting h g).profile = s.profile ∧ (s.takeSighting h g).load = s.load ∧ (s.takeSighting h g).claim = s.claim ∧ (s.takeSighting h g).seq = s.seq ∧ (s.takeSighting h g).rail = s.rail ∧ (s.takeSighting h g).lis = s.lis ∧ (s.takeSighting h g).store = s.store ∧ (s.takeSighting h g).closing = s.closing ∧ (s.takeSighting h g).tag = s.tag ∧ (s.takeSighting h g).openMarker = s.openMarker := by
  unfold State.takeSighting
  (repeat' split) <;> simp

@[simp] theorem State.judgeSag_frame (h : Header) (s : State) :
    (s.judgeSag h).pending = s.pending ∧ (s.judgeSag h).clock = s.clock ∧ (s.judgeSag h).roundTaken = s.roundTaken ∧ (s.judgeSag h).freeIndex = s.freeIndex ∧ (s.judgeSag h).panel = s.panel ∧ (s.judgeSag h).profile = s.profile ∧ (s.judgeSag h).load = s.load ∧ (s.judgeSag h).claim = s.claim ∧ (s.judgeSag h).seq = s.seq ∧ (s.judgeSag h).rail = s.rail ∧ (s.judgeSag h).lis = s.lis ∧ (s.judgeSag h).table = s.table ∧ (s.judgeSag h).store = s.store ∧ (s.judgeSag h).closing = s.closing ∧ (s.judgeSag h).tag = s.tag ∧ (s.judgeSag h).openMarker = s.openMarker := by
  unfold State.judgeSag
  (repeat' split) <;> simp

@[simp] theorem State.ownSagMark_frame (p : Profile) (s : State) :
    (s.ownSagMark p).pending = s.pending ∧ (s.ownSagMark p).clock = s.clock ∧ (s.ownSagMark p).roundTaken = s.roundTaken ∧ (s.ownSagMark p).freeIndex = s.freeIndex ∧ (s.ownSagMark p).panel = s.panel ∧ (s.ownSagMark p).profile = s.profile ∧ (s.ownSagMark p).load = s.load ∧ (s.ownSagMark p).claim = s.claim ∧ (s.ownSagMark p).seq = s.seq ∧ (s.ownSagMark p).rail = s.rail ∧ (s.ownSagMark p).lis = s.lis ∧ (s.ownSagMark p).table = s.table ∧ (s.ownSagMark p).store = s.store ∧ (s.ownSagMark p).closing = s.closing ∧ (s.ownSagMark p).tag = s.tag ∧ (s.ownSagMark p).openMarker = s.openMarker := by
  unfold State.ownSagMark
  simp

@[simp] theorem State.echoRemoval_frame (s : State) :
    (s.echoRemoval).pending = s.pending ∧ (s.echoRemoval).clock = s.clock ∧ (s.echoRemoval).roundTaken = s.roundTaken ∧ (s.echoRemoval).freeIndex = s.freeIndex ∧ (s.echoRemoval).panel = s.panel ∧ (s.echoRemoval).run = s.run ∧ (s.echoRemoval).profile = s.profile ∧ (s.echoRemoval).load = s.load ∧ (s.echoRemoval).port = s.port ∧ (s.echoRemoval).claim = s.claim ∧ (s.echoRemoval).seq = s.seq ∧ (s.echoRemoval).rail = s.rail ∧ (s.echoRemoval).lis = s.lis ∧ (s.echoRemoval).table = s.table ∧ (s.echoRemoval).store = s.store ∧ (s.echoRemoval).closing = s.closing ∧ (s.echoRemoval).tag = s.tag ∧ (s.echoRemoval).openMarker = s.openMarker := by
  unfold State.echoRemoval
  (repeat' split) <;> simp

@[simp] theorem State.dropOccurrences_frame (s : State) :
    (s.dropOccurrences).pending = s.pending ∧ (s.dropOccurrences).clock = s.clock ∧ (s.dropOccurrences).roundTaken = s.roundTaken ∧ (s.dropOccurrences).freeIndex = s.freeIndex ∧ (s.dropOccurrences).panel = s.panel ∧ (s.dropOccurrences).run = s.run ∧ (s.dropOccurrences).profile = s.profile ∧ (s.dropOccurrences).load = s.load ∧ (s.dropOccurrences).port = s.port ∧ (s.dropOccurrences).claim = s.claim ∧ (s.dropOccurrences).seq = s.seq ∧ (s.dropOccurrences).rail = s.rail ∧ (s.dropOccurrences).lis = s.lis ∧ (s.dropOccurrences).store = s.store ∧ (s.dropOccurrences).closing = s.closing ∧ (s.dropOccurrences).tag = s.tag ∧ (s.dropOccurrences).openMarker = s.openMarker := by
  unfold State.dropOccurrences
  simp

@[simp] theorem State.closeOccurrence_frame (p : Profile) (o : Occurrence) (rest : List Occurrence) (s : State) :
    (s.closeOccurrence p o rest).pending = s.pending ∧ (s.closeOccurrence p o rest).clock = s.clock ∧ (s.closeOccurrence p o rest).roundTaken = s.roundTaken ∧ (s.closeOccurrence p o rest).freeIndex = s.freeIndex ∧ (s.closeOccurrence p o rest).panel = s.panel ∧ (s.closeOccurrence p o rest).run = s.run ∧ (s.closeOccurrence p o rest).profile = s.profile ∧ (s.closeOccurrence p o rest).load = s.load ∧ (s.closeOccurrence p o rest).port = s.port ∧ (s.closeOccurrence p o rest).claim = s.claim ∧ (s.closeOccurrence p o rest).seq = s.seq ∧ (s.closeOccurrence p o rest).rail = s.rail ∧ (s.closeOccurrence p o rest).lis = s.lis ∧ (s.closeOccurrence p o rest).store = s.store ∧ (s.closeOccurrence p o rest).closing = s.closing ∧ (s.closeOccurrence p o rest).tag = s.tag ∧ (s.closeOccurrence p o rest).openMarker = s.openMarker := by
  unfold State.closeOccurrence
  simp

@[simp] theorem State.offerOccurrence_frame (p : Profile) (g : Sig) (t : Time) (s : State) :
    (s.offerOccurrence p g t).pending = s.pending ∧ (s.offerOccurrence p g t).clock = s.clock ∧ (s.offerOccurrence p g t).roundTaken = s.roundTaken ∧ (s.offerOccurrence p g t).freeIndex = s.freeIndex ∧ (s.offerOccurrence p g t).panel = s.panel ∧ (s.offerOccurrence p g t).profile = s.profile ∧ (s.offerOccurrence p g t).load = s.load ∧ (s.offerOccurrence p g t).claim = s.claim ∧ (s.offerOccurrence p g t).seq = s.seq ∧ (s.offerOccurrence p g t).rail = s.rail ∧ (s.offerOccurrence p g t).lis = s.lis ∧ (s.offerOccurrence p g t).store = s.store ∧ (s.offerOccurrence p g t).closing = s.closing ∧ (s.offerOccurrence p g t).tag = s.tag ∧ (s.offerOccurrence p g t).openMarker = s.openMarker := by
  unfold State.offerOccurrence
  (repeat' split) <;> simp

@[simp] theorem State.handSighting_frame (g : Sig) (t : Time) (s : State) :
    (s.handSighting g t).pending = s.pending ∧ (s.handSighting g t).clock = s.clock ∧ (s.handSighting g t).roundTaken = s.roundTaken ∧ (s.handSighting g t).freeIndex = s.freeIndex ∧ (s.handSighting g t).panel = s.panel ∧ (s.handSighting g t).profile = s.profile ∧ (s.handSighting g t).load = s.load ∧ (s.handSighting g t).claim = s.claim ∧ (s.handSighting g t).seq = s.seq ∧ (s.handSighting g t).rail = s.rail ∧ (s.handSighting g t).lis = s.lis ∧ (s.handSighting g t).table = s.table ∧ (s.handSighting g t).judge = s.judge ∧ (s.handSighting g t).store = s.store ∧ (s.handSighting g t).closing = s.closing ∧ (s.handSighting g t).tag = s.tag ∧ (s.handSighting g t).openMarker = s.openMarker := by
  unfold State.handSighting
  simp

@[simp] theorem State.setMaskBit_frame (g : Sig) (s : State) :
    (s.setMaskBit g).pending = s.pending ∧ (s.setMaskBit g).clock = s.clock ∧ (s.setMaskBit g).roundTaken = s.roundTaken ∧ (s.setMaskBit g).freeIndex = s.freeIndex ∧ (s.setMaskBit g).panel = s.panel ∧ (s.setMaskBit g).run = s.run ∧ (s.setMaskBit g).profile = s.profile ∧ (s.setMaskBit g).load = s.load ∧ (s.setMaskBit g).port = s.port ∧ (s.setMaskBit g).claim = s.claim ∧ (s.setMaskBit g).seq = s.seq ∧ (s.setMaskBit g).rail = s.rail ∧ (s.setMaskBit g).lis = s.lis ∧ (s.setMaskBit g).judge = s.judge ∧ (s.setMaskBit g).store = s.store ∧ (s.setMaskBit g).closing = s.closing ∧ (s.setMaskBit g).tag = s.tag ∧ (s.setMaskBit g).openMarker = s.openMarker := by
  unfold State.setMaskBit
  simp

@[simp] theorem State.triggerSnapshot_frame (p : Profile) (g : Sig) (t : Time) (s : State) :
    (s.triggerSnapshot p g t).pending = s.pending ∧ (s.triggerSnapshot p g t).clock = s.clock ∧ (s.triggerSnapshot p g t).roundTaken = s.roundTaken ∧ (s.triggerSnapshot p g t).panel = s.panel ∧ (s.triggerSnapshot p g t).profile = s.profile ∧ (s.triggerSnapshot p g t).load = s.load ∧ (s.triggerSnapshot p g t).claim = s.claim ∧ (s.triggerSnapshot p g t).seq = s.seq ∧ (s.triggerSnapshot p g t).rail = s.rail ∧ (s.triggerSnapshot p g t).lis = s.lis ∧ (s.triggerSnapshot p g t).judge = s.judge ∧ (s.triggerSnapshot p g t).closing = s.closing ∧ (s.triggerSnapshot p g t).tag = s.tag ∧ (s.triggerSnapshot p g t).openMarker = s.openMarker := by
  unfold State.triggerSnapshot
  dsimp only
  (repeat' split) <;> simp

@[simp] theorem State.announceOccurrence_frame (p : Profile) (g : Sig) (t : Time) (s : State) :
    (s.announceOccurrence p g t).pending = s.pending ∧ (s.announceOccurrence p g t).clock = s.clock ∧ (s.announceOccurrence p g t).roundTaken = s.roundTaken ∧ (s.announceOccurrence p g t).freeIndex = s.freeIndex ∧ (s.announceOccurrence p g t).panel = s.panel ∧ (s.announceOccurrence p g t).profile = s.profile ∧ (s.announceOccurrence p g t).load = s.load ∧ (s.announceOccurrence p g t).claim = s.claim ∧ (s.announceOccurrence p g t).seq = s.seq ∧ (s.announceOccurrence p g t).rail = s.rail ∧ (s.announceOccurrence p g t).lis = s.lis ∧ (s.announceOccurrence p g t).store = s.store ∧ (s.announceOccurrence p g t).closing = s.closing ∧ (s.announceOccurrence p g t).tag = s.tag ∧ (s.announceOccurrence p g t).openMarker = s.openMarker := by
  unfold State.announceOccurrence
  simp

@[simp] theorem State.loseReport_frame (g : Sig) (s : State) :
    (s.loseReport g).pending = s.pending ∧ (s.loseReport g).clock = s.clock ∧ (s.loseReport g).roundTaken = s.roundTaken ∧ (s.loseReport g).freeIndex = s.freeIndex ∧ (s.loseReport g).panel = s.panel ∧ (s.loseReport g).profile = s.profile ∧ (s.loseReport g).load = s.load ∧ (s.loseReport g).claim = s.claim ∧ (s.loseReport g).seq = s.seq ∧ (s.loseReport g).rail = s.rail ∧ (s.loseReport g).lis = s.lis ∧ (s.loseReport g).judge = s.judge ∧ (s.loseReport g).store = s.store ∧ (s.loseReport g).closing = s.closing ∧ (s.loseReport g).tag = s.tag ∧ (s.loseReport g).openMarker = s.openMarker := by
  unfold State.loseReport
  (repeat' split) <;> simp

@[simp] theorem State.faultReport_frame (p : Profile) (g : Sig) (t : Time) (s : State) :
    (s.faultReport p g t).pending = s.pending ∧ (s.faultReport p g t).clock = s.clock ∧ (s.faultReport p g t).roundTaken = s.roundTaken ∧ (s.faultReport p g t).panel = s.panel ∧ (s.faultReport p g t).profile = s.profile ∧ (s.faultReport p g t).load = s.load ∧ (s.faultReport p g t).claim = s.claim ∧ (s.faultReport p g t).seq = s.seq ∧ (s.faultReport p g t).rail = s.rail ∧ (s.faultReport p g t).lis = s.lis ∧ (s.faultReport p g t).closing = s.closing ∧ (s.faultReport p g t).tag = s.tag ∧ (s.faultReport p g t).openMarker = s.openMarker := by
  unfold State.faultReport
  (repeat' split) <;> simp

@[simp] theorem State.faultReports_frame (p : Profile) (cls : Nat) (details : List Nat) (t : Time) (s : State) :
    (s.faultReports p cls details t).pending = s.pending ∧ (s.faultReports p cls details t).clock = s.clock ∧ (s.faultReports p cls details t).roundTaken = s.roundTaken ∧ (s.faultReports p cls details t).panel = s.panel ∧ (s.faultReports p cls details t).profile = s.profile ∧ (s.faultReports p cls details t).load = s.load ∧ (s.faultReports p cls details t).claim = s.claim ∧ (s.faultReports p cls details t).seq = s.seq ∧ (s.faultReports p cls details t).rail = s.rail ∧ (s.faultReports p cls details t).lis = s.lis ∧ (s.faultReports p cls details t).closing = s.closing ∧ (s.faultReports p cls details t).tag = s.tag ∧ (s.faultReports p cls details t).openMarker = s.openMarker := by
  unfold State.faultReports
  induction details generalizing s with
  | nil => simp
  | cons d l ih =>
    have h := ih (s.faultReport p (signature cls d) t)
    simp only [State.faultReport_frame] at h
    exact h

@[simp] theorem State.changePhase_frame (ph : Phase) (s : State) :
    (s.changePhase ph).pending = s.pending ∧ (s.changePhase ph).clock = s.clock ∧ (s.changePhase ph).roundTaken = s.roundTaken ∧ (s.changePhase ph).freeIndex = s.freeIndex ∧ (s.changePhase ph).panel = s.panel ∧ (s.changePhase ph).run = s.run ∧ (s.changePhase ph).profile = s.profile ∧ (s.changePhase ph).load = s.load ∧ (s.changePhase ph).port = s.port ∧ (s.changePhase ph).claim = s.claim ∧ (s.changePhase ph).table = s.table ∧ (s.changePhase ph).judge = s.judge ∧ (s.changePhase ph).store = s.store ∧ (s.changePhase ph).closing = s.closing ∧ (s.changePhase ph).tag = s.tag ∧ (s.changePhase ph).openMarker = s.openMarker := by
  unfold State.changePhase
  simp

@[simp] theorem State.enterRamp_frame (p : Profile) (s : State) :
    (s.enterRamp p).pending = s.pending ∧ (s.enterRamp p).clock = s.clock ∧ (s.enterRamp p).roundTaken = s.roundTaken ∧ (s.enterRamp p).freeIndex = s.freeIndex ∧ (s.enterRamp p).panel = s.panel ∧ (s.enterRamp p).run = s.run ∧ (s.enterRamp p).profile = s.profile ∧ (s.enterRamp p).load = s.load ∧ (s.enterRamp p).port = s.port ∧ (s.enterRamp p).claim = s.claim ∧ (s.enterRamp p).table = s.table ∧ (s.enterRamp p).judge = s.judge ∧ (s.enterRamp p).store = s.store ∧ (s.enterRamp p).closing = s.closing ∧ (s.enterRamp p).tag = s.tag ∧ (s.enterRamp p).openMarker = s.openMarker := by
  unfold State.enterRamp
  simp

@[simp] theorem State.rampIfWaiting_frame (p : Profile) (s : State) :
    (s.rampIfWaiting p).pending = s.pending ∧ (s.rampIfWaiting p).clock = s.clock ∧ (s.rampIfWaiting p).roundTaken = s.roundTaken ∧ (s.rampIfWaiting p).freeIndex = s.freeIndex ∧ (s.rampIfWaiting p).panel = s.panel ∧ (s.rampIfWaiting p).run = s.run ∧ (s.rampIfWaiting p).profile = s.profile ∧ (s.rampIfWaiting p).load = s.load ∧ (s.rampIfWaiting p).port = s.port ∧ (s.rampIfWaiting p).claim = s.claim ∧ (s.rampIfWaiting p).table = s.table ∧ (s.rampIfWaiting p).judge = s.judge ∧ (s.rampIfWaiting p).store = s.store ∧ (s.rampIfWaiting p).closing = s.closing ∧ (s.rampIfWaiting p).tag = s.tag ∧ (s.rampIfWaiting p).openMarker = s.openMarker := by
  unfold State.rampIfWaiting
  (repeat' split) <;> simp

@[simp] theorem State.setRoster_frame (r : List RosterEntry) (s : State) :
    (s.setRoster r).pending = s.pending ∧ (s.setRoster r).clock = s.clock ∧ (s.setRoster r).roundTaken = s.roundTaken ∧ (s.setRoster r).freeIndex = s.freeIndex ∧ (s.setRoster r).panel = s.panel ∧ (s.setRoster r).run = s.run ∧ (s.setRoster r).profile = s.profile ∧ (s.setRoster r).load = s.load ∧ (s.setRoster r).port = s.port ∧ (s.setRoster r).seq = s.seq ∧ (s.setRoster r).rail = s.rail ∧ (s.setRoster r).lis = s.lis ∧ (s.setRoster r).table = s.table ∧ (s.setRoster r).judge = s.judge ∧ (s.setRoster r).store = s.store ∧ (s.setRoster r).closing = s.closing ∧ (s.setRoster r).tag = s.tag ∧ (s.setRoster r).openMarker = s.openMarker := by
  unfold State.setRoster
  simp

@[simp] theorem State.setClaimState_frame (c : ClaimState) (s : State) :
    (s.setClaimState c).pending = s.pending ∧ (s.setClaimState c).clock = s.clock ∧ (s.setClaimState c).roundTaken = s.roundTaken ∧ (s.setClaimState c).freeIndex = s.freeIndex ∧ (s.setClaimState c).panel = s.panel ∧ (s.setClaimState c).run = s.run ∧ (s.setClaimState c).profile = s.profile ∧ (s.setClaimState c).load = s.load ∧ (s.setClaimState c).port = s.port ∧ (s.setClaimState c).seq = s.seq ∧ (s.setClaimState c).rail = s.rail ∧ (s.setClaimState c).lis = s.lis ∧ (s.setClaimState c).table = s.table ∧ (s.setClaimState c).judge = s.judge ∧ (s.setClaimState c).store = s.store ∧ (s.setClaimState c).closing = s.closing ∧ (s.setClaimState c).tag = s.tag ∧ (s.setClaimState c).openMarker = s.openMarker := by
  unfold State.setClaimState
  simp

@[simp] theorem State.tryClaim_frame (p : Profile) (s : State) :
    (s.tryClaim p).pending = s.pending ∧ (s.tryClaim p).clock = s.clock ∧ (s.tryClaim p).roundTaken = s.roundTaken ∧ (s.tryClaim p).freeIndex = s.freeIndex ∧ (s.tryClaim p).panel = s.panel ∧ (s.tryClaim p).run = s.run ∧ (s.tryClaim p).profile = s.profile ∧ (s.tryClaim p).load = s.load ∧ (s.tryClaim p).seq = s.seq ∧ (s.tryClaim p).rail = s.rail ∧ (s.tryClaim p).lis = s.lis ∧ (s.tryClaim p).table = s.table ∧ (s.tryClaim p).judge = s.judge ∧ (s.tryClaim p).store = s.store ∧ (s.tryClaim p).closing = s.closing ∧ (s.tryClaim p).tag = s.tag ∧ (s.tryClaim p).openMarker = s.openMarker := by
  unfold State.tryClaim
  (repeat' split) <;> simp

@[simp] theorem State.startHold_frame (s : State) :
    (s.startHold).pending = s.pending ∧ (s.startHold).clock = s.clock ∧ (s.startHold).roundTaken = s.roundTaken ∧ (s.startHold).freeIndex = s.freeIndex ∧ (s.startHold).panel = s.panel ∧ (s.startHold).run = s.run ∧ (s.startHold).profile = s.profile ∧ (s.startHold).load = s.load ∧ (s.startHold).port = s.port ∧ (s.startHold).seq = s.seq ∧ (s.startHold).rail = s.rail ∧ (s.startHold).lis = s.lis ∧ (s.startHold).table = s.table ∧ (s.startHold).judge = s.judge ∧ (s.startHold).store = s.store ∧ (s.startHold).closing = s.closing ∧ (s.startHold).tag = s.tag ∧ (s.startHold).openMarker = s.openMarker := by
  unfold State.startHold
  simp

@[simp] theorem State.beginContest_frame (p : Profile) (s : State) :
    (s.beginContest p).pending = s.pending ∧ (s.beginContest p).clock = s.clock ∧ (s.beginContest p).roundTaken = s.roundTaken ∧ (s.beginContest p).freeIndex = s.freeIndex ∧ (s.beginContest p).panel = s.panel ∧ (s.beginContest p).run = s.run ∧ (s.beginContest p).profile = s.profile ∧ (s.beginContest p).load = s.load ∧ (s.beginContest p).table = s.table ∧ (s.beginContest p).judge = s.judge ∧ (s.beginContest p).store = s.store ∧ (s.beginContest p).closing = s.closing ∧ (s.beginContest p).tag = s.tag ∧ (s.beginContest p).openMarker = s.openMarker := by
  unfold State.beginContest
  (repeat' split) <;> simp

@[simp] theorem State.claimWaitingEntry_frame (p : Profile) (s : State) :
    (s.claimWaitingEntry p).pending = s.pending ∧ (s.claimWaitingEntry p).clock = s.clock ∧ (s.claimWaitingEntry p).roundTaken = s.roundTaken ∧ (s.claimWaitingEntry p).freeIndex = s.freeIndex ∧ (s.claimWaitingEntry p).panel = s.panel ∧ (s.claimWaitingEntry p).run = s.run ∧ (s.claimWaitingEntry p).profile = s.profile ∧ (s.claimWaitingEntry p).load = s.load ∧ (s.claimWaitingEntry p).table = s.table ∧ (s.claimWaitingEntry p).judge = s.judge ∧ (s.claimWaitingEntry p).store = s.store ∧ (s.claimWaitingEntry p).closing = s.closing ∧ (s.claimWaitingEntry p).tag = s.tag ∧ (s.claimWaitingEntry p).openMarker = s.openMarker := by
  unfold State.claimWaitingEntry
  (repeat' split) <;> simp

@[simp] theorem State.sumFell_frame (s : State) :
    (s.sumFell).pending = s.pending ∧ (s.sumFell).clock = s.clock ∧ (s.sumFell).roundTaken = s.roundTaken ∧ (s.sumFell).freeIndex = s.freeIndex ∧ (s.sumFell).panel = s.panel ∧ (s.sumFell).run = s.run ∧ (s.sumFell).profile = s.profile ∧ (s.sumFell).load = s.load ∧ (s.sumFell).seq = s.seq ∧ (s.sumFell).rail = s.rail ∧ (s.sumFell).lis = s.lis ∧ (s.sumFell).table = s.table ∧ (s.sumFell).judge = s.judge ∧ (s.sumFell).store = s.store ∧ (s.sumFell).closing = s.closing ∧ (s.sumFell).tag = s.tag ∧ (s.sumFell).openMarker = s.openMarker := by
  unfold State.sumFell
  (repeat' split) <;> simp

@[simp] theorem State.sumRose_frame (s : State) :
    (s.sumRose).pending = s.pending ∧ (s.sumRose).clock = s.clock ∧ (s.sumRose).roundTaken = s.roundTaken ∧ (s.sumRose).freeIndex = s.freeIndex ∧ (s.sumRose).panel = s.panel ∧ (s.sumRose).run = s.run ∧ (s.sumRose).profile = s.profile ∧ (s.sumRose).load = s.load ∧ (s.sumRose).seq = s.seq ∧ (s.sumRose).rail = s.rail ∧ (s.sumRose).lis = s.lis ∧ (s.sumRose).table = s.table ∧ (s.sumRose).judge = s.judge ∧ (s.sumRose).store = s.store ∧ (s.sumRose).closing = s.closing ∧ (s.sumRose).tag = s.tag ∧ (s.sumRose).openMarker = s.openMarker := by
  unfold State.sumRose
  (repeat' split) <;> simp

@[simp] theorem State.rosterChanged_frame (r : List RosterEntry) (s : State) :
    (s.rosterChanged r).pending = s.pending ∧ (s.rosterChanged r).clock = s.clock ∧ (s.rosterChanged r).roundTaken = s.roundTaken ∧ (s.rosterChanged r).freeIndex = s.freeIndex ∧ (s.rosterChanged r).panel = s.panel ∧ (s.rosterChanged r).run = s.run ∧ (s.rosterChanged r).profile = s.profile ∧ (s.rosterChanged r).load = s.load ∧ (s.rosterChanged r).seq = s.seq ∧ (s.rosterChanged r).rail = s.rail ∧ (s.rosterChanged r).lis = s.lis ∧ (s.rosterChanged r).table = s.table ∧ (s.rosterChanged r).judge = s.judge ∧ (s.rosterChanged r).store = s.store ∧ (s.rosterChanged r).closing = s.closing ∧ (s.rosterChanged r).tag = s.tag ∧ (s.rosterChanged r).openMarker = s.openMarker := by
  unfold State.rosterChanged
  (repeat' split) <;> simp

@[simp] theorem State.takeClaim_frame (h : Header) (weight : Byte) (duration : BitVec 16) (s : State) :
    (s.takeClaim h weight duration).pending = s.pending ∧ (s.takeClaim h weight duration).clock = s.clock ∧ (s.takeClaim h weight duration).roundTaken = s.roundTaken ∧ (s.takeClaim h weight duration).freeIndex = s.freeIndex ∧ (s.takeClaim h weight duration).panel = s.panel ∧ (s.takeClaim h weight duration).run = s.run ∧ (s.takeClaim h weight duration).profile = s.profile ∧ (s.takeClaim h weight duration).load = s.load ∧ (s.takeClaim h weight duration).seq = s.seq ∧ (s.takeClaim h weight duration).rail = s.rail ∧ (s.takeClaim h weight duration).lis = s.lis ∧ (s.takeClaim h weight duration).table = s.table ∧ (s.takeClaim h weight duration).judge = s.judge ∧ (s.takeClaim h weight duration).store = s.store ∧ (s.takeClaim h weight duration).closing = s.closing ∧ (s.takeClaim h weight duration).tag = s.tag ∧ (s.takeClaim h weight duration).openMarker = s.openMarker := by
  unfold State.takeClaim
  simp

@[simp] theorem State.takeRelease_frame (h : Header) (s : State) :
    (s.takeRelease h).pending = s.pending ∧ (s.takeRelease h).clock = s.clock ∧ (s.takeRelease h).roundTaken = s.roundTaken ∧ (s.takeRelease h).freeIndex = s.freeIndex ∧ (s.takeRelease h).panel = s.panel ∧ (s.takeRelease h).run = s.run ∧ (s.takeRelease h).profile = s.profile ∧ (s.takeRelease h).load = s.load ∧ (s.takeRelease h).seq = s.seq ∧ (s.takeRelease h).rail = s.rail ∧ (s.takeRelease h).lis = s.lis ∧ (s.takeRelease h).table = s.table ∧ (s.takeRelease h).judge = s.judge ∧ (s.takeRelease h).store = s.store ∧ (s.takeRelease h).closing = s.closing ∧ (s.takeRelease h).tag = s.tag ∧ (s.takeRelease h).openMarker = s.openMarker := by
  unfold State.takeRelease
  simp

@[simp] theorem State.entryExpiry_frame (source : Byte) (s : State) :
    (s.entryExpiry source).pending = s.pending ∧ (s.entryExpiry source).clock = s.clock ∧ (s.entryExpiry source).roundTaken = s.roundTaken ∧ (s.entryExpiry source).freeIndex = s.freeIndex ∧ (s.entryExpiry source).panel = s.panel ∧ (s.entryExpiry source).run = s.run ∧ (s.entryExpiry source).profile = s.profile ∧ (s.entryExpiry source).load = s.load ∧ (s.entryExpiry source).seq = s.seq ∧ (s.entryExpiry source).rail = s.rail ∧ (s.entryExpiry source).lis = s.lis ∧ (s.entryExpiry source).table = s.table ∧ (s.entryExpiry source).judge = s.judge ∧ (s.entryExpiry source).store = s.store ∧ (s.entryExpiry source).closing = s.closing ∧ (s.entryExpiry source).tag = s.tag ∧ (s.entryExpiry source).openMarker = s.openMarker := by
  unfold State.entryExpiry
  (repeat' split) <;> simp

@[simp] theorem State.holdEnd_frame (s : State) :
    (s.holdEnd).pending = s.pending ∧ (s.holdEnd).clock = s.clock ∧ (s.holdEnd).roundTaken = s.roundTaken ∧ (s.holdEnd).freeIndex = s.freeIndex ∧ (s.holdEnd).panel = s.panel ∧ (s.holdEnd).run = s.run ∧ (s.holdEnd).profile = s.profile ∧ (s.holdEnd).load = s.load ∧ (s.holdEnd).table = s.table ∧ (s.holdEnd).judge = s.judge ∧ (s.holdEnd).store = s.store ∧ (s.holdEnd).closing = s.closing ∧ (s.holdEnd).tag = s.tag ∧ (s.holdEnd).openMarker = s.openMarker := by
  unfold State.holdEnd
  (repeat' split) <;> simp

@[simp] theorem State.claimSag_frame (s : State) :
    (s.claimSag).pending = s.pending ∧ (s.claimSag).clock = s.clock ∧ (s.claimSag).roundTaken = s.roundTaken ∧ (s.claimSag).freeIndex = s.freeIndex ∧ (s.claimSag).panel = s.panel ∧ (s.claimSag).run = s.run ∧ (s.claimSag).profile = s.profile ∧ (s.claimSag).load = s.load ∧ (s.claimSag).seq = s.seq ∧ (s.claimSag).rail = s.rail ∧ (s.claimSag).lis = s.lis ∧ (s.claimSag).table = s.table ∧ (s.claimSag).judge = s.judge ∧ (s.claimSag).store = s.store ∧ (s.claimSag).closing = s.closing ∧ (s.claimSag).tag = s.tag ∧ (s.claimSag).openMarker = s.openMarker := by
  unfold State.claimSag
  (repeat' split) <;> simp

@[simp] theorem State.claimRunEnding_frame (s : State) :
    (s.claimRunEnding).pending = s.pending ∧ (s.claimRunEnding).clock = s.clock ∧ (s.claimRunEnding).roundTaken = s.roundTaken ∧ (s.claimRunEnding).freeIndex = s.freeIndex ∧ (s.claimRunEnding).panel = s.panel ∧ (s.claimRunEnding).run = s.run ∧ (s.claimRunEnding).profile = s.profile ∧ (s.claimRunEnding).load = s.load ∧ (s.claimRunEnding).seq = s.seq ∧ (s.claimRunEnding).rail = s.rail ∧ (s.claimRunEnding).lis = s.lis ∧ (s.claimRunEnding).table = s.table ∧ (s.claimRunEnding).judge = s.judge ∧ (s.claimRunEnding).store = s.store ∧ (s.claimRunEnding).closing = s.closing ∧ (s.claimRunEnding).tag = s.tag ∧ (s.claimRunEnding).openMarker = s.openMarker := by
  unfold State.claimRunEnding
  (repeat' split) <;> simp

@[simp] theorem State.endStanding_frame (outcome : Byte) (s : State) :
    (s.endStanding outcome).pending = s.pending ∧ (s.endStanding outcome).clock = s.clock ∧ (s.endStanding outcome).roundTaken = s.roundTaken ∧ (s.endStanding outcome).freeIndex = s.freeIndex ∧ (s.endStanding outcome).panel = s.panel ∧ (s.endStanding outcome).run = s.run ∧ (s.endStanding outcome).profile = s.profile ∧ (s.endStanding outcome).load = s.load ∧ (s.endStanding outcome).seq = s.seq ∧ (s.endStanding outcome).rail = s.rail ∧ (s.endStanding outcome).lis = s.lis ∧ (s.endStanding outcome).table = s.table ∧ (s.endStanding outcome).judge = s.judge ∧ (s.endStanding outcome).store = s.store ∧ (s.endStanding outcome).closing = s.closing ∧ (s.endStanding outcome).tag = s.tag ∧ (s.endStanding outcome).openMarker = s.openMarker := by
  unfold State.endStanding
  (repeat' split) <;> simp

@[simp] theorem State.handWithdraw_frame (s : State) :
    (s.handWithdraw).pending = s.pending ∧ (s.handWithdraw).clock = s.clock ∧ (s.handWithdraw).roundTaken = s.roundTaken ∧ (s.handWithdraw).freeIndex = s.freeIndex ∧ (s.handWithdraw).panel = s.panel ∧ (s.handWithdraw).run = s.run ∧ (s.handWithdraw).profile = s.profile ∧ (s.handWithdraw).load = s.load ∧ (s.handWithdraw).claim = s.claim ∧ (s.handWithdraw).seq = s.seq ∧ (s.handWithdraw).rail = s.rail ∧ (s.handWithdraw).lis = s.lis ∧ (s.handWithdraw).table = s.table ∧ (s.handWithdraw).judge = s.judge ∧ (s.handWithdraw).store = s.store ∧ (s.handWithdraw).closing = s.closing ∧ (s.handWithdraw).tag = s.tag ∧ (s.handWithdraw).openMarker = s.openMarker := by
  unfold State.handWithdraw
  simp

@[simp] theorem State.cancellingSagEnds_frame (d : Time) (s : State) :
    (s.cancellingSagEnds d).pending = s.pending ∧ (s.cancellingSagEnds d).clock = s.clock ∧ (s.cancellingSagEnds d).roundTaken = s.roundTaken ∧ (s.cancellingSagEnds d).freeIndex = s.freeIndex ∧ (s.cancellingSagEnds d).panel = s.panel ∧ (s.cancellingSagEnds d).run = s.run ∧ (s.cancellingSagEnds d).profile = s.profile ∧ (s.cancellingSagEnds d).load = s.load ∧ (s.cancellingSagEnds d).seq = s.seq ∧ (s.cancellingSagEnds d).rail = s.rail ∧ (s.cancellingSagEnds d).lis = s.lis ∧ (s.cancellingSagEnds d).table = s.table ∧ (s.cancellingSagEnds d).judge = s.judge ∧ (s.cancellingSagEnds d).store = s.store ∧ (s.cancellingSagEnds d).closing = s.closing ∧ (s.cancellingSagEnds d).tag = s.tag ∧ (s.cancellingSagEnds d).openMarker = s.openMarker := by
  unfold State.cancellingSagEnds
  (repeat' split) <;> simp

@[simp] theorem State.cancellingEndEnds_frame (s : State) :
    (s.cancellingEndEnds).pending = s.pending ∧ (s.cancellingEndEnds).clock = s.clock ∧ (s.cancellingEndEnds).roundTaken = s.roundTaken ∧ (s.cancellingEndEnds).freeIndex = s.freeIndex ∧ (s.cancellingEndEnds).panel = s.panel ∧ (s.cancellingEndEnds).run = s.run ∧ (s.cancellingEndEnds).profile = s.profile ∧ (s.cancellingEndEnds).load = s.load ∧ (s.cancellingEndEnds).table = s.table ∧ (s.cancellingEndEnds).judge = s.judge ∧ (s.cancellingEndEnds).store = s.store ∧ (s.cancellingEndEnds).closing = s.closing ∧ (s.cancellingEndEnds).tag = s.tag ∧ (s.cancellingEndEnds).openMarker = s.openMarker := by
  unfold State.cancellingEndEnds
  (repeat' split) <;> simp

@[simp] theorem State.claimCompleted_frame (s : State) :
    (s.claimCompleted).pending = s.pending ∧ (s.claimCompleted).clock = s.clock ∧ (s.claimCompleted).roundTaken = s.roundTaken ∧ (s.claimCompleted).freeIndex = s.freeIndex ∧ (s.claimCompleted).panel = s.panel ∧ (s.claimCompleted).run = s.run ∧ (s.claimCompleted).profile = s.profile ∧ (s.claimCompleted).load = s.load ∧ (s.claimCompleted).table = s.table ∧ (s.claimCompleted).judge = s.judge ∧ (s.claimCompleted).store = s.store ∧ (s.claimCompleted).closing = s.closing ∧ (s.claimCompleted).tag = s.tag ∧ (s.claimCompleted).openMarker = s.openMarker := by
  unfold State.claimCompleted
  cases hc : s.claim.state <;> cases hp : s.profile <;> dsimp only <;> (try split) <;> simp [hp]

@[simp] theorem State.claimCancelled_frame (s : State) :
    (s.claimCancelled).pending = s.pending ∧ (s.claimCancelled).clock = s.clock ∧ (s.claimCancelled).roundTaken = s.roundTaken ∧ (s.claimCancelled).freeIndex = s.freeIndex ∧ (s.claimCancelled).panel = s.panel ∧ (s.claimCancelled).run = s.run ∧ (s.claimCancelled).profile = s.profile ∧ (s.claimCancelled).load = s.load ∧ (s.claimCancelled).table = s.table ∧ (s.claimCancelled).judge = s.judge ∧ (s.claimCancelled).store = s.store ∧ (s.claimCancelled).closing = s.closing ∧ (s.claimCancelled).tag = s.tag ∧ (s.claimCancelled).openMarker = s.openMarker := by
  unfold State.claimCancelled
  cases hc : s.claim.state <;> cases hp : s.profile <;> dsimp only <;> simp [hp]

@[simp] theorem State.computeVerdict_frame (p : Profile) (s : State) :
    (s.computeVerdict p).pending = s.pending ∧ (s.computeVerdict p).clock = s.clock ∧ (s.computeVerdict p).roundTaken = s.roundTaken ∧ (s.computeVerdict p).freeIndex = s.freeIndex ∧ (s.computeVerdict p).panel = s.panel ∧ (s.computeVerdict p).profile = s.profile ∧ (s.computeVerdict p).load = s.load ∧ (s.computeVerdict p).port = s.port ∧ (s.computeVerdict p).claim = s.claim ∧ (s.computeVerdict p).seq = s.seq ∧ (s.computeVerdict p).rail = s.rail ∧ (s.computeVerdict p).lis = s.lis ∧ (s.computeVerdict p).table = s.table ∧ (s.computeVerdict p).judge = s.judge ∧ (s.computeVerdict p).store = s.store ∧ (s.computeVerdict p).closing = s.closing ∧ (s.computeVerdict p).tag = s.tag ∧ (s.computeVerdict p).openMarker = s.openMarker := by
  unfold State.computeVerdict
  simp

@[simp] theorem State.tagUndetermined_frame (w : DocketWrite) (s : State) :
    (s.tagUndetermined w).pending = s.pending ∧ (s.tagUndetermined w).clock = s.clock ∧ (s.tagUndetermined w).roundTaken = s.roundTaken ∧ (s.tagUndetermined w).freeIndex = s.freeIndex ∧ (s.tagUndetermined w).panel = s.panel ∧ (s.tagUndetermined w).run = s.run ∧ (s.tagUndetermined w).profile = s.profile ∧ (s.tagUndetermined w).load = s.load ∧ (s.tagUndetermined w).port = s.port ∧ (s.tagUndetermined w).claim = s.claim ∧ (s.tagUndetermined w).seq = s.seq ∧ (s.tagUndetermined w).rail = s.rail ∧ (s.tagUndetermined w).lis = s.lis ∧ (s.tagUndetermined w).table = s.table ∧ (s.tagUndetermined w).judge = s.judge ∧ (s.tagUndetermined w).store = s.store ∧ (s.tagUndetermined w).closing = s.closing := by
  unfold State.tagUndetermined
  (repeat' split) <;> simp

@[simp] theorem State.learnSlots_frame (h : SlotHeaders) (s : State) :
    (s.learnSlots h).pending = s.pending ∧ (s.learnSlots h).clock = s.clock ∧ (s.learnSlots h).roundTaken = s.roundTaken ∧ (s.learnSlots h).freeIndex = s.freeIndex ∧ (s.learnSlots h).panel = s.panel ∧ (s.learnSlots h).run = s.run ∧ (s.learnSlots h).profile = s.profile ∧ (s.learnSlots h).load = s.load ∧ (s.learnSlots h).port = s.port ∧ (s.learnSlots h).claim = s.claim ∧ (s.learnSlots h).seq = s.seq ∧ (s.learnSlots h).rail = s.rail ∧ (s.learnSlots h).lis = s.lis ∧ (s.learnSlots h).table = s.table ∧ (s.learnSlots h).judge = s.judge ∧ (s.learnSlots h).store = s.store ∧ (s.learnSlots h).closing = s.closing := by
  unfold State.learnSlots
  simp

@[simp] theorem State.announce_frame (p : Profile) (m : Summary) (written : Bool) (next : RunState) (s : State) :
    (s.announce p m written next).pending = s.pending ∧ (s.announce p m written next).clock = s.clock ∧ (s.announce p m written next).roundTaken = s.roundTaken ∧ (s.announce p m written next).freeIndex = s.freeIndex ∧ (s.announce p m written next).panel = s.panel ∧ (s.announce p m written next).profile = s.profile ∧ (s.announce p m written next).load = s.load ∧ (s.announce p m written next).claim = s.claim ∧ (s.announce p m written next).seq = s.seq ∧ (s.announce p m written next).rail = s.rail ∧ (s.announce p m written next).lis = s.lis ∧ (s.announce p m written next).table = s.table ∧ (s.announce p m written next).judge = s.judge ∧ (s.announce p m written next).store = s.store ∧ (s.announce p m written next).tag = s.tag ∧ (s.announce p m written next).openMarker = s.openMarker := by
  unfold State.announce
  simp

@[simp] theorem State.closingAdvance_frame (s : State) :
    (s.closingAdvance).pending = s.pending ∧ (s.closingAdvance).clock = s.clock ∧ (s.closingAdvance).roundTaken = s.roundTaken ∧ (s.closingAdvance).freeIndex = s.freeIndex ∧ (s.closingAdvance).panel = s.panel ∧ (s.closingAdvance).run = s.run ∧ (s.closingAdvance).profile = s.profile ∧ (s.closingAdvance).load = s.load ∧ (s.closingAdvance).port = s.port ∧ (s.closingAdvance).claim = s.claim ∧ (s.closingAdvance).seq = s.seq ∧ (s.closingAdvance).rail = s.rail ∧ (s.closingAdvance).lis = s.lis ∧ (s.closingAdvance).table = s.table ∧ (s.closingAdvance).judge = s.judge ∧ (s.closingAdvance).store = s.store ∧ (s.closingAdvance).tag = s.tag ∧ (s.closingAdvance).openMarker = s.openMarker := by
  unfold State.closingAdvance
  (repeat' split) <;> simp

@[simp] theorem State.enterClosing_frame (reason : EndReason) (s : State) :
    (s.enterClosing reason).pending = s.pending ∧ (s.enterClosing reason).clock = s.clock ∧ (s.enterClosing reason).roundTaken = s.roundTaken ∧ (s.enterClosing reason).freeIndex = s.freeIndex ∧ (s.enterClosing reason).panel = s.panel ∧ (s.enterClosing reason).profile = s.profile ∧ (s.enterClosing reason).load = s.load ∧ (s.enterClosing reason).port = s.port ∧ (s.enterClosing reason).claim = s.claim ∧ (s.enterClosing reason).seq = s.seq ∧ (s.enterClosing reason).rail = s.rail ∧ (s.enterClosing reason).lis = s.lis ∧ (s.enterClosing reason).store = s.store ∧ (s.enterClosing reason).tag = s.tag ∧ (s.enterClosing reason).openMarker = s.openMarker := by
  unfold State.enterClosing
  (repeat' split) <;> simp

@[simp] theorem State.slotHeaderReadEnd_frame (h : SlotHeaders) (s : State) :
    (s.slotHeaderReadEnd h).pending = s.pending ∧ (s.slotHeaderReadEnd h).clock = s.clock ∧ (s.slotHeaderReadEnd h).roundTaken = s.roundTaken ∧ (s.slotHeaderReadEnd h).freeIndex = s.freeIndex ∧ (s.slotHeaderReadEnd h).panel = s.panel ∧ (s.slotHeaderReadEnd h).profile = s.profile ∧ (s.slotHeaderReadEnd h).load = s.load ∧ (s.slotHeaderReadEnd h).port = s.port ∧ (s.slotHeaderReadEnd h).claim = s.claim ∧ (s.slotHeaderReadEnd h).seq = s.seq ∧ (s.slotHeaderReadEnd h).rail = s.rail ∧ (s.slotHeaderReadEnd h).lis = s.lis ∧ (s.slotHeaderReadEnd h).table = s.table ∧ (s.slotHeaderReadEnd h).judge = s.judge ∧ (s.slotHeaderReadEnd h).store = s.store := by
  unfold State.slotHeaderReadEnd
  (repeat' split) <;> simp

@[simp] theorem State.tagWriteEnd_frame (s : State) :
    (s.tagWriteEnd).pending = s.pending ∧ (s.tagWriteEnd).clock = s.clock ∧ (s.tagWriteEnd).roundTaken = s.roundTaken ∧ (s.tagWriteEnd).freeIndex = s.freeIndex ∧ (s.tagWriteEnd).panel = s.panel ∧ (s.tagWriteEnd).run = s.run ∧ (s.tagWriteEnd).profile = s.profile ∧ (s.tagWriteEnd).load = s.load ∧ (s.tagWriteEnd).port = s.port ∧ (s.tagWriteEnd).claim = s.claim ∧ (s.tagWriteEnd).seq = s.seq ∧ (s.tagWriteEnd).rail = s.rail ∧ (s.tagWriteEnd).lis = s.lis ∧ (s.tagWriteEnd).table = s.table ∧ (s.tagWriteEnd).judge = s.judge ∧ (s.tagWriteEnd).store = s.store := by
  unfold State.tagWriteEnd
  (repeat' split) <;> simp

@[simp] theorem State.pollAcknowledge_frame (s : State) :
    (s.pollAcknowledge).pending = s.pending ∧ (s.pollAcknowledge).clock = s.clock ∧ (s.pollAcknowledge).roundTaken = s.roundTaken ∧ (s.pollAcknowledge).freeIndex = s.freeIndex ∧ (s.pollAcknowledge).panel = s.panel ∧ (s.pollAcknowledge).profile = s.profile ∧ (s.pollAcknowledge).load = s.load ∧ (s.pollAcknowledge).claim = s.claim ∧ (s.pollAcknowledge).seq = s.seq ∧ (s.pollAcknowledge).rail = s.rail ∧ (s.pollAcknowledge).lis = s.lis ∧ (s.pollAcknowledge).table = s.table ∧ (s.pollAcknowledge).judge = s.judge ∧ (s.pollAcknowledge).store = s.store := by
  unfold State.pollAcknowledge
  (repeat' split) <;> simp

@[simp] theorem State.pollTimeout_frame (s : State) :
    (s.pollTimeout).pending = s.pending ∧ (s.pollTimeout).clock = s.clock ∧ (s.pollTimeout).roundTaken = s.roundTaken ∧ (s.pollTimeout).freeIndex = s.freeIndex ∧ (s.pollTimeout).panel = s.panel ∧ (s.pollTimeout).profile = s.profile ∧ (s.pollTimeout).load = s.load ∧ (s.pollTimeout).claim = s.claim ∧ (s.pollTimeout).seq = s.seq ∧ (s.pollTimeout).rail = s.rail ∧ (s.pollTimeout).lis = s.lis ∧ (s.pollTimeout).table = s.table ∧ (s.pollTimeout).judge = s.judge ∧ (s.pollTimeout).store = s.store ∧ (s.pollTimeout).tag = s.tag ∧ (s.pollTimeout).openMarker = s.openMarker := by
  unfold State.pollTimeout
  (repeat' split) <;> simp

@[simp] theorem State.tagNoAcknowledge_frame (atStart : Bool) (s : State) :
    (s.tagNoAcknowledge atStart).pending = s.pending ∧ (s.tagNoAcknowledge atStart).clock = s.clock ∧ (s.tagNoAcknowledge atStart).roundTaken = s.roundTaken ∧ (s.tagNoAcknowledge atStart).freeIndex = s.freeIndex ∧ (s.tagNoAcknowledge atStart).panel = s.panel ∧ (s.tagNoAcknowledge atStart).profile = s.profile ∧ (s.tagNoAcknowledge atStart).load = s.load ∧ (s.tagNoAcknowledge atStart).claim = s.claim ∧ (s.tagNoAcknowledge atStart).seq = s.seq ∧ (s.tagNoAcknowledge atStart).rail = s.rail ∧ (s.tagNoAcknowledge atStart).lis = s.lis ∧ (s.tagNoAcknowledge atStart).table = s.table ∧ (s.tagNoAcknowledge atStart).judge = s.judge ∧ (s.tagNoAcknowledge atStart).store = s.store := by
  unfold State.tagNoAcknowledge
  (repeat' split) <;> simp

@[simp] theorem State.closingRemoval_frame (s : State) :
    (s.closingRemoval).pending = s.pending ∧ (s.closingRemoval).clock = s.clock ∧ (s.closingRemoval).roundTaken = s.roundTaken ∧ (s.closingRemoval).freeIndex = s.freeIndex ∧ (s.closingRemoval).panel = s.panel ∧ (s.closingRemoval).profile = s.profile ∧ (s.closingRemoval).load = s.load ∧ (s.closingRemoval).claim = s.claim ∧ (s.closingRemoval).seq = s.seq ∧ (s.closingRemoval).rail = s.rail ∧ (s.closingRemoval).lis = s.lis ∧ (s.closingRemoval).store = s.store := by
  unfold State.closingRemoval
  (repeat' split) <;> simp

@[simp] theorem State.closingAbandoned_frame (s : State) :
    (s.closingAbandoned).pending = s.pending ∧ (s.closingAbandoned).clock = s.clock ∧ (s.closingAbandoned).roundTaken = s.roundTaken ∧ (s.closingAbandoned).freeIndex = s.freeIndex ∧ (s.closingAbandoned).panel = s.panel ∧ (s.closingAbandoned).run = s.run ∧ (s.closingAbandoned).profile = s.profile ∧ (s.closingAbandoned).load = s.load ∧ (s.closingAbandoned).port = s.port ∧ (s.closingAbandoned).claim = s.claim ∧ (s.closingAbandoned).seq = s.seq ∧ (s.closingAbandoned).rail = s.rail ∧ (s.closingAbandoned).lis = s.lis ∧ (s.closingAbandoned).table = s.table ∧ (s.closingAbandoned).judge = s.judge ∧ (s.closingAbandoned).store = s.store := by
  unfold State.closingAbandoned
  (repeat' split) <;> simp

@[simp] theorem State.enterStress_frame (p : Profile) (s : State) :
    (s.enterStress p).pending = s.pending ∧ (s.enterStress p).clock = s.clock ∧ (s.enterStress p).roundTaken = s.roundTaken ∧ (s.enterStress p).freeIndex = s.freeIndex ∧ (s.enterStress p).panel = s.panel ∧ (s.enterStress p).run = s.run ∧ (s.enterStress p).profile = s.profile ∧ (s.enterStress p).load = s.load ∧ (s.enterStress p).port = s.port ∧ (s.enterStress p).claim = s.claim ∧ (s.enterStress p).table = s.table ∧ (s.enterStress p).judge = s.judge ∧ (s.enterStress p).store = s.store ∧ (s.enterStress p).closing = s.closing ∧ (s.enterStress p).tag = s.tag ∧ (s.enterStress p).openMarker = s.openMarker := by
  unfold State.enterStress
  (repeat' split) <;> simp

@[simp] theorem State.enterBoot_frame (p : Profile) (s : State) :
    (s.enterBoot p).pending = s.pending ∧ (s.enterBoot p).clock = s.clock ∧ (s.enterBoot p).roundTaken = s.roundTaken ∧ (s.enterBoot p).freeIndex = s.freeIndex ∧ (s.enterBoot p).panel = s.panel ∧ (s.enterBoot p).run = s.run ∧ (s.enterBoot p).profile = s.profile ∧ (s.enterBoot p).load = s.load ∧ (s.enterBoot p).port = s.port ∧ (s.enterBoot p).claim = s.claim ∧ (s.enterBoot p).table = s.table ∧ (s.enterBoot p).judge = s.judge ∧ (s.enterBoot p).store = s.store ∧ (s.enterBoot p).closing = s.closing ∧ (s.enterBoot p).tag = s.tag ∧ (s.enterBoot p).openMarker = s.openMarker := by
  unfold State.enterBoot
  (repeat' split) <;> simp

@[simp] theorem State.enterDrain_frame (p : Profile) (s : State) :
    (s.enterDrain p).pending = s.pending ∧ (s.enterDrain p).clock = s.clock ∧ (s.enterDrain p).roundTaken = s.roundTaken ∧ (s.enterDrain p).freeIndex = s.freeIndex ∧ (s.enterDrain p).panel = s.panel ∧ (s.enterDrain p).run = s.run ∧ (s.enterDrain p).profile = s.profile ∧ (s.enterDrain p).load = s.load ∧ (s.enterDrain p).port = s.port ∧ (s.enterDrain p).claim = s.claim ∧ (s.enterDrain p).table = s.table ∧ (s.enterDrain p).judge = s.judge ∧ (s.enterDrain p).store = s.store ∧ (s.enterDrain p).closing = s.closing ∧ (s.enterDrain p).tag = s.tag ∧ (s.enterDrain p).openMarker = s.openMarker := by
  unfold State.enterDrain
  simp

@[simp] theorem State.enterOff_frame (s : State) :
    (s.enterOff).pending = s.pending ∧ (s.enterOff).clock = s.clock ∧ (s.enterOff).roundTaken = s.roundTaken ∧ (s.enterOff).freeIndex = s.freeIndex ∧ (s.enterOff).panel = s.panel ∧ (s.enterOff).run = s.run ∧ (s.enterOff).profile = s.profile ∧ (s.enterOff).load = s.load ∧ (s.enterOff).port = s.port ∧ (s.enterOff).claim = s.claim ∧ (s.enterOff).table = s.table ∧ (s.enterOff).judge = s.judge ∧ (s.enterOff).store = s.store ∧ (s.enterOff).closing = s.closing ∧ (s.enterOff).tag = s.tag ∧ (s.enterOff).openMarker = s.openMarker := by
  unfold State.enterOff
  simp

@[simp] theorem State.endRun_frame (reason : EndReason) (s : State) :
    (s.endRun reason).pending = s.pending ∧ (s.endRun reason).clock = s.clock ∧ (s.endRun reason).roundTaken = s.roundTaken ∧ (s.endRun reason).freeIndex = s.freeIndex ∧ (s.endRun reason).panel = s.panel ∧ (s.endRun reason).profile = s.profile ∧ (s.endRun reason).load = s.load ∧ (s.endRun reason).port = s.port ∧ (s.endRun reason).claim = s.claim ∧ (s.endRun reason).store = s.store ∧ (s.endRun reason).tag = s.tag ∧ (s.endRun reason).openMarker = s.openMarker := by
  unfold State.endRun
  simp

@[simp] theorem State.enterRest_frame (p : Profile) (s : State) :
    (s.enterRest p).pending = s.pending ∧ (s.enterRest p).clock = s.clock ∧ (s.enterRest p).roundTaken = s.roundTaken ∧ (s.enterRest p).freeIndex = s.freeIndex ∧ (s.enterRest p).panel = s.panel ∧ (s.enterRest p).run = s.run ∧ (s.enterRest p).profile = s.profile ∧ (s.enterRest p).load = s.load ∧ (s.enterRest p).port = s.port ∧ (s.enterRest p).claim = s.claim ∧ (s.enterRest p).table = s.table ∧ (s.enterRest p).judge = s.judge ∧ (s.enterRest p).store = s.store ∧ (s.enterRest p).closing = s.closing ∧ (s.enterRest p).tag = s.tag ∧ (s.enterRest p).openMarker = s.openMarker := by
  unfold State.enterRest
  simp

@[simp] theorem State.enterWaiting_frame (p : Profile) (s : State) :
    (s.enterWaiting p).pending = s.pending ∧ (s.enterWaiting p).clock = s.clock ∧ (s.enterWaiting p).roundTaken = s.roundTaken ∧ (s.enterWaiting p).freeIndex = s.freeIndex ∧ (s.enterWaiting p).panel = s.panel ∧ (s.enterWaiting p).run = s.run ∧ (s.enterWaiting p).profile = s.profile ∧ (s.enterWaiting p).load = s.load ∧ (s.enterWaiting p).table = s.table ∧ (s.enterWaiting p).judge = s.judge ∧ (s.enterWaiting p).store = s.store ∧ (s.enterWaiting p).closing = s.closing ∧ (s.enterWaiting p).tag = s.tag ∧ (s.enterWaiting p).openMarker = s.openMarker := by
  unfold State.enterWaiting
  simp

@[simp] theorem State.railsSettled_frame (p : Profile) (s : State) :
    (s.railsSettled p).pending = s.pending ∧ (s.railsSettled p).clock = s.clock ∧ (s.railsSettled p).roundTaken = s.roundTaken ∧ (s.railsSettled p).freeIndex = s.freeIndex ∧ (s.railsSettled p).panel = s.panel ∧ (s.railsSettled p).run = s.run ∧ (s.railsSettled p).profile = s.profile ∧ (s.railsSettled p).load = s.load ∧ (s.railsSettled p).table = s.table ∧ (s.railsSettled p).judge = s.judge ∧ (s.railsSettled p).store = s.store ∧ (s.railsSettled p).closing = s.closing ∧ (s.railsSettled p).tag = s.tag ∧ (s.railsSettled p).openMarker = s.openMarker := by
  unfold State.railsSettled
  (repeat' split) <;> simp

@[simp] theorem State.rampDeadlineOut_frame (s : State) :
    (s.rampDeadlineOut).pending = s.pending ∧ (s.rampDeadlineOut).clock = s.clock ∧ (s.rampDeadlineOut).roundTaken = s.roundTaken ∧ (s.rampDeadlineOut).panel = s.panel ∧ (s.rampDeadlineOut).profile = s.profile ∧ (s.rampDeadlineOut).load = s.load ∧ (s.rampDeadlineOut).closing = s.closing ∧ (s.rampDeadlineOut).tag = s.tag ∧ (s.rampDeadlineOut).openMarker = s.openMarker := by
  unfold State.rampDeadlineOut
  (repeat' split) <;> simp

@[simp] theorem State.onTimeOut_frame (s : State) :
    (s.onTimeOut).pending = s.pending ∧ (s.onTimeOut).clock = s.clock ∧ (s.onTimeOut).roundTaken = s.roundTaken ∧ (s.onTimeOut).freeIndex = s.freeIndex ∧ (s.onTimeOut).panel = s.panel ∧ (s.onTimeOut).run = s.run ∧ (s.onTimeOut).profile = s.profile ∧ (s.onTimeOut).load = s.load ∧ (s.onTimeOut).port = s.port ∧ (s.onTimeOut).claim = s.claim ∧ (s.onTimeOut).table = s.table ∧ (s.onTimeOut).judge = s.judge ∧ (s.onTimeOut).store = s.store ∧ (s.onTimeOut).closing = s.closing ∧ (s.onTimeOut).tag = s.tag ∧ (s.onTimeOut).openMarker = s.openMarker := by
  unfold State.onTimeOut
  (repeat' split) <;> simp

@[simp] theorem State.openSwitch_frame (s : State) :
    (s.openSwitch).pending = s.pending ∧ (s.openSwitch).clock = s.clock ∧ (s.openSwitch).roundTaken = s.roundTaken ∧ (s.openSwitch).freeIndex = s.freeIndex ∧ (s.openSwitch).panel = s.panel ∧ (s.openSwitch).run = s.run ∧ (s.openSwitch).profile = s.profile ∧ (s.openSwitch).load = s.load ∧ (s.openSwitch).port = s.port ∧ (s.openSwitch).claim = s.claim ∧ (s.openSwitch).rail = s.rail ∧ (s.openSwitch).lis = s.lis ∧ (s.openSwitch).table = s.table ∧ (s.openSwitch).judge = s.judge ∧ (s.openSwitch).store = s.store ∧ (s.openSwitch).closing = s.closing ∧ (s.openSwitch).tag = s.tag ∧ (s.openSwitch).openMarker = s.openMarker := by
  unfold State.openSwitch
  simp

@[simp] theorem State.takeTrip_frame (p : Profile) (s : State) :
    (s.takeTrip p).pending = s.pending ∧ (s.takeTrip p).clock = s.clock ∧ (s.takeTrip p).roundTaken = s.roundTaken ∧ (s.takeTrip p).panel = s.panel ∧ (s.takeTrip p).profile = s.profile ∧ (s.takeTrip p).load = s.load ∧ (s.takeTrip p).closing = s.closing ∧ (s.takeTrip p).tag = s.tag ∧ (s.takeTrip p).openMarker = s.openMarker := by
  unfold State.takeTrip
  (repeat' split) <;> simp

@[simp] theorem State.endDrain_frame (p : Profile) (s : State) :
    (s.endDrain p).pending = s.pending ∧ (s.endDrain p).clock = s.clock ∧ (s.endDrain p).roundTaken = s.roundTaken ∧ (s.endDrain p).freeIndex = s.freeIndex ∧ (s.endDrain p).panel = s.panel ∧ (s.endDrain p).profile = s.profile ∧ (s.endDrain p).load = s.load ∧ (s.endDrain p).port = s.port ∧ (s.endDrain p).claim = s.claim ∧ (s.endDrain p).store = s.store ∧ (s.endDrain p).tag = s.tag ∧ (s.endDrain p).openMarker = s.openMarker := by
  unfold State.endDrain
  dsimp only
  (repeat' split) <;> simp

@[simp] theorem State.drainComplete_frame (p : Profile) (s : State) :
    (s.drainComplete p).pending = s.pending ∧ (s.drainComplete p).clock = s.clock ∧ (s.drainComplete p).roundTaken = s.roundTaken ∧ (s.drainComplete p).freeIndex = s.freeIndex ∧ (s.drainComplete p).panel = s.panel ∧ (s.drainComplete p).profile = s.profile ∧ (s.drainComplete p).load = s.load ∧ (s.drainComplete p).port = s.port ∧ (s.drainComplete p).claim = s.claim ∧ (s.drainComplete p).store = s.store ∧ (s.drainComplete p).tag = s.tag ∧ (s.drainComplete p).openMarker = s.openMarker := by
  unfold State.drainComplete
  (repeat' split) <;> simp

@[simp] theorem State.drainDeadlineOut_frame (s : State) :
    (s.drainDeadlineOut).pending = s.pending ∧ (s.drainDeadlineOut).clock = s.clock ∧ (s.drainDeadlineOut).roundTaken = s.roundTaken ∧ (s.drainDeadlineOut).panel = s.panel ∧ (s.drainDeadlineOut).profile = s.profile ∧ (s.drainDeadlineOut).load = s.load ∧ (s.drainDeadlineOut).claim = s.claim ∧ (s.drainDeadlineOut).tag = s.tag ∧ (s.drainDeadlineOut).openMarker = s.openMarker := by
  unfold State.drainDeadlineOut
  (repeat' split) <;> simp

@[simp] theorem State.offTimeOut_frame (s : State) :
    (s.offTimeOut).pending = s.pending ∧ (s.offTimeOut).clock = s.clock ∧ (s.offTimeOut).roundTaken = s.roundTaken ∧ (s.offTimeOut).freeIndex = s.freeIndex ∧ (s.offTimeOut).panel = s.panel ∧ (s.offTimeOut).run = s.run ∧ (s.offTimeOut).profile = s.profile ∧ (s.offTimeOut).load = s.load ∧ (s.offTimeOut).table = s.table ∧ (s.offTimeOut).judge = s.judge ∧ (s.offTimeOut).store = s.store ∧ (s.offTimeOut).closing = s.closing ∧ (s.offTimeOut).tag = s.tag ∧ (s.offTimeOut).openMarker = s.openMarker := by
  unfold State.offTimeOut
  (repeat' split) <;> simp

@[simp] theorem State.requestEnd_frame (e : EndRequest) (s : State) :
    (s.requestEnd e).pending = s.pending ∧ (s.requestEnd e).clock = s.clock ∧ (s.requestEnd e).roundTaken = s.roundTaken ∧ (s.requestEnd e).freeIndex = s.freeIndex ∧ (s.requestEnd e).panel = s.panel ∧ (s.requestEnd e).run = s.run ∧ (s.requestEnd e).profile = s.profile ∧ (s.requestEnd e).load = s.load ∧ (s.requestEnd e).port = s.port ∧ (s.requestEnd e).claim = s.claim ∧ (s.requestEnd e).rail = s.rail ∧ (s.requestEnd e).lis = s.lis ∧ (s.requestEnd e).table = s.table ∧ (s.requestEnd e).judge = s.judge ∧ (s.requestEnd e).store = s.store ∧ (s.requestEnd e).closing = s.closing ∧ (s.requestEnd e).tag = s.tag ∧ (s.requestEnd e).openMarker = s.openMarker := by
  unfold State.requestEnd
  (repeat' split) <;> simp

@[simp] theorem State.takeStop_frame (p : Profile) (s : State) :
    (s.takeStop p).pending = s.pending ∧ (s.takeStop p).clock = s.clock ∧ (s.takeStop p).roundTaken = s.roundTaken ∧ (s.takeStop p).freeIndex = s.freeIndex ∧ (s.takeStop p).panel = s.panel ∧ (s.takeStop p).profile = s.profile ∧ (s.takeStop p).load = s.load ∧ (s.takeStop p).store = s.store ∧ (s.takeStop p).tag = s.tag ∧ (s.takeStop p).openMarker = s.openMarker := by
  unfold State.takeStop
  (repeat' split) <;> simp

@[simp] theorem State.takeAbort_frame (p : Profile) (s : State) :
    (s.takeAbort p).pending = s.pending ∧ (s.takeAbort p).clock = s.clock ∧ (s.takeAbort p).roundTaken = s.roundTaken ∧ (s.takeAbort p).freeIndex = s.freeIndex ∧ (s.takeAbort p).panel = s.panel ∧ (s.takeAbort p).profile = s.profile ∧ (s.takeAbort p).load = s.load ∧ (s.takeAbort p).store = s.store ∧ (s.takeAbort p).tag = s.tag ∧ (s.takeAbort p).openMarker = s.openMarker := by
  unfold State.takeAbort
  (repeat' split) <;> simp

@[simp] theorem State.cutPower_frame (s : State) :
    (s.cutPower).pending = s.pending ∧ (s.cutPower).clock = s.clock ∧ (s.cutPower).roundTaken = s.roundTaken ∧ (s.cutPower).freeIndex = s.freeIndex ∧ (s.cutPower).panel = s.panel ∧ (s.cutPower).run = s.run ∧ (s.cutPower).profile = s.profile ∧ (s.cutPower).load = s.load ∧ (s.cutPower).table = s.table ∧ (s.cutPower).judge = s.judge ∧ (s.cutPower).store = s.store ∧ (s.cutPower).closing = s.closing ∧ (s.cutPower).tag = s.tag ∧ (s.cutPower).openMarker = s.openMarker := by
  unfold State.cutPower
  (repeat' split) <;> simp

@[simp] theorem State.occurrenceClose_frame (s : State) :
    (s.occurrenceClose).pending = s.pending ∧ (s.occurrenceClose).clock = s.clock ∧ (s.occurrenceClose).roundTaken = s.roundTaken ∧ (s.occurrenceClose).freeIndex = s.freeIndex ∧ (s.occurrenceClose).panel = s.panel ∧ (s.occurrenceClose).profile = s.profile ∧ (s.occurrenceClose).load = s.load ∧ (s.occurrenceClose).store = s.store ∧ (s.occurrenceClose).tag = s.tag ∧ (s.occurrenceClose).openMarker = s.openMarker := by
  unfold State.occurrenceClose
  dsimp only
  (repeat' split) <;> simp

@[simp] theorem State.setWatch_frame (i : Nat) (w : ChannelWatch) (s : State) :
    (s.setWatch i w).pending = s.pending ∧ (s.setWatch i w).clock = s.clock ∧ (s.setWatch i w).roundTaken = s.roundTaken ∧ (s.setWatch i w).freeIndex = s.freeIndex ∧ (s.setWatch i w).panel = s.panel ∧ (s.setWatch i w).run = s.run ∧ (s.setWatch i w).profile = s.profile ∧ (s.setWatch i w).load = s.load ∧ (s.setWatch i w).port = s.port ∧ (s.setWatch i w).claim = s.claim ∧ (s.setWatch i w).seq = s.seq ∧ (s.setWatch i w).lis = s.lis ∧ (s.setWatch i w).table = s.table ∧ (s.setWatch i w).judge = s.judge ∧ (s.setWatch i w).store = s.store ∧ (s.setWatch i w).closing = s.closing ∧ (s.setWatch i w).tag = s.tag ∧ (s.setWatch i w).openMarker = s.openMarker := by
  unfold State.setWatch
  simp

@[simp] theorem State.windowStep_frame (p : Profile) (i : Nat) (s : State) :
    (s.windowStep p i).pending = s.pending ∧ (s.windowStep p i).clock = s.clock ∧ (s.windowStep p i).roundTaken = s.roundTaken ∧ (s.windowStep p i).panel = s.panel ∧ (s.windowStep p i).profile = s.profile ∧ (s.windowStep p i).load = s.load ∧ (s.windowStep p i).claim = s.claim ∧ (s.windowStep p i).seq = s.seq ∧ (s.windowStep p i).lis = s.lis ∧ (s.windowStep p i).closing = s.closing ∧ (s.windowStep p i).tag = s.tag ∧ (s.windowStep p i).openMarker = s.openMarker := by
  unfold State.windowStep
  dsimp only
  (repeat' split) <;> simp

@[simp] theorem State.windowCheck_frame (p : Profile) (s : State) :
    (s.windowCheck p).pending = s.pending ∧ (s.windowCheck p).clock = s.clock ∧ (s.windowCheck p).roundTaken = s.roundTaken ∧ (s.windowCheck p).panel = s.panel ∧ (s.windowCheck p).profile = s.profile ∧ (s.windowCheck p).load = s.load ∧ (s.windowCheck p).claim = s.claim ∧ (s.windowCheck p).seq = s.seq ∧ (s.windowCheck p).lis = s.lis ∧ (s.windowCheck p).closing = s.closing ∧ (s.windowCheck p).tag = s.tag ∧ (s.windowCheck p).openMarker = s.openMarker := by
  unfold State.windowCheck
  simp

@[simp] theorem State.rampFlags_frame (p : Profile) (s : State) :
    (s.rampFlags p).pending = s.pending ∧ (s.rampFlags p).clock = s.clock ∧ (s.rampFlags p).roundTaken = s.roundTaken ∧ (s.rampFlags p).freeIndex = s.freeIndex ∧ (s.rampFlags p).panel = s.panel ∧ (s.rampFlags p).run = s.run ∧ (s.rampFlags p).profile = s.profile ∧ (s.rampFlags p).load = s.load ∧ (s.rampFlags p).port = s.port ∧ (s.rampFlags p).claim = s.claim ∧ (s.rampFlags p).seq = s.seq ∧ (s.rampFlags p).lis = s.lis ∧ (s.rampFlags p).table = s.table ∧ (s.rampFlags p).judge = s.judge ∧ (s.rampFlags p).store = s.store ∧ (s.rampFlags p).closing = s.closing ∧ (s.rampFlags p).tag = s.tag ∧ (s.rampFlags p).openMarker = s.openMarker := by
  unfold State.rampFlags
  simp

@[simp] theorem State.drainFlags_frame (p : Profile) (s : State) :
    (s.drainFlags p).pending = s.pending ∧ (s.drainFlags p).clock = s.clock ∧ (s.drainFlags p).roundTaken = s.roundTaken ∧ (s.drainFlags p).freeIndex = s.freeIndex ∧ (s.drainFlags p).panel = s.panel ∧ (s.drainFlags p).run = s.run ∧ (s.drainFlags p).profile = s.profile ∧ (s.drainFlags p).load = s.load ∧ (s.drainFlags p).port = s.port ∧ (s.drainFlags p).claim = s.claim ∧ (s.drainFlags p).seq = s.seq ∧ (s.drainFlags p).lis = s.lis ∧ (s.drainFlags p).table = s.table ∧ (s.drainFlags p).judge = s.judge ∧ (s.drainFlags p).store = s.store ∧ (s.drainFlags p).closing = s.closing ∧ (s.drainFlags p).tag = s.tag ∧ (s.drainFlags p).openMarker = s.openMarker := by
  unfold State.drainFlags
  simp

@[simp] theorem State.restStep_frame (p : Profile) (i : Nat) (s : State) :
    (s.restStep p i).pending = s.pending ∧ (s.restStep p i).clock = s.clock ∧ (s.restStep p i).roundTaken = s.roundTaken ∧ (s.restStep p i).panel = s.panel ∧ (s.restStep p i).profile = s.profile ∧ (s.restStep p i).load = s.load ∧ (s.restStep p i).claim = s.claim ∧ (s.restStep p i).seq = s.seq ∧ (s.restStep p i).lis = s.lis ∧ (s.restStep p i).closing = s.closing ∧ (s.restStep p i).tag = s.tag ∧ (s.restStep p i).openMarker = s.openMarker := by
  unfold State.restStep
  dsimp only
  (repeat' split) <;> simp

@[simp] theorem State.restCheck_frame (p : Profile) (s : State) :
    (s.restCheck p).pending = s.pending ∧ (s.restCheck p).clock = s.clock ∧ (s.restCheck p).roundTaken = s.roundTaken ∧ (s.restCheck p).panel = s.panel ∧ (s.restCheck p).profile = s.profile ∧ (s.restCheck p).load = s.load ∧ (s.restCheck p).claim = s.claim ∧ (s.restCheck p).seq = s.seq ∧ (s.restCheck p).lis = s.lis ∧ (s.restCheck p).closing = s.closing ∧ (s.restCheck p).tag = s.tag ∧ (s.restCheck p).openMarker = s.openMarker := by
  unfold State.restCheck
  simp [List.range, List.range.loop]

@[simp] theorem State.tripCounted_frame (p : Profile) (s : State) :
    (s.tripCounted p).pending = s.pending ∧ (s.tripCounted p).clock = s.clock ∧ (s.tripCounted p).roundTaken = s.roundTaken ∧ (s.tripCounted p).freeIndex = s.freeIndex ∧ (s.tripCounted p).panel = s.panel ∧ (s.tripCounted p).run = s.run ∧ (s.tripCounted p).profile = s.profile ∧ (s.tripCounted p).load = s.load ∧ (s.tripCounted p).port = s.port ∧ (s.tripCounted p).claim = s.claim ∧ (s.tripCounted p).seq = s.seq ∧ (s.tripCounted p).lis = s.lis ∧ (s.tripCounted p).table = s.table ∧ (s.tripCounted p).judge = s.judge ∧ (s.tripCounted p).store = s.store ∧ (s.tripCounted p).closing = s.closing ∧ (s.tripCounted p).tag = s.tag ∧ (s.tripCounted p).openMarker = s.openMarker := by
  unfold State.tripCounted
  (repeat' split) <;> simp

@[simp] theorem State.sagConfirmed_frame (p : Profile) (s : State) :
    (s.sagConfirmed p).pending = s.pending ∧ (s.sagConfirmed p).clock = s.clock ∧ (s.sagConfirmed p).roundTaken = s.roundTaken ∧ (s.sagConfirmed p).freeIndex = s.freeIndex ∧ (s.sagConfirmed p).panel = s.panel ∧ (s.sagConfirmed p).profile = s.profile ∧ (s.sagConfirmed p).load = s.load ∧ (s.sagConfirmed p).seq = s.seq ∧ (s.sagConfirmed p).lis = s.lis ∧ (s.sagConfirmed p).table = s.table ∧ (s.sagConfirmed p).store = s.store ∧ (s.sagConfirmed p).closing = s.closing ∧ (s.sagConfirmed p).tag = s.tag ∧ (s.sagConfirmed p).openMarker = s.openMarker := by
  unfold State.sagConfirmed
  simp

@[simp] theorem State.sagCheck_frame (p : Profile) (s : State) :
    (s.sagCheck p).pending = s.pending ∧ (s.sagCheck p).clock = s.clock ∧ (s.sagCheck p).roundTaken = s.roundTaken ∧ (s.sagCheck p).freeIndex = s.freeIndex ∧ (s.sagCheck p).panel = s.panel ∧ (s.sagCheck p).profile = s.profile ∧ (s.sagCheck p).load = s.load ∧ (s.sagCheck p).seq = s.seq ∧ (s.sagCheck p).lis = s.lis ∧ (s.sagCheck p).table = s.table ∧ (s.sagCheck p).store = s.store ∧ (s.sagCheck p).closing = s.closing ∧ (s.sagCheck p).tag = s.tag ∧ (s.sagCheck p).openMarker = s.openMarker := by
  unfold State.sagCheck
  (repeat' split) <;> simp

@[simp] theorem State.poweredChecks_frame (p : Profile) (tripFirst : Bool) (s : State) :
    (s.poweredChecks p tripFirst).pending = s.pending ∧ (s.poweredChecks p tripFirst).clock = s.clock ∧ (s.poweredChecks p tripFirst).roundTaken = s.roundTaken ∧ (s.poweredChecks p tripFirst).panel = s.panel ∧ (s.poweredChecks p tripFirst).profile = s.profile ∧ (s.poweredChecks p tripFirst).load = s.load ∧ (s.poweredChecks p tripFirst).closing = s.closing ∧ (s.poweredChecks p tripFirst).tag = s.tag ∧ (s.poweredChecks p tripFirst).openMarker = s.openMarker := by
  unfold State.poweredChecks
  dsimp only
  (repeat' split) <;> simp

@[simp] theorem State.phaseChecks_frame (p : Profile) (tripFirst : Bool) (s : State) :
    (s.phaseChecks p tripFirst).pending = s.pending ∧ (s.phaseChecks p tripFirst).clock = s.clock ∧ (s.phaseChecks p tripFirst).roundTaken = s.roundTaken ∧ (s.phaseChecks p tripFirst).panel = s.panel ∧ (s.phaseChecks p tripFirst).profile = s.profile ∧ (s.phaseChecks p tripFirst).load = s.load ∧ (s.phaseChecks p tripFirst).tag = s.tag ∧ (s.phaseChecks p tripFirst).openMarker = s.openMarker := by
  unfold State.phaseChecks
  (repeat' split) <;> simp

@[simp] theorem State.writeHistory_frame (r : Round) (s : State) :
    (s.writeHistory r).pending = s.pending ∧ (s.writeHistory r).clock = s.clock ∧ (s.writeHistory r).roundTaken = s.roundTaken ∧ (s.writeHistory r).panel = s.panel ∧ (s.writeHistory r).run = s.run ∧ (s.writeHistory r).profile = s.profile ∧ (s.writeHistory r).load = s.load ∧ (s.writeHistory r).port = s.port ∧ (s.writeHistory r).claim = s.claim ∧ (s.writeHistory r).seq = s.seq ∧ (s.writeHistory r).lis = s.lis ∧ (s.writeHistory r).table = s.table ∧ (s.writeHistory r).judge = s.judge ∧ (s.writeHistory r).closing = s.closing ∧ (s.writeHistory r).tag = s.tag ∧ (s.writeHistory r).openMarker = s.openMarker := by
  unfold State.writeHistory
  simp

@[simp] theorem State.scaleValues_frame (p : Profile) (r : Round) (s : State) :
    (s.scaleValues p r).pending = s.pending ∧ (s.scaleValues p r).clock = s.clock ∧ (s.scaleValues p r).roundTaken = s.roundTaken ∧ (s.scaleValues p r).freeIndex = s.freeIndex ∧ (s.scaleValues p r).panel = s.panel ∧ (s.scaleValues p r).run = s.run ∧ (s.scaleValues p r).profile = s.profile ∧ (s.scaleValues p r).load = s.load ∧ (s.scaleValues p r).port = s.port ∧ (s.scaleValues p r).claim = s.claim ∧ (s.scaleValues p r).seq = s.seq ∧ (s.scaleValues p r).lis = s.lis ∧ (s.scaleValues p r).table = s.table ∧ (s.scaleValues p r).judge = s.judge ∧ (s.scaleValues p r).store = s.store ∧ (s.scaleValues p r).closing = s.closing ∧ (s.scaleValues p r).tag = s.tag ∧ (s.scaleValues p r).openMarker = s.openMarker := by
  unfold State.scaleValues
  simp

@[simp] theorem State.roundHandled_frame (r : Round) (tripFirst : Bool) (s : State) :
    (s.roundHandled r tripFirst).pending = s.pending ∧ (s.roundHandled r tripFirst).clock = s.clock ∧ (s.roundHandled r tripFirst).roundTaken = s.roundTaken ∧ (s.roundHandled r tripFirst).panel = s.panel ∧ (s.roundHandled r tripFirst).profile = s.profile ∧ (s.roundHandled r tripFirst).load = s.load ∧ (s.roundHandled r tripFirst).tag = s.tag ∧ (s.roundHandled r tripFirst).openMarker = s.openMarker := by
  unfold State.roundHandled
  (repeat' split) <;> simp

@[simp] theorem State.moveStage_frame (p : Profile) (j : Nat) (s : State) :
    (s.moveStage p j).pending = s.pending ∧ (s.moveStage p j).clock = s.clock ∧ (s.moveStage p j).roundTaken = s.roundTaken ∧ (s.moveStage p j).freeIndex = s.freeIndex ∧ (s.moveStage p j).panel = s.panel ∧ (s.moveStage p j).run = s.run ∧ (s.moveStage p j).profile = s.profile ∧ (s.moveStage p j).load = s.load ∧ (s.moveStage p j).port = s.port ∧ (s.moveStage p j).claim = s.claim ∧ (s.moveStage p j).seq = s.seq ∧ (s.moveStage p j).rail = s.rail ∧ (s.moveStage p j).table = s.table ∧ (s.moveStage p j).judge = s.judge ∧ (s.moveStage p j).store = s.store ∧ (s.moveStage p j).closing = s.closing ∧ (s.moveStage p j).tag = s.tag ∧ (s.moveStage p j).openMarker = s.openMarker := by
  unfold State.moveStage
  simp

@[simp] theorem State.finalStage_frame (p : Profile) (j : Nat) (s : State) :
    (s.finalStage p j).pending = s.pending ∧ (s.finalStage p j).clock = s.clock ∧ (s.finalStage p j).roundTaken = s.roundTaken ∧ (s.finalStage p j).freeIndex = s.freeIndex ∧ (s.finalStage p j).panel = s.panel ∧ (s.finalStage p j).run = s.run ∧ (s.finalStage p j).profile = s.profile ∧ (s.finalStage p j).load = s.load ∧ (s.finalStage p j).port = s.port ∧ (s.finalStage p j).claim = s.claim ∧ (s.finalStage p j).table = s.table ∧ (s.finalStage p j).judge = s.judge ∧ (s.finalStage p j).store = s.store ∧ (s.finalStage p j).closing = s.closing ∧ (s.finalStage p j).tag = s.tag ∧ (s.finalStage p j).openMarker = s.openMarker := by
  unfold State.finalStage
  (repeat' split) <;> simp

@[simp] theorem State.fallBack_frame (s : State) :
    (s.fallBack).pending = s.pending ∧ (s.fallBack).clock = s.clock ∧ (s.fallBack).roundTaken = s.roundTaken ∧ (s.fallBack).freeIndex = s.freeIndex ∧ (s.fallBack).panel = s.panel ∧ (s.fallBack).run = s.run ∧ (s.fallBack).profile = s.profile ∧ (s.fallBack).load = s.load ∧ (s.fallBack).port = s.port ∧ (s.fallBack).claim = s.claim ∧ (s.fallBack).table = s.table ∧ (s.fallBack).judge = s.judge ∧ (s.fallBack).store = s.store ∧ (s.fallBack).closing = s.closing ∧ (s.fallBack).tag = s.tag ∧ (s.fallBack).openMarker = s.openMarker := by
  unfold State.fallBack
  (repeat' split) <;> simp

@[simp] theorem State.stageCode_frame (p : Profile) (j : Nat) (s : State) :
    (s.stageCode p j).pending = s.pending ∧ (s.stageCode p j).clock = s.clock ∧ (s.stageCode p j).roundTaken = s.roundTaken ∧ (s.stageCode p j).panel = s.panel ∧ (s.stageCode p j).profile = s.profile ∧ (s.stageCode p j).load = s.load ∧ (s.stageCode p j).claim = s.claim ∧ (s.stageCode p j).closing = s.closing ∧ (s.stageCode p j).tag = s.tag ∧ (s.stageCode p j).openMarker = s.openMarker := by
  unfold State.stageCode
  (repeat' split) <;> simp

@[simp] theorem State.pulseCode_frame (p : Profile) (s : State) :
    (s.pulseCode p).pending = s.pending ∧ (s.pulseCode p).clock = s.clock ∧ (s.pulseCode p).roundTaken = s.roundTaken ∧ (s.pulseCode p).freeIndex = s.freeIndex ∧ (s.pulseCode p).panel = s.panel ∧ (s.pulseCode p).run = s.run ∧ (s.pulseCode p).profile = s.profile ∧ (s.pulseCode p).load = s.load ∧ (s.pulseCode p).port = s.port ∧ (s.pulseCode p).claim = s.claim ∧ (s.pulseCode p).seq = s.seq ∧ (s.pulseCode p).rail = s.rail ∧ (s.pulseCode p).table = s.table ∧ (s.pulseCode p).judge = s.judge ∧ (s.pulseCode p).store = s.store ∧ (s.pulseCode p).closing = s.closing ∧ (s.pulseCode p).tag = s.tag ∧ (s.pulseCode p).openMarker = s.openMarker := by
  unfold State.pulseCode
  (repeat' split) <;> simp

@[simp] theorem State.classify_frame (p : Profile) (code : BitVec 16) (s : State) :
    (s.classify p code).pending = s.pending ∧ (s.classify p code).clock = s.clock ∧ (s.classify p code).roundTaken = s.roundTaken ∧ (s.classify p code).panel = s.panel ∧ (s.classify p code).profile = s.profile ∧ (s.classify p code).load = s.load ∧ (s.classify p code).claim = s.claim ∧ (s.classify p code).closing = s.closing ∧ (s.classify p code).tag = s.tag ∧ (s.classify p code).openMarker = s.openMarker := by
  unfold State.classify
  (repeat' split) <;> simp

@[simp] theorem State.parserIn_frame (x : Parser) (s : State) :
    (s.parserIn x).pending = s.pending ∧ (s.parserIn x).clock = s.clock ∧ (s.parserIn x).roundTaken = s.roundTaken ∧ (s.parserIn x).freeIndex = s.freeIndex ∧ (s.parserIn x).panel = s.panel ∧ (s.parserIn x).run = s.run ∧ (s.parserIn x).profile = s.profile ∧ (s.parserIn x).load = s.load ∧ (s.parserIn x).port = s.port ∧ (s.parserIn x).claim = s.claim ∧ (s.parserIn x).seq = s.seq ∧ (s.parserIn x).rail = s.rail ∧ (s.parserIn x).table = s.table ∧ (s.parserIn x).judge = s.judge ∧ (s.parserIn x).store = s.store ∧ (s.parserIn x).closing = s.closing ∧ (s.parserIn x).tag = s.tag ∧ (s.parserIn x).openMarker = s.openMarker := by
  unfold State.parserIn
  simp

@[simp] theorem State.parserHunts_frame (s : State) :
    (s.parserHunts).pending = s.pending ∧ (s.parserHunts).clock = s.clock ∧ (s.parserHunts).roundTaken = s.roundTaken ∧ (s.parserHunts).freeIndex = s.freeIndex ∧ (s.parserHunts).panel = s.panel ∧ (s.parserHunts).run = s.run ∧ (s.parserHunts).profile = s.profile ∧ (s.parserHunts).load = s.load ∧ (s.parserHunts).port = s.port ∧ (s.parserHunts).claim = s.claim ∧ (s.parserHunts).seq = s.seq ∧ (s.parserHunts).rail = s.rail ∧ (s.parserHunts).table = s.table ∧ (s.parserHunts).judge = s.judge ∧ (s.parserHunts).store = s.store ∧ (s.parserHunts).closing = s.closing ∧ (s.parserHunts).tag = s.tag ∧ (s.parserHunts).openMarker = s.openMarker := by
  unfold State.parserHunts
  simp

@[simp] theorem State.offerIdentity_frame (bytes : List Byte) (s : State) :
    (s.offerIdentity bytes).pending = s.pending ∧ (s.offerIdentity bytes).clock = s.clock ∧ (s.offerIdentity bytes).roundTaken = s.roundTaken ∧ (s.offerIdentity bytes).freeIndex = s.freeIndex ∧ (s.offerIdentity bytes).panel = s.panel ∧ (s.offerIdentity bytes).run = s.run ∧ (s.offerIdentity bytes).profile = s.profile ∧ (s.offerIdentity bytes).load = s.load ∧ (s.offerIdentity bytes).port = s.port ∧ (s.offerIdentity bytes).claim = s.claim ∧ (s.offerIdentity bytes).seq = s.seq ∧ (s.offerIdentity bytes).rail = s.rail ∧ (s.offerIdentity bytes).table = s.table ∧ (s.offerIdentity bytes).judge = s.judge ∧ (s.offerIdentity bytes).store = s.store ∧ (s.offerIdentity bytes).closing = s.closing ∧ (s.offerIdentity bytes).tag = s.tag ∧ (s.offerIdentity bytes).openMarker = s.openMarker := by
  unfold State.offerIdentity
  (repeat' split) <;> simp

@[simp] theorem State.parse_frame (p : Profile) (b : Byte) (s : State) :
    (s.parse p b).pending = s.pending ∧ (s.parse p b).clock = s.clock ∧ (s.parse p b).roundTaken = s.roundTaken ∧ (s.parse p b).panel = s.panel ∧ (s.parse p b).profile = s.profile ∧ (s.parse p b).load = s.load ∧ (s.parse p b).claim = s.claim ∧ (s.parse p b).closing = s.closing ∧ (s.parse p b).tag = s.tag ∧ (s.parse p b).openMarker = s.openMarker := by
  unfold State.parse
  (repeat' split) <;> simp

@[simp] theorem State.byteReceived_frame (b : Byte) (s : State) :
    (s.byteReceived b).pending = s.pending ∧ (s.byteReceived b).clock = s.clock ∧ (s.byteReceived b).roundTaken = s.roundTaken ∧ (s.byteReceived b).panel = s.panel ∧ (s.byteReceived b).profile = s.profile ∧ (s.byteReceived b).load = s.load ∧ (s.byteReceived b).claim = s.claim ∧ (s.byteReceived b).closing = s.closing ∧ (s.byteReceived b).tag = s.tag ∧ (s.byteReceived b).openMarker = s.openMarker := by
  unfold State.byteReceived
  (repeat' split) <;> simp

@[simp] theorem State.framingError_frame (s : State) :
    (s.framingError).pending = s.pending ∧ (s.framingError).clock = s.clock ∧ (s.framingError).roundTaken = s.roundTaken ∧ (s.framingError).panel = s.panel ∧ (s.framingError).profile = s.profile ∧ (s.framingError).load = s.load ∧ (s.framingError).claim = s.claim ∧ (s.framingError).seq = s.seq ∧ (s.framingError).rail = s.rail ∧ (s.framingError).closing = s.closing ∧ (s.framingError).tag = s.tag ∧ (s.framingError).openMarker = s.openMarker := by
  unfold State.framingError
  (repeat' split) <;> simp

@[simp] theorem State.idleFlagSet_frame (s : State) :
    (s.idleFlagSet).pending = s.pending ∧ (s.idleFlagSet).clock = s.clock ∧ (s.idleFlagSet).roundTaken = s.roundTaken ∧ (s.idleFlagSet).freeIndex = s.freeIndex ∧ (s.idleFlagSet).panel = s.panel ∧ (s.idleFlagSet).run = s.run ∧ (s.idleFlagSet).profile = s.profile ∧ (s.idleFlagSet).load = s.load ∧ (s.idleFlagSet).port = s.port ∧ (s.idleFlagSet).claim = s.claim ∧ (s.idleFlagSet).seq = s.seq ∧ (s.idleFlagSet).rail = s.rail ∧ (s.idleFlagSet).table = s.table ∧ (s.idleFlagSet).judge = s.judge ∧ (s.idleFlagSet).store = s.store ∧ (s.idleFlagSet).closing = s.closing ∧ (s.idleFlagSet).tag = s.tag ∧ (s.idleFlagSet).openMarker = s.openMarker := by
  unfold State.idleFlagSet
  (repeat' split) <;> simp

@[simp] theorem State.gapDeadlineOut_frame (s : State) :
    (s.gapDeadlineOut).pending = s.pending ∧ (s.gapDeadlineOut).clock = s.clock ∧ (s.gapDeadlineOut).roundTaken = s.roundTaken ∧ (s.gapDeadlineOut).freeIndex = s.freeIndex ∧ (s.gapDeadlineOut).panel = s.panel ∧ (s.gapDeadlineOut).run = s.run ∧ (s.gapDeadlineOut).profile = s.profile ∧ (s.gapDeadlineOut).load = s.load ∧ (s.gapDeadlineOut).port = s.port ∧ (s.gapDeadlineOut).claim = s.claim ∧ (s.gapDeadlineOut).seq = s.seq ∧ (s.gapDeadlineOut).rail = s.rail ∧ (s.gapDeadlineOut).table = s.table ∧ (s.gapDeadlineOut).judge = s.judge ∧ (s.gapDeadlineOut).store = s.store ∧ (s.gapDeadlineOut).closing = s.closing ∧ (s.gapDeadlineOut).tag = s.tag ∧ (s.gapDeadlineOut).openMarker = s.openMarker := by
  unfold State.gapDeadlineOut
  (repeat' split) <;> simp

@[simp] theorem State.awaitedStageOut_frame (s : State) :
    (s.awaitedStageOut).pending = s.pending ∧ (s.awaitedStageOut).clock = s.clock ∧ (s.awaitedStageOut).roundTaken = s.roundTaken ∧ (s.awaitedStageOut).panel = s.panel ∧ (s.awaitedStageOut).profile = s.profile ∧ (s.awaitedStageOut).load = s.load ∧ (s.awaitedStageOut).claim = s.claim ∧ (s.awaitedStageOut).seq = s.seq ∧ (s.awaitedStageOut).rail = s.rail ∧ (s.awaitedStageOut).closing = s.closing ∧ (s.awaitedStageOut).tag = s.tag ∧ (s.awaitedStageOut).openMarker = s.openMarker := by
  unfold State.awaitedStageOut
  dsimp only
  (repeat' split) <;> simp

@[simp] theorem State.pulseDeadlineOut_frame (s : State) :
    (s.pulseDeadlineOut).pending = s.pending ∧ (s.pulseDeadlineOut).clock = s.clock ∧ (s.pulseDeadlineOut).roundTaken = s.roundTaken ∧ (s.pulseDeadlineOut).panel = s.panel ∧ (s.pulseDeadlineOut).profile = s.profile ∧ (s.pulseDeadlineOut).load = s.load ∧ (s.pulseDeadlineOut).claim = s.claim ∧ (s.pulseDeadlineOut).closing = s.closing ∧ (s.pulseDeadlineOut).tag = s.tag ∧ (s.pulseDeadlineOut).openMarker = s.openMarker := by
  unfold State.pulseDeadlineOut
  (repeat' split) <;> simp

@[simp] theorem State.loadRefused_frame (s : State) :
    (s.loadRefused).pending = s.pending ∧ (s.loadRefused).clock = s.clock ∧ (s.loadRefused).roundTaken = s.roundTaken ∧ (s.loadRefused).freeIndex = s.freeIndex ∧ (s.loadRefused).panel = s.panel ∧ (s.loadRefused).profile = s.profile ∧ (s.loadRefused).claim = s.claim ∧ (s.loadRefused).seq = s.seq ∧ (s.loadRefused).rail = s.rail ∧ (s.loadRefused).lis = s.lis ∧ (s.loadRefused).table = s.table ∧ (s.loadRefused).judge = s.judge ∧ (s.loadRefused).store = s.store ∧ (s.loadRefused).closing = s.closing ∧ (s.loadRefused).tag = s.tag ∧ (s.loadRefused).openMarker = s.openMarker := by
  unfold State.loadRefused
  simp

@[simp] theorem State.profileApplied_frame (p : Profile) (s : State) :
    (s.profileApplied p).pending = s.pending ∧ (s.profileApplied p).clock = s.clock ∧ (s.profileApplied p).roundTaken = s.roundTaken ∧ (s.profileApplied p).freeIndex = s.freeIndex ∧ (s.profileApplied p).panel = s.panel ∧ (s.profileApplied p).port = s.port ∧ (s.profileApplied p).claim = s.claim ∧ (s.profileApplied p).seq = s.seq ∧ (s.profileApplied p).lis = s.lis ∧ (s.profileApplied p).table = s.table ∧ (s.profileApplied p).judge = s.judge ∧ (s.profileApplied p).store = s.store ∧ (s.profileApplied p).closing = s.closing ∧ (s.profileApplied p).tag = s.tag ∧ (s.profileApplied p).openMarker = s.openMarker := by
  unfold State.profileApplied
  simp

@[simp] theorem State.loadAccepted_frame (raw : Profile) (s : State) :
    (s.loadAccepted raw).pending = s.pending ∧ (s.loadAccepted raw).clock = s.clock ∧ (s.loadAccepted raw).roundTaken = s.roundTaken ∧ (s.loadAccepted raw).freeIndex = s.freeIndex ∧ (s.loadAccepted raw).panel = s.panel ∧ (s.loadAccepted raw).claim = s.claim ∧ (s.loadAccepted raw).seq = s.seq ∧ (s.loadAccepted raw).lis = s.lis ∧ (s.loadAccepted raw).table = s.table ∧ (s.loadAccepted raw).judge = s.judge ∧ (s.loadAccepted raw).store = s.store ∧ (s.loadAccepted raw).closing = s.closing ∧ (s.loadAccepted raw).tag = s.tag ∧ (s.loadAccepted raw).openMarker = s.openMarker := by
  unfold State.loadAccepted
  (repeat' split) <;> simp

@[simp] theorem State.profileHeaderReadEnd_frame (hi lo : Byte) (s : State) :
    (s.profileHeaderReadEnd hi lo).pending = s.pending ∧ (s.profileHeaderReadEnd hi lo).clock = s.clock ∧ (s.profileHeaderReadEnd hi lo).roundTaken = s.roundTaken ∧ (s.profileHeaderReadEnd hi lo).freeIndex = s.freeIndex ∧ (s.profileHeaderReadEnd hi lo).panel = s.panel ∧ (s.profileHeaderReadEnd hi lo).profile = s.profile ∧ (s.profileHeaderReadEnd hi lo).claim = s.claim ∧ (s.profileHeaderReadEnd hi lo).seq = s.seq ∧ (s.profileHeaderReadEnd hi lo).rail = s.rail ∧ (s.profileHeaderReadEnd hi lo).lis = s.lis ∧ (s.profileHeaderReadEnd hi lo).table = s.table ∧ (s.profileHeaderReadEnd hi lo).judge = s.judge ∧ (s.profileHeaderReadEnd hi lo).store = s.store ∧ (s.profileHeaderReadEnd hi lo).closing = s.closing ∧ (s.profileHeaderReadEnd hi lo).tag = s.tag ∧ (s.profileHeaderReadEnd hi lo).openMarker = s.openMarker := by
  unfold State.profileHeaderReadEnd
  dsimp only
  (repeat' split) <;> simp

@[simp] theorem State.imageReadEnd_frame (image : List Byte) (s : State) :
    (s.imageReadEnd image).pending = s.pending ∧ (s.imageReadEnd image).clock = s.clock ∧ (s.imageReadEnd image).roundTaken = s.roundTaken ∧ (s.imageReadEnd image).freeIndex = s.freeIndex ∧ (s.imageReadEnd image).panel = s.panel ∧ (s.imageReadEnd image).claim = s.claim ∧ (s.imageReadEnd image).seq = s.seq ∧ (s.imageReadEnd image).lis = s.lis ∧ (s.imageReadEnd image).table = s.table ∧ (s.imageReadEnd image).judge = s.judge ∧ (s.imageReadEnd image).store = s.store ∧ (s.imageReadEnd image).closing = s.closing ∧ (s.imageReadEnd image).tag = s.tag ∧ (s.imageReadEnd image).openMarker = s.openMarker := by
  unfold State.imageReadEnd
  (repeat' split) <;> simp

@[simp] theorem State.promNoAcknowledge_frame (s : State) :
    (s.promNoAcknowledge).pending = s.pending ∧ (s.promNoAcknowledge).clock = s.clock ∧ (s.promNoAcknowledge).roundTaken = s.roundTaken ∧ (s.promNoAcknowledge).freeIndex = s.freeIndex ∧ (s.promNoAcknowledge).panel = s.panel ∧ (s.promNoAcknowledge).profile = s.profile ∧ (s.promNoAcknowledge).claim = s.claim ∧ (s.promNoAcknowledge).seq = s.seq ∧ (s.promNoAcknowledge).rail = s.rail ∧ (s.promNoAcknowledge).lis = s.lis ∧ (s.promNoAcknowledge).table = s.table ∧ (s.promNoAcknowledge).judge = s.judge ∧ (s.promNoAcknowledge).store = s.store ∧ (s.promNoAcknowledge).closing = s.closing ∧ (s.promNoAcknowledge).tag = s.tag ∧ (s.promNoAcknowledge).openMarker = s.openMarker := by
  unfold State.promNoAcknowledge
  (repeat' split) <;> simp

@[simp] theorem State.flipSeat_frame (s : State) :
    (s.flipSeat).pending = s.pending ∧ (s.flipSeat).clock = s.clock ∧ (s.flipSeat).roundTaken = s.roundTaken ∧ (s.flipSeat).freeIndex = s.freeIndex ∧ (s.flipSeat).run = s.run ∧ (s.flipSeat).profile = s.profile ∧ (s.flipSeat).load = s.load ∧ (s.flipSeat).port = s.port ∧ (s.flipSeat).claim = s.claim ∧ (s.flipSeat).seq = s.seq ∧ (s.flipSeat).rail = s.rail ∧ (s.flipSeat).lis = s.lis ∧ (s.flipSeat).table = s.table ∧ (s.flipSeat).judge = s.judge ∧ (s.flipSeat).store = s.store ∧ (s.flipSeat).closing = s.closing ∧ (s.flipSeat).tag = s.tag ∧ (s.flipSeat).openMarker = s.openMarker := by
  unfold State.flipSeat
  simp

@[simp] theorem State.flipButton_frame (s : State) :
    (s.flipButton).pending = s.pending ∧ (s.flipButton).clock = s.clock ∧ (s.flipButton).roundTaken = s.roundTaken ∧ (s.flipButton).freeIndex = s.freeIndex ∧ (s.flipButton).run = s.run ∧ (s.flipButton).profile = s.profile ∧ (s.flipButton).load = s.load ∧ (s.flipButton).port = s.port ∧ (s.flipButton).claim = s.claim ∧ (s.flipButton).seq = s.seq ∧ (s.flipButton).rail = s.rail ∧ (s.flipButton).lis = s.lis ∧ (s.flipButton).table = s.table ∧ (s.flipButton).judge = s.judge ∧ (s.flipButton).store = s.store ∧ (s.flipButton).closing = s.closing ∧ (s.flipButton).tag = s.tag ∧ (s.flipButton).openMarker = s.openMarker := by
  unfold State.flipButton
  simp

@[simp] theorem State.flipFixture_frame (s : State) :
    (s.flipFixture).pending = s.pending ∧ (s.flipFixture).clock = s.clock ∧ (s.flipFixture).roundTaken = s.roundTaken ∧ (s.flipFixture).freeIndex = s.freeIndex ∧ (s.flipFixture).run = s.run ∧ (s.flipFixture).profile = s.profile ∧ (s.flipFixture).load = s.load ∧ (s.flipFixture).port = s.port ∧ (s.flipFixture).claim = s.claim ∧ (s.flipFixture).seq = s.seq ∧ (s.flipFixture).rail = s.rail ∧ (s.flipFixture).lis = s.lis ∧ (s.flipFixture).table = s.table ∧ (s.flipFixture).judge = s.judge ∧ (s.flipFixture).store = s.store ∧ (s.flipFixture).closing = s.closing ∧ (s.flipFixture).tag = s.tag ∧ (s.flipFixture).openMarker = s.openMarker := by
  unfold State.flipFixture
  simp

@[simp] theorem State.startLoad_frame (s : State) :
    (s.startLoad).pending = s.pending ∧ (s.startLoad).clock = s.clock ∧ (s.startLoad).roundTaken = s.roundTaken ∧ (s.startLoad).freeIndex = s.freeIndex ∧ (s.startLoad).panel = s.panel ∧ (s.startLoad).run = s.run ∧ (s.startLoad).profile = s.profile ∧ (s.startLoad).port = s.port ∧ (s.startLoad).claim = s.claim ∧ (s.startLoad).seq = s.seq ∧ (s.startLoad).rail = s.rail ∧ (s.startLoad).lis = s.lis ∧ (s.startLoad).table = s.table ∧ (s.startLoad).judge = s.judge ∧ (s.startLoad).store = s.store ∧ (s.startLoad).closing = s.closing ∧ (s.startLoad).tag = s.tag ∧ (s.startLoad).openMarker = s.openMarker := by
  unfold State.startLoad
  simp

@[simp] theorem State.debounceFirstState_frame (s : State) :
    (s.debounceFirstState).pending = s.pending ∧ (s.debounceFirstState).clock = s.clock ∧ (s.debounceFirstState).roundTaken = s.roundTaken ∧ (s.debounceFirstState).freeIndex = s.freeIndex ∧ (s.debounceFirstState).run = s.run ∧ (s.debounceFirstState).profile = s.profile ∧ (s.debounceFirstState).port = s.port ∧ (s.debounceFirstState).claim = s.claim ∧ (s.debounceFirstState).seq = s.seq ∧ (s.debounceFirstState).rail = s.rail ∧ (s.debounceFirstState).lis = s.lis ∧ (s.debounceFirstState).table = s.table ∧ (s.debounceFirstState).judge = s.judge ∧ (s.debounceFirstState).store = s.store ∧ (s.debounceFirstState).closing = s.closing ∧ (s.debounceFirstState).tag = s.tag ∧ (s.debounceFirstState).openMarker = s.openMarker := by
  unfold State.debounceFirstState
  dsimp only
  (repeat' split) <;> simp

@[simp] theorem State.setLastOrder_frame (r : OrderResult) (s : State) :
    (s.setLastOrder r).pending = s.pending ∧ (s.setLastOrder r).clock = s.clock ∧ (s.setLastOrder r).roundTaken = s.roundTaken ∧ (s.setLastOrder r).freeIndex = s.freeIndex ∧ (s.setLastOrder r).panel = s.panel ∧ (s.setLastOrder r).profile = s.profile ∧ (s.setLastOrder r).load = s.load ∧ (s.setLastOrder r).port = s.port ∧ (s.setLastOrder r).claim = s.claim ∧ (s.setLastOrder r).seq = s.seq ∧ (s.setLastOrder r).rail = s.rail ∧ (s.setLastOrder r).lis = s.lis ∧ (s.setLastOrder r).table = s.table ∧ (s.setLastOrder r).judge = s.judge ∧ (s.setLastOrder r).store = s.store ∧ (s.setLastOrder r).closing = s.closing ∧ (s.setLastOrder r).tag = s.tag ∧ (s.setLastOrder r).openMarker = s.openMarker := by
  unfold State.setLastOrder
  simp

@[simp] theorem State.clearForRun_frame (p : Profile) (s : State) :
    (s.clearForRun p).pending = s.pending ∧ (s.clearForRun p).clock = s.clock ∧ (s.clearForRun p).roundTaken = s.roundTaken ∧ (s.clearForRun p).freeIndex = s.freeIndex ∧ (s.clearForRun p).panel = s.panel ∧ (s.clearForRun p).profile = s.profile ∧ (s.clearForRun p).load = s.load ∧ (s.clearForRun p).port = s.port ∧ (s.clearForRun p).claim = s.claim ∧ (s.clearForRun p).seq = s.seq ∧ (s.clearForRun p).rail = s.rail ∧ (s.clearForRun p).closing = s.closing ∧ (s.clearForRun p).tag = s.tag ∧ (s.clearForRun p).openMarker = s.openMarker := by
  unfold State.clearForRun
  simp

@[simp] theorem State.acceptStart_frame (p : Profile) (s : State) :
    (s.acceptStart p).pending = s.pending ∧ (s.acceptStart p).clock = s.clock ∧ (s.acceptStart p).roundTaken = s.roundTaken ∧ (s.acceptStart p).freeIndex = s.freeIndex ∧ (s.acceptStart p).panel = s.panel ∧ (s.acceptStart p).profile = s.profile ∧ (s.acceptStart p).load = s.load ∧ (s.acceptStart p).closing = s.closing ∧ (s.acceptStart p).tag = s.tag ∧ (s.acceptStart p).openMarker = s.openMarker := by
  unfold State.acceptStart
  simp

@[simp] theorem State.takeStart_frame (s : State) :
    (s.takeStart).pending = s.pending ∧ (s.takeStart).clock = s.clock ∧ (s.takeStart).roundTaken = s.roundTaken ∧ (s.takeStart).freeIndex = s.freeIndex ∧ (s.takeStart).panel = s.panel ∧ (s.takeStart).profile = s.profile ∧ (s.takeStart).load = s.load ∧ (s.takeStart).closing = s.closing ∧ (s.takeStart).tag = s.tag ∧ (s.takeStart).openMarker = s.openMarker := by
  unfold State.takeStart
  (repeat' split) <;> simp

@[simp] theorem State.acceptAbort_frame (p : Profile) (s : State) :
    (s.acceptAbort p).pending = s.pending ∧ (s.acceptAbort p).clock = s.clock ∧ (s.acceptAbort p).roundTaken = s.roundTaken ∧ (s.acceptAbort p).freeIndex = s.freeIndex ∧ (s.acceptAbort p).panel = s.panel ∧ (s.acceptAbort p).profile = s.profile ∧ (s.acceptAbort p).load = s.load ∧ (s.acceptAbort p).store = s.store ∧ (s.acceptAbort p).tag = s.tag ∧ (s.acceptAbort p).openMarker = s.openMarker := by
  unfold State.acceptAbort
  simp

@[simp] theorem State.takeAbortOrder_frame (s : State) :
    (s.takeAbortOrder).pending = s.pending ∧ (s.takeAbortOrder).clock = s.clock ∧ (s.takeAbortOrder).roundTaken = s.roundTaken ∧ (s.takeAbortOrder).freeIndex = s.freeIndex ∧ (s.takeAbortOrder).panel = s.panel ∧ (s.takeAbortOrder).profile = s.profile ∧ (s.takeAbortOrder).load = s.load ∧ (s.takeAbortOrder).store = s.store ∧ (s.takeAbortOrder).tag = s.tag ∧ (s.takeAbortOrder).openMarker = s.openMarker := by
  unfold State.takeAbortOrder
  (repeat' split) <;> simp

@[simp] theorem State.pressed_frame (s : State) :
    (s.pressed).pending = s.pending ∧ (s.pressed).clock = s.clock ∧ (s.pressed).roundTaken = s.roundTaken ∧ (s.pressed).freeIndex = s.freeIndex ∧ (s.pressed).panel = s.panel ∧ (s.pressed).profile = s.profile ∧ (s.pressed).tag = s.tag ∧ (s.pressed).openMarker = s.openMarker := by
  unfold State.pressed
  (repeat' split) <;> simp

@[simp] theorem State.buttonPress_frame (s : State) :
    (s.buttonPress).pending = s.pending ∧ (s.buttonPress).clock = s.clock ∧ (s.buttonPress).roundTaken = s.roundTaken ∧ (s.buttonPress).freeIndex = s.freeIndex ∧ (s.buttonPress).profile = s.profile ∧ (s.buttonPress).tag = s.tag ∧ (s.buttonPress).openMarker = s.openMarker := by
  unfold State.buttonPress
  (repeat' split) <;> simp

@[simp] theorem State.buttonRelease_frame (s : State) :
    (s.buttonRelease).pending = s.pending ∧ (s.buttonRelease).clock = s.clock ∧ (s.buttonRelease).roundTaken = s.roundTaken ∧ (s.buttonRelease).freeIndex = s.freeIndex ∧ (s.buttonRelease).run = s.run ∧ (s.buttonRelease).profile = s.profile ∧ (s.buttonRelease).load = s.load ∧ (s.buttonRelease).port = s.port ∧ (s.buttonRelease).claim = s.claim ∧ (s.buttonRelease).seq = s.seq ∧ (s.buttonRelease).rail = s.rail ∧ (s.buttonRelease).lis = s.lis ∧ (s.buttonRelease).table = s.table ∧ (s.buttonRelease).judge = s.judge ∧ (s.buttonRelease).store = s.store ∧ (s.buttonRelease).closing = s.closing ∧ (s.buttonRelease).tag = s.tag ∧ (s.buttonRelease).openMarker = s.openMarker := by
  unfold State.buttonRelease
  (repeat' split) <;> simp

@[simp] theorem State.traySeated_frame (s : State) :
    (s.traySeated).pending = s.pending ∧ (s.traySeated).clock = s.clock ∧ (s.traySeated).roundTaken = s.roundTaken ∧ (s.traySeated).freeIndex = s.freeIndex ∧ (s.traySeated).run = s.run ∧ (s.traySeated).profile = s.profile ∧ (s.traySeated).load = s.load ∧ (s.traySeated).port = s.port ∧ (s.traySeated).claim = s.claim ∧ (s.traySeated).seq = s.seq ∧ (s.traySeated).rail = s.rail ∧ (s.traySeated).lis = s.lis ∧ (s.traySeated).table = s.table ∧ (s.traySeated).judge = s.judge ∧ (s.traySeated).store = s.store ∧ (s.traySeated).closing = s.closing := by
  unfold State.traySeated
  (repeat' split) <;> simp

@[simp] theorem State.abandonRun_frame (s : State) :
    (s.abandonRun).pending = s.pending ∧ (s.abandonRun).clock = s.clock ∧ (s.abandonRun).roundTaken = s.roundTaken ∧ (s.abandonRun).freeIndex = s.freeIndex ∧ (s.abandonRun).panel = s.panel ∧ (s.abandonRun).profile = s.profile ∧ (s.abandonRun).load = s.load ∧ (s.abandonRun).store = s.store ∧ (s.abandonRun).closing = s.closing ∧ (s.abandonRun).tag = s.tag ∧ (s.abandonRun).openMarker = s.openMarker := by
  unfold State.abandonRun
  simp

@[simp] theorem State.trayGone_frame (s : State) :
    (s.trayGone).pending = s.pending ∧ (s.trayGone).clock = s.clock ∧ (s.trayGone).roundTaken = s.roundTaken ∧ (s.trayGone).freeIndex = s.freeIndex ∧ (s.trayGone).panel = s.panel ∧ (s.trayGone).profile = s.profile ∧ (s.trayGone).load = s.load ∧ (s.trayGone).store = s.store := by
  unfold State.trayGone
  (repeat' split) <;> simp

@[simp] theorem State.trayRemoval_frame (s : State) :
    (s.trayRemoval).pending = s.pending ∧ (s.trayRemoval).clock = s.clock ∧ (s.trayRemoval).roundTaken = s.roundTaken ∧ (s.trayRemoval).freeIndex = s.freeIndex ∧ (s.trayRemoval).profile = s.profile ∧ (s.trayRemoval).load = s.load ∧ (s.trayRemoval).store = s.store := by
  unfold State.trayRemoval
  (repeat' split) <;> simp

@[simp] theorem State.fixtureFitted_frame (s : State) :
    (s.fixtureFitted).pending = s.pending ∧ (s.fixtureFitted).clock = s.clock ∧ (s.fixtureFitted).roundTaken = s.roundTaken ∧ (s.fixtureFitted).freeIndex = s.freeIndex ∧ (s.fixtureFitted).run = s.run ∧ (s.fixtureFitted).profile = s.profile ∧ (s.fixtureFitted).port = s.port ∧ (s.fixtureFitted).claim = s.claim ∧ (s.fixtureFitted).seq = s.seq ∧ (s.fixtureFitted).rail = s.rail ∧ (s.fixtureFitted).lis = s.lis ∧ (s.fixtureFitted).table = s.table ∧ (s.fixtureFitted).judge = s.judge ∧ (s.fixtureFitted).store = s.store ∧ (s.fixtureFitted).closing = s.closing ∧ (s.fixtureFitted).tag = s.tag ∧ (s.fixtureFitted).openMarker = s.openMarker := by
  unfold State.fixtureFitted
  (repeat' split) <;> simp

@[simp] theorem State.fixtureGone_frame (s : State) :
    (s.fixtureGone).pending = s.pending ∧ (s.fixtureGone).clock = s.clock ∧ (s.fixtureGone).roundTaken = s.roundTaken ∧ (s.fixtureGone).freeIndex = s.freeIndex ∧ (s.fixtureGone).panel = s.panel := by
  unfold State.fixtureGone
  simp

@[simp] theorem State.fixtureChange_frame (s : State) :
    (s.fixtureChange).pending = s.pending ∧ (s.fixtureChange).clock = s.clock ∧ (s.fixtureChange).roundTaken = s.roundTaken ∧ (s.fixtureChange).freeIndex = s.freeIndex := by
  unfold State.fixtureChange
  (repeat' split) <;> simp

@[simp] theorem State.reply_frame (source : Byte) (s : State) :
    (s.reply source).pending = s.pending ∧ (s.reply source).clock = s.clock ∧ (s.reply source).roundTaken = s.roundTaken ∧ (s.reply source).freeIndex = s.freeIndex ∧ (s.reply source).panel = s.panel ∧ (s.reply source).profile = s.profile ∧ (s.reply source).load = s.load ∧ (s.reply source).claim = s.claim ∧ (s.reply source).seq = s.seq ∧ (s.reply source).rail = s.rail ∧ (s.reply source).lis = s.lis ∧ (s.reply source).table = s.table ∧ (s.reply source).judge = s.judge ∧ (s.reply source).store = s.store ∧ (s.reply source).closing = s.closing ∧ (s.reply source).tag = s.tag ∧ (s.reply source).openMarker = s.openMarker := by
  unfold State.reply
  simp

@[simp] theorem State.fetchRefused_frame (r : FetchResult) (source : Byte) (s : State) :
    (s.fetchRefused r source).pending = s.pending ∧ (s.fetchRefused r source).clock = s.clock ∧ (s.fetchRefused r source).roundTaken = s.roundTaken ∧ (s.fetchRefused r source).freeIndex = s.freeIndex ∧ (s.fetchRefused r source).panel = s.panel ∧ (s.fetchRefused r source).profile = s.profile ∧ (s.fetchRefused r source).load = s.load ∧ (s.fetchRefused r source).claim = s.claim ∧ (s.fetchRefused r source).seq = s.seq ∧ (s.fetchRefused r source).rail = s.rail ∧ (s.fetchRefused r source).lis = s.lis ∧ (s.fetchRefused r source).table = s.table ∧ (s.fetchRefused r source).judge = s.judge ∧ (s.fetchRefused r source).closing = s.closing ∧ (s.fetchRefused r source).tag = s.tag ∧ (s.fetchRefused r source).openMarker = s.openMarker := by
  unfold State.fetchRefused
  simp

@[simp] theorem State.fetchSlot_frame (slot : Nat) (source : Byte) (s : State) :
    (s.fetchSlot slot source).pending = s.pending ∧ (s.fetchSlot slot source).clock = s.clock ∧ (s.fetchSlot slot source).roundTaken = s.roundTaken ∧ (s.fetchSlot slot source).freeIndex = s.freeIndex ∧ (s.fetchSlot slot source).panel = s.panel ∧ (s.fetchSlot slot source).profile = s.profile ∧ (s.fetchSlot slot source).load = s.load ∧ (s.fetchSlot slot source).claim = s.claim ∧ (s.fetchSlot slot source).seq = s.seq ∧ (s.fetchSlot slot source).rail = s.rail ∧ (s.fetchSlot slot source).lis = s.lis ∧ (s.fetchSlot slot source).table = s.table ∧ (s.fetchSlot slot source).judge = s.judge ∧ (s.fetchSlot slot source).closing = s.closing ∧ (s.fetchSlot slot source).tag = s.tag ∧ (s.fetchSlot slot source).openMarker = s.openMarker := by
  unfold State.fetchSlot
  dsimp only
  (repeat' split) <;> simp

@[simp] theorem State.takeFetch_frame (source arg : Byte) (s : State) :
    (s.takeFetch source arg).pending = s.pending ∧ (s.takeFetch source arg).clock = s.clock ∧ (s.takeFetch source arg).roundTaken = s.roundTaken ∧ (s.takeFetch source arg).freeIndex = s.freeIndex ∧ (s.takeFetch source arg).panel = s.panel ∧ (s.takeFetch source arg).profile = s.profile ∧ (s.takeFetch source arg).load = s.load ∧ (s.takeFetch source arg).claim = s.claim ∧ (s.takeFetch source arg).seq = s.seq ∧ (s.takeFetch source arg).rail = s.rail ∧ (s.takeFetch source arg).lis = s.lis ∧ (s.takeFetch source arg).table = s.table ∧ (s.takeFetch source arg).judge = s.judge ∧ (s.takeFetch source arg).closing = s.closing ∧ (s.takeFetch source arg).tag = s.tag ∧ (s.takeFetch source arg).openMarker = s.openMarker := by
  unfold State.takeFetch
  (repeat' split) <;> simp

@[simp] theorem State.takeUnknown_frame (op : Byte) (s : State) :
    (s.takeUnknown op).pending = s.pending ∧ (s.takeUnknown op).clock = s.clock ∧ (s.takeUnknown op).roundTaken = s.roundTaken ∧ (s.takeUnknown op).freeIndex = s.freeIndex ∧ (s.takeUnknown op).panel = s.panel ∧ (s.takeUnknown op).profile = s.profile ∧ (s.takeUnknown op).load = s.load ∧ (s.takeUnknown op).port = s.port ∧ (s.takeUnknown op).claim = s.claim ∧ (s.takeUnknown op).seq = s.seq ∧ (s.takeUnknown op).rail = s.rail ∧ (s.takeUnknown op).lis = s.lis ∧ (s.takeUnknown op).table = s.table ∧ (s.takeUnknown op).judge = s.judge ∧ (s.takeUnknown op).store = s.store ∧ (s.takeUnknown op).closing = s.closing ∧ (s.takeUnknown op).tag = s.tag ∧ (s.takeUnknown op).openMarker = s.openMarker := by
  unfold State.takeUnknown
  (repeat' split) <;> simp

@[simp] theorem State.departed_frame (n : Notice) (alertFirst : Bool) (s : State) :
    (s.departed n alertFirst).pending = s.pending ∧ (s.departed n alertFirst).clock = s.clock ∧ (s.departed n alertFirst).roundTaken = s.roundTaken ∧ (s.departed n alertFirst).freeIndex = s.freeIndex ∧ (s.departed n alertFirst).panel = s.panel ∧ (s.departed n alertFirst).profile = s.profile ∧ (s.departed n alertFirst).load = s.load ∧ (s.departed n alertFirst).claim = s.claim ∧ (s.departed n alertFirst).seq = s.seq ∧ (s.departed n alertFirst).rail = s.rail ∧ (s.departed n alertFirst).lis = s.lis ∧ (s.departed n alertFirst).table = s.table ∧ (s.departed n alertFirst).judge = s.judge ∧ (s.departed n alertFirst).closing = s.closing ∧ (s.departed n alertFirst).tag = s.tag ∧ (s.departed n alertFirst).openMarker = s.openMarker := by
  unfold State.departed
  (repeat' split) <;> simp

@[simp] theorem State.headLeaves_frame (s : State) :
    (s.headLeaves).pending = s.pending ∧ (s.headLeaves).clock = s.clock ∧ (s.headLeaves).roundTaken = s.roundTaken ∧ (s.headLeaves).freeIndex = s.freeIndex ∧ (s.headLeaves).panel = s.panel ∧ (s.headLeaves).run = s.run ∧ (s.headLeaves).profile = s.profile ∧ (s.headLeaves).load = s.load ∧ (s.headLeaves).claim = s.claim ∧ (s.headLeaves).seq = s.seq ∧ (s.headLeaves).rail = s.rail ∧ (s.headLeaves).lis = s.lis ∧ (s.headLeaves).table = s.table ∧ (s.headLeaves).judge = s.judge ∧ (s.headLeaves).store = s.store ∧ (s.headLeaves).closing = s.closing ∧ (s.headLeaves).tag = s.tag ∧ (s.headLeaves).openMarker = s.openMarker := by
  unfold State.headLeaves
  simp

@[simp] theorem State.dropReported_frame (n : Notice) (alertFirst : Bool) (s : State) :
    (s.dropReported n alertFirst).pending = s.pending ∧ (s.dropReported n alertFirst).clock = s.clock ∧ (s.dropReported n alertFirst).roundTaken = s.roundTaken ∧ (s.dropReported n alertFirst).freeIndex = s.freeIndex ∧ (s.dropReported n alertFirst).panel = s.panel ∧ (s.dropReported n alertFirst).profile = s.profile ∧ (s.dropReported n alertFirst).load = s.load ∧ (s.dropReported n alertFirst).claim = s.claim ∧ (s.dropReported n alertFirst).seq = s.seq ∧ (s.dropReported n alertFirst).rail = s.rail ∧ (s.dropReported n alertFirst).lis = s.lis ∧ (s.dropReported n alertFirst).table = s.table ∧ (s.dropReported n alertFirst).judge = s.judge ∧ (s.dropReported n alertFirst).closing = s.closing ∧ (s.dropReported n alertFirst).tag = s.tag ∧ (s.dropReported n alertFirst).openMarker = s.openMarker := by
  unfold State.dropReported
  (repeat' split) <;> simp

@[simp] theorem State.sent_frame (endAt : Nat) (n : Notice) (alertFirst : Bool) (s : State) :
    (s.sent endAt n alertFirst).pending = s.pending ∧ (s.sent endAt n alertFirst).clock = s.clock ∧ (s.sent endAt n alertFirst).roundTaken = s.roundTaken ∧ (s.sent endAt n alertFirst).freeIndex = s.freeIndex ∧ (s.sent endAt n alertFirst).panel = s.panel ∧ (s.sent endAt n alertFirst).profile = s.profile ∧ (s.sent endAt n alertFirst).load = s.load ∧ (s.sent endAt n alertFirst).table = s.table ∧ (s.sent endAt n alertFirst).judge = s.judge ∧ (s.sent endAt n alertFirst).closing = s.closing ∧ (s.sent endAt n alertFirst).tag = s.tag ∧ (s.sent endAt n alertFirst).openMarker = s.openMarker := by
  unfold State.sent
  (repeat' split) <;> simp

@[simp] theorem State.attemptCompletion_frame (bt : Nat) (alertFirst : Bool) (s : State) :
    (s.attemptCompletion bt alertFirst).pending = s.pending ∧ (s.attemptCompletion bt alertFirst).clock = s.clock ∧ (s.attemptCompletion bt alertFirst).roundTaken = s.roundTaken ∧ (s.attemptCompletion bt alertFirst).freeIndex = s.freeIndex ∧ (s.attemptCompletion bt alertFirst).panel = s.panel ∧ (s.attemptCompletion bt alertFirst).profile = s.profile ∧ (s.attemptCompletion bt alertFirst).load = s.load ∧ (s.attemptCompletion bt alertFirst).table = s.table ∧ (s.attemptCompletion bt alertFirst).judge = s.judge ∧ (s.attemptCompletion bt alertFirst).closing = s.closing ∧ (s.attemptCompletion bt alertFirst).tag = s.tag ∧ (s.attemptCompletion bt alertFirst).openMarker = s.openMarker := by
  unfold State.attemptCompletion
  (repeat' split) <;> simp

@[simp] theorem State.jamOver_frame (endAt : Nat) (n : Notice) (rest : List Notice) (alertFirst : Bool) (s : State) :
    (s.jamOver endAt n rest alertFirst).pending = s.pending ∧ (s.jamOver endAt n rest alertFirst).clock = s.clock ∧ (s.jamOver endAt n rest alertFirst).roundTaken = s.roundTaken ∧ (s.jamOver endAt n rest alertFirst).freeIndex = s.freeIndex ∧ (s.jamOver endAt n rest alertFirst).panel = s.panel ∧ (s.jamOver endAt n rest alertFirst).profile = s.profile ∧ (s.jamOver endAt n rest alertFirst).load = s.load ∧ (s.jamOver endAt n rest alertFirst).table = s.table ∧ (s.jamOver endAt n rest alertFirst).judge = s.judge ∧ (s.jamOver endAt n rest alertFirst).closing = s.closing ∧ (s.jamOver endAt n rest alertFirst).tag = s.tag ∧ (s.jamOver endAt n rest alertFirst).openMarker = s.openMarker := by
  unfold State.jamOver
  dsimp only
  (repeat' split) <;> simp

@[simp] theorem State.jamEnd_frame (bt : Nat) (alertFirst : Bool) (s : State) :
    (s.jamEnd bt alertFirst).pending = s.pending ∧ (s.jamEnd bt alertFirst).clock = s.clock ∧ (s.jamEnd bt alertFirst).roundTaken = s.roundTaken ∧ (s.jamEnd bt alertFirst).freeIndex = s.freeIndex ∧ (s.jamEnd bt alertFirst).panel = s.panel ∧ (s.jamEnd bt alertFirst).profile = s.profile ∧ (s.jamEnd bt alertFirst).load = s.load ∧ (s.jamEnd bt alertFirst).table = s.table ∧ (s.jamEnd bt alertFirst).judge = s.judge ∧ (s.jamEnd bt alertFirst).closing = s.closing ∧ (s.jamEnd bt alertFirst).tag = s.tag ∧ (s.jamEnd bt alertFirst).openMarker = s.openMarker := by
  unfold State.jamEnd
  (repeat' split) <;> simp

@[simp] theorem State.frameDiscarded_frame (frame : ReceivedFrame) (s : State) :
    (s.frameDiscarded frame).pending = s.pending ∧ (s.frameDiscarded frame).clock = s.clock ∧ (s.frameDiscarded frame).roundTaken = s.roundTaken ∧ (s.frameDiscarded frame).freeIndex = s.freeIndex ∧ (s.frameDiscarded frame).panel = s.panel ∧ (s.frameDiscarded frame).profile = s.profile ∧ (s.frameDiscarded frame).load = s.load ∧ (s.frameDiscarded frame).claim = s.claim ∧ (s.frameDiscarded frame).seq = s.seq ∧ (s.frameDiscarded frame).rail = s.rail ∧ (s.frameDiscarded frame).lis = s.lis ∧ (s.frameDiscarded frame).table = s.table ∧ (s.frameDiscarded frame).judge = s.judge ∧ (s.frameDiscarded frame).store = s.store ∧ (s.frameDiscarded frame).closing = s.closing ∧ (s.frameDiscarded frame).tag = s.tag ∧ (s.frameDiscarded frame).openMarker = s.openMarker := by
  unfold State.frameDiscarded
  (repeat' split) <;> simp

@[simp] theorem State.roundBegun_frame (i : PanelSample) (s : State) :
    (s.roundBegun i).pending = s.pending ∧ (s.roundBegun i).clock = s.clock ∧ (s.roundBegun i).freeIndex = s.freeIndex ∧ (s.roundBegun i).run = s.run ∧ (s.roundBegun i).profile = s.profile ∧ (s.roundBegun i).load = s.load ∧ (s.roundBegun i).port = s.port ∧ (s.roundBegun i).claim = s.claim ∧ (s.roundBegun i).seq = s.seq ∧ (s.roundBegun i).rail = s.rail ∧ (s.roundBegun i).lis = s.lis ∧ (s.roundBegun i).table = s.table ∧ (s.roundBegun i).judge = s.judge ∧ (s.roundBegun i).closing = s.closing ∧ (s.roundBegun i).tag = s.tag ∧ (s.roundBegun i).openMarker = s.openMarker := by
  unfold State.roundBegun
  simp


end Sys2Proof.Machine
end

