-- ==== Sys2Proof/Laws/Memory.lean ====
section
/-! SUPPORT. The known bytes of the tray tag: the canonical form is kept, and what a read gives after a write or a forgetting. -/

namespace Sys2Proof.Machine

/-- A write below every listed address stays below them. -/
theorem Memory.write_below (a : Nat) (b : Byte) (k : Nat) (hk : k < a) :
    ∀ m : List Host.Cell, (∀ c ∈ m, k < c.1) → ∀ c ∈ Memory.write a b m, k < c.1
  | [], _ => by simp [Memory.write, hk]
  | d :: m, h => by
    have ih := Memory.write_below a b k hk m (fun c hc => h c (List.mem_cons_of_mem _ hc))
    have hd := h d List.mem_cons_self
    unfold Memory.write
    split
    · intro c hc
      rcases List.mem_cons.mp hc with rfl | hc
      · exact hd
      · exact ih c hc
    · split
      · intro c hc
        rcases List.mem_cons.mp hc with rfl | hc
        · exact hk
        · exact h c (List.mem_cons_of_mem _ hc)
      · intro c hc
        rcases List.mem_cons.mp hc with rfl | hc
        · exact hk
        · exact h c hc

theorem Memory.write_wf (a : Nat) (b : Byte) : ∀ m : List Host.Cell, Memory.wf m → Memory.wf (Memory.write a b m)
  | [], _ => by simp [Memory.write, Memory.wf]
  | d :: m, h => by
    have hp := List.pairwise_cons.mp h
    unfold Memory.write
    split
    · rename_i hlt
      exact List.pairwise_cons.mpr ⟨Memory.write_below a b d.1 hlt m hp.1, Memory.write_wf a b m hp.2⟩
    · split
      · rename_i he
        refine List.pairwise_cons.mpr ⟨fun c hc => ?_, hp.2⟩
        have := hp.1 c hc
        simpa [← he] using this
      · rename_i h1 h2
        have hlt : a < d.1 := by omega
        refine List.pairwise_cons.mpr ⟨fun c hc => ?_, h⟩
        rcases List.mem_cons.mp hc with rfl | hc
        · exact hlt
        · exact Nat.lt_trans hlt (hp.1 c hc)

theorem Memory.forget_wf (m : List Host.Cell) (a : Nat) (h : Memory.wf m) : Memory.wf (Memory.forget m a) :=
  List.Pairwise.filter _ h

theorem Memory.forgetBytes_wf (m : List Host.Cell) (a n : Nat) (h : Memory.wf m) : Memory.wf (Memory.forgetBytes m a n) :=
  List.Pairwise.filter _ h

theorem Memory.writeBytes_wf : ∀ (l : List Byte) (m : List Host.Cell) (a : Nat), Memory.wf m → Memory.wf (Memory.writeBytes m a l)
  | [], _, _, h => h
  | b :: l, m, a, h => Memory.writeBytes_wf l (Memory.write a b m) (a + 1) (Memory.write_wf a b m h)

theorem Memory.reset_wf : Memory.wf State.reset.tag := List.Pairwise.nil

/-- A read after a write to the same address gives the byte written. -/
theorem Memory.read_write_same (a : Nat) (b : Byte) : ∀ m : List Host.Cell, Memory.read (Memory.write a b m) a = some b
  | [] => by simp [Memory.write, Memory.read]
  | d :: m => by
    have ih := Memory.read_write_same a b m
    unfold Memory.write
    split
    · rename_i h
      have hne : ¬ d.1 = a := by omega
      simpa [Memory.read, List.find?_cons, hne] using ih
    · split <;> simp [Memory.read]

/-- A write leaves every other address as it was. -/
theorem Memory.read_write_other (a k : Nat) (b : Byte) (hk : k ≠ a) :
    ∀ m : List Host.Cell, Memory.read (Memory.write a b m) k = Memory.read m k
  | [] => by simp [Memory.write, Memory.read, Ne.symm hk]
  | d :: m => by
    have ih := Memory.read_write_other a k b hk m
    have hak : (a == k) = false := by simpa using Ne.symm hk
    unfold Memory.write
    split
    · by_cases hd : d.1 = k
      · simp [Memory.read, hd]
      · have hd' : (d.1 == k) = false := by simpa using hd
        simpa [Memory.read, List.find?_cons, hd'] using ih
    · split
      · rename_i he
        have hd : (d.1 == k) = false := by simpa [he] using Ne.symm hk
        simp [Memory.read, hak, hd]
      · simp [Memory.read, List.find?_cons, hak]

/-- Bytes written at consecutive addresses leave every address outside them as it was. -/
theorem Memory.read_writeBytes_other (k : Nat) :
    ∀ (l : List Byte) (m : List Host.Cell) (a : Nat), (k < a ∨ a + l.length ≤ k) →
      Memory.read (Memory.writeBytes m a l) k = Memory.read m k
  | [], _, _, _ => rfl
  | b :: l, m, a, h => by
    simp only [List.length_cons] at h
    have ih := Memory.read_writeBytes_other k l (Memory.write a b m) (a + 1) (by omega)
    simpa [Memory.writeBytes, Memory.read_write_other a k b (by omega) m] using ih

/-- Bytes written at consecutive addresses read back. -/
theorem Memory.read_writeBytes_same :
    ∀ (l : List Byte) (m : List Host.Cell) (a i : Nat) (h : i < l.length), Memory.read (Memory.writeBytes m a l) (a + i) = some l[i]
  | b :: l, m, a, 0, _ => by
    simp only [Memory.writeBytes, Nat.add_zero, List.getElem_cons_zero]
    rw [Memory.read_writeBytes_other a l _ (a + 1) (by omega)]
    exact Memory.read_write_same a b m
  | b :: l, m, a, i + 1, h => by
    have ih := Memory.read_writeBytes_same l (Memory.write a b m) (a + 1) i (by simpa using h)
    have e : a + (i + 1) = a + 1 + i := by omega
    rw [e]
    simpa [Memory.writeBytes] using ih

/-- Forgotten addresses are undetermined; every other address stays as it was. -/
theorem Memory.read_forgetBytes (m : List Host.Cell) (a n k : Nat) :
    Memory.read (Memory.forgetBytes m a n) k = if a ≤ k ∧ k < a + n then none else Memory.read m k := by
  induction m with
  | nil => simp [Memory.forgetBytes, Memory.read]
  | cons d m ih =>
    simp only [Memory.forgetBytes, Memory.read, List.filter_cons] at ih ⊢
    by_cases hd : d.1 = k
    · subst hd
      by_cases hr : a ≤ d.1 ∧ d.1 < a + n
      · simp [hr] at ih ⊢
        simpa using ih
      · have : (!(decide (a ≤ d.1) && decide (d.1 < a + n))) = true := by
          simp only [Bool.not_eq_true', Bool.and_eq_false_iff, decide_eq_false_iff_not]
          omega
        simp [this, hr]
    · by_cases hr : a ≤ d.1 ∧ d.1 < a + n
      · simp [hr, hd]
        simpa using ih
      · have : (!(decide (a ≤ d.1) && decide (d.1 < a + n))) = true := by
          simp only [Bool.not_eq_true', Bool.and_eq_false_iff, decide_eq_false_iff_not]
          omega
        simp [this, hd]
        simpa using ih

/-- What is known after one slot's header read: outside the slot as before; in it marker and sequence as read, and the other bytes as before
where what was read agrees with what was known, and unknown where it does not. -/
theorem learnSlot_spec (i : Nat) (h : SlotHeader) (agreed : Bool) (m : List Host.Cell) (a : Nat) :
    Memory.read (learnSlot i h agreed m) a =
      if a = 64 * i then some h.marker
      else if a = 64 * i + 1 then some h.sequence
      else if 64 * i ≤ a ∧ a < 64 * i + 64 ∧ agreed = false then none
      else Memory.read m a := by
  unfold learnSlot
  simp only [Memory.writeBytes]
  by_cases h1 : a = 64 * i + 1
  · subst h1
    rw [Memory.read_write_same]
    simp
  · rw [Memory.read_write_other _ _ _ h1]
    by_cases h0 : a = 64 * i
    · subst h0; rw [Memory.read_write_same]; simp
    · rw [Memory.read_write_other _ _ _ h0]
      cases agreed <;> simp [h0, h1, Memory.read_forgetBytes]

/-- What is known after the header read of the four slots, each by what was known of it before: a read of one slot touches no other. -/
theorem State.learnSlots_spec (h : SlotHeaders) (s : State) (i : Nat) (x : SlotHeader) (a : Nat)
    (hi : (i = 0 ∧ x = h.s0) ∨ (i = 1 ∧ x = h.s1) ∨ (i = 2 ∧ x = h.s2) ∨ (i = 3 ∧ x = h.s3)) (h1 : 64 * i ≤ a) (h2 : a < 64 * i + 64) :
    Memory.read (s.learnSlots h).tag a =
      if a = 64 * i then some x.marker
      else if a = 64 * i + 1 then some x.sequence
      else if s.slotAgrees i x = false then none
      else Memory.read s.tag a := by
  simp only [State.learnSlots, State.setOpenMarker, State.setTag, learnSlot_spec]
  rcases hi with ⟨rfl, rfl⟩ | ⟨rfl, rfl⟩ | ⟨rfl, rfl⟩ | ⟨rfl, rfl⟩ <;> grind

end Sys2Proof.Machine
end

