-- ==== Sys2Proof/Laws/Ops.lean ====
section
/-! SUPPORT. For each shared operation, once, what it can do: the lemmas that later proofs cite instead of unfolding the operation. -/

namespace Sys2Proof

/-! ### Records of eight -/

theorem Eight.get_set_same {α : Type} (v : Eight α) (a : α) : ∀ i, i < 8 → (v.set i a).get i = a
  | 0, _ | 1, _ | 2, _ | 3, _ | 4, _ | 5, _ | 6, _ | 7, _ => rfl
  | n + 8, h => absurd h (by omega)

theorem Eight.get_set_other {α : Type} (v : Eight α) (a : α) (i j : Nat) (hi : i < 8) (hj : j < 8) (h : i ≠ j) :
    (v.set i a).get j = v.get j := by
  interval_cases i <;> interval_cases j <;> first | rfl | exact absurd rfl h

theorem Eight.get_map {α β : Type} (f : α → β) (v : Eight α) : ∀ i, i < 8 → (v.map f).get i = f (v.get i)
  | 0, _ | 1, _ | 2, _ | 3, _ | 4, _ | 5, _ | 6, _ | 7, _ => rfl
  | n + 8, h => absurd h (by omega)

theorem Eight.get_zip {α β γ : Type} (f : α → β → γ) (v : Eight α) (w : Eight β) :
    ∀ i, i < 8 → (v.zip f w).get i = f (v.get i) (w.get i)
  | 0, _ | 1, _ | 2, _ | 3, _ | 4, _ | 5, _ | 6, _ | 7, _ => rfl
  | n + 8, h => absurd h (by omega)

theorem Eight.get_all {α : Type} (a : α) : ∀ i, (Eight.all a).get i = a
  | 0 | 1 | 2 | 3 | 4 | 5 | 6 => rfl
  | _ + 7 => rfl

namespace Machine

/-! ### Timers and edges -/

theorem expired_iff (now d : Time) : expired now d = true ↔ 0 ≤ (now - d).toInt := by simp [expired, signedDiff]

theorem expiredOpt_iff (s : State) (d : Option Time) : expiredOpt s.clock d = true ↔ RunOut s d := by
  cases d <;> simp [expiredOpt, RunOut, expired_iff]

theorem State.edgeDue_iff (s : State) (d : Debounce) (l : Bool) : s.panel.edgeDue d l = true ↔ EdgeDue s d l := by
  unfold Panel.edgeDue EdgeDue Debounce.due
  cases d.level <;> cases l <;> simp

/-! ### Received notices -/

theorem heard_iff (sync : Int) (s : State) : Heard sync s ↔ s.hears sync = true := by
  unfold Heard State.hears State.standalone
  cases h : s.port.framer <;> simp [Framer.finds, and_assoc]

theorem State.received_reaches (h : Header) (order : Bool) (s : State) (r : Reaches h order s) (consume : State → State) :
    s.received h order consume = consume s := by
  obtain ⟨⟨h1, h2, b, hb, hle⟩, h3, h4, h5, h6⟩ := r
  have : s.receipt h order = .dispatched := by
    simp only [State.receipt, State.hears, State.standalone, sourceGood, hb, Framer.finds]
    rcases h6 with h6 | ⟨h6, h7⟩ <;> simp_all
  simp [State.received, this]

theorem State.received_cases (h : Header) (order : Bool) (consume : State → State) (s : State) :
    s.received h order consume = s ∨ s.received h order consume = s.setCondition .idClash
      ∨ (s.isPeer h.source ∧ s.port.stationId ≠ 0#5 ∧ s.received h order consume = consume s) := by
  unfold State.received
  split
  · exact .inl rfl
  · exact .inr (.inl rfl)
  · rename_i hr
    refine .inr (.inr ?_)
    simp only [State.receipt] at hr
    split at hr
    · cases hr
    · rename_i h1
      split at hr
      · cases hr
      · rename_i h2
        split at hr
        · cases hr
        · rename_i h3
          simp [State.hears, State.standalone, sourceGood] at h1 h2
          exact ⟨⟨by omega, by omega, h3⟩, h1.1.1, rfl⟩

/-! ### What brings a START or an ABORT -/

/-- A command that brings a START takes it in the state it finds, which differs in the button's debounced level at most. -/
theorem exec_startFinds {c : Instr} {s r : State} (h : StartFinds c s r) :
    exec c s = .next r.takeStart ∧ ∃ x, r = s.setPanel x ∧ x.seat = s.panel.seat := by
  rcases h with ⟨h, arg, rfl, hr, rfl⟩ | ⟨rfl, he, hst, rfl⟩
  · exact ⟨by simp only [exec, execStart, State.received_reaches _ _ _ hr], _, rfl, rfl⟩
  · refine ⟨?_, _, rfl, rfl⟩
    have hd := (State.edgeDue_iff _ _ _).2 he
    have hf : s.flipButton = s.buttonDown := by simp [State.flipButton, State.buttonDown, State.setPanel, Debounce.flipped, he.2.1]
    have hb : s.buttonDown.run = s.run := rfl
    simp only [exec, execButtonPress, State.buttonPress, hd, if_true, hf, State.pressed, hb]
    rcases hst with h | h | h <;> simp [h]

/-- A command that brings an ABORT in RUNNING takes it in the state it finds. -/
theorem exec_abortFinds {c : Instr} {s r : State} (h : AbortFinds c s r) :
    exec c s = .next r.takeAbortOrder ∧ s.run.state = .running ∧ ∃ x, r = s.setPanel x := by
  obtain ⟨hr, ⟨h, arg, rfl, hh, rfl⟩ | ⟨rfl, he, rfl⟩⟩ := h
  · exact ⟨by simp only [exec, execAbort, State.received_reaches _ _ _ hh], hr, _, rfl⟩
  · refine ⟨?_, hr, _, rfl⟩
    have hd := (State.edgeDue_iff _ _ _).2 he
    have hf : s.flipButton = s.buttonDown := by simp [State.flipButton, State.buttonDown, State.setPanel, Debounce.flipped, he.2.1]
    have hb : s.buttonDown.run = s.run := rfl
    simp only [exec, execButtonPress, State.buttonPress, hd, if_true, hf, State.pressed, hb, hr]

/-! ### Hand-over -/

theorem State.enqueue_room (n : Notice) (s : State) (hs : s.port.stationId ≠ 0#5) (hr : Room s) :
    s.enqueue n = some (s.setPort (s.port.accepting n)) := by
  unfold Room at hr
  simp only [State.enqueue, State.standalone, beq_iff_eq, hs, if_false, nonStepLimit, hr, if_true, LinePort.wake, LinePort.accepting]
  cases h : s.port.tx <;> simp

theorem State.enqueue_full (n : Notice) (s : State) (hs : s.port.stationId ≠ 0#5) (hr : ¬Room s) : s.enqueue n = none := by
  unfold Room at hr
  simp [State.enqueue, State.standalone, hs, nonStepLimit, hr]

theorem LinePort.wake_spec (p : LinePort) :
    p.wake = { p with tx := if p.tx = .idle then .defer else p.tx } := by
  obtain ⟨a, b, c, tx, d, e, f, g, h, k⟩ := p
  cases tx <;> rfl

theorem insertStep_mem (n m : Notice) (q : List Notice) : m ∈ insertStep n q ↔ m = n ∨ m ∈ q := by
  induction q with
  | nil => simp [insertStep]
  | cons a q ih =>
    unfold insertStep
    split
    · simp only [List.mem_cons, ih]; tauto
    · simp [List.mem_cons]

theorem LinePort.withStep_mem (n m : Notice) (p : LinePort) : m ∈ p.withStep n ↔ m = n ∨ m ∈ p.queue := by
  unfold LinePort.withStep
  split
  · rename_i hq; rw [hq]; simp only [List.mem_cons, insertStep_mem]; tauto
  · exact insertStep_mem n m _

theorem insertStep_nonStepCount (n : Notice) (h : n.isStep = true) (q : List Notice) :
    nonStepCount (insertStep n q) = nonStepCount q := by
  induction q with
  | nil => simp [insertStep, nonStepCount, h]
  | cons a q ih =>
    unfold nonStepCount at *
    unfold insertStep
    split <;> simp [List.countP_cons, ih, h]

theorem LinePort.withStep_nonStepCount (n : Notice) (h : n.isStep = true) (p : LinePort) :
    nonStepCount (p.withStep n) = nonStepCount p.queue := by
  unfold LinePort.withStep
  split
  · rename_i hq
    have := insertStep_nonStepCount n h
    unfold nonStepCount at *
    simp [hq, List.countP_cons, this]
  · exact insertStep_nonStepCount n h _

/-- A step notice handed over: in standalone nothing; else it is in the queue with every notice that was, and the rest of the port is as it
was but for the transmit state of an idle port. -/
theorem State.handStep_spec (n : Notice) (s : State) :
    (s.port.stationId = 0#5 ∧ s.handStep n = s)
      ∨ (s.port.stationId ≠ 0#5 ∧ ∃ q, (∀ m, m ∈ q ↔ m = n ∨ m ∈ s.port.queue)
          ∧ (n.isStep = true → nonStepCount q = nonStepCount s.port.queue)
          ∧ s.handStep n = s.setPort { s.port with queue := q, tx := if s.port.tx = .idle then .defer else s.port.tx }) := by
  by_cases hs : s.port.stationId = 0#5
  · exact .inl ⟨hs, by simp [State.handStep, State.standalone, hs]⟩
  · refine .inr ⟨hs, s.port.withStep n, fun m => LinePort.withStep_mem n m s.port, fun h => LinePort.withStep_nonStepCount n h s.port, ?_⟩
    simp [State.handStep, State.standalone, hs, LinePort.wake_spec]

/-! ### Conditions and the alert -/

theorem Conditions.get_put (c d : Condition) (b : Bool) (x : Conditions) :
    (x.put c b).get d = if d = c then b else x.get d := by
  cases c <;> cases d <;> rfl

/-- A condition set: it is set, no other but OUTBOUND_FULL may change, the run block keeps all but conditions and alert, and the port either
stays as it is or accepts the alert. -/
theorem State.setCondition_spec (c : Condition) (s : State) :
    (s.setCondition c).run.conds.get c = true
      ∧ (∀ d, d ≠ c → d ≠ .outboundFull → (s.setCondition c).run.conds.get d = s.run.conds.get d)
      ∧ (∀ d, s.run.conds.get d = true → (s.setCondition c).run.conds.get d = true)
      ∧ (s.run.conds.get c = true → s.setCondition c = s)
      ∧ (s.setCondition c).run = { s.run with conds := (s.setCondition c).run.conds, alert := (s.setCondition c).run.alert }
      ∧ ((s.setCondition c).port = s.port
          ∨ (s.run.conds.get c = false ∧ s.run.alert = .none ∧ Room s ∧ s.port.stationId ≠ 0#5
              ∧ (s.setCondition c).port = s.port.accepting (Notice.fresh (.status true none) 0#8 s.clock))) := by
  unfold State.setCondition
  split
  · rename_i h; simp [h]
  · rename_i h
    split
    · rename_i ha
      simp only [State.handAlert]
      split
      · rename_i t ht
        by_cases hs : s.port.stationId = 0#5
        · have : t = s.putCondition c true := by
            rcases State.enqueue_spec _ _ _ ht with ⟨-, rfl⟩ | ⟨h2, -⟩
            · rfl
            · simp [State.standalone, State.putCondition, hs] at h2
          subst this
          simp [State.setAlert, State.putCondition, Conditions.get_put, h]
          grind
        · by_cases hr : Room s
          · rw [State.enqueue_room _ _ (by exact hs) (by exact hr)] at ht
            cases ht
            simp [State.setAlert, State.putCondition, Conditions.get_put, h, ha, hs, hr]
            grind
          · rw [State.enqueue_full _ _ (by exact hs) (by exact hr)] at ht
            cases ht
      · simp [State.setAlert, State.putCondition, Conditions.get_put, h]
        grind
    · simp [State.putCondition, Conditions.get_put, h]
      grind

/-- A non-step notice handed over: taken, or refused by a full queue with OUTBOUND_FULL; in standalone it is taken and nothing
changes. -/
theorem State.handNotice_spec (n : Notice) (s : State) :
    (s.port.stationId = 0#5 ∧ s.handNotice n = (s, true))
      ∨ (s.port.stationId ≠ 0#5 ∧ Room s ∧ s.handNotice n = (s.setPort (s.port.accepting n), true))
      ∨ (s.port.stationId ≠ 0#5 ∧ ¬Room s ∧ s.handNotice n = (s.setCondition .outboundFull, false)) := by
  by_cases hs : s.port.stationId = 0#5
  · exact .inl ⟨hs, by simp [State.handNotice, State.enqueue, State.standalone, hs]⟩
  · by_cases hr : Room s
    · exact .inr (.inl ⟨hs, hr, by simp [State.handNotice, State.enqueue_room n s hs hr]⟩)
    · exact .inr (.inr ⟨hs, hr, by simp [State.handNotice, State.enqueue_full n s hs hr]⟩)

/-! ### What handing a notice over leaves (section of the same name in Safety.lean) -/

theorem State.handNotice_handed (n : Notice) (s : State) : Handed n s (s.handNotice n).1 (s.handNotice n).2 := by
  rcases s.handNotice_spec n with ⟨hs, h⟩ | ⟨hs, hr, h⟩ | ⟨hs, hr, h⟩
  · simp [Handed, h, hs]
  · simp [Handed, h, hs, hr, State.setPort]
  · refine ⟨fun h' => absurd h' hs, fun _ h' => absurd h' hr, fun _ _ => ⟨by simp [h], ?_⟩⟩
    rw [h]
    have e : s.putCondition .outboundFull true = { s with run := { s.run with conds := { s.run.conds with outboundFull := true } } } := rfl
    have hn := State.enqueue_full (Notice.fresh (.status true none) 0#8 s.clock) (s.putCondition .outboundFull true) hs hr
    cases hc : s.run.conds.outboundFull
    · cases ha : s.run.alert
      · have : s.setCondition .outboundFull = (s.putCondition .outboundFull true).handAlert := by simp [State.setCondition, Conditions.get, hc, ha]
        have hk : (s.putCondition .outboundFull true).clock = s.clock := rfl
        rw [this, State.handAlert, hk, hn]
        simp [RunControl.refused, hc, ha, State.putCondition, Conditions.put, State.setAlert, State.setRun]
      all_goals simp [State.setCondition, Conditions.get, hc, ha, e, RunControl.refused]
    · have : { s.run.conds with outboundFull := true } = s.run.conds := by cases hx : s.run.conds; simp_all
      simp [State.setCondition, Conditions.get, hc, RunControl.refused, this]

theorem State.handAlert_handed (s : State) : AlertHanded s s.handAlert := by
  by_cases hs : s.port.stationId = 0#5
  · refine ⟨s, true, ⟨fun _ => ⟨rfl, rfl⟩, fun h => absurd hs h, fun h => absurd hs h⟩, ?_⟩
    simp [State.handAlert, State.enqueue, State.standalone, hs, State.setAlert, State.setRun]
  · by_cases hr : Room s
    · refine ⟨_, true, ⟨fun h => absurd h hs, fun _ _ => ⟨rfl, rfl⟩, fun _ h => absurd hr h⟩, ?_⟩
      simp [State.handAlert, State.enqueue_room _ s hs hr, State.setAlert, State.setRun, State.setPort, Notice.fresh, handedAs]
    · refine ⟨_, false, ⟨fun h => absurd h hs, fun _ h => absurd h hr, fun _ _ => ⟨rfl, rfl⟩⟩, ?_⟩
      simp [State.handAlert, State.enqueue_full _ s hs hr, State.setAlert, State.setRun, State.putCondition, Conditions.put, RunControl.refused]

theorem State.setCondition_set (c : Condition) (s : State) : ConditionSet c s (s.setCondition c) := by
  refine ⟨fun h => by simp [State.setCondition, h], ?_⟩
  rintro u rfl hc
  have e : s.putCondition c true = { s with run := { s.run with conds := s.run.conds.put c true } } := rfl
  refine ⟨fun ha => ?_, fun ha => ?_⟩
  · cases h : s.run.alert <;> simp_all [State.setCondition]
  · have : s.setCondition c = (s.putCondition c true).handAlert := by simp [State.setCondition, hc, ha]
    rw [this, ← e]
    exact State.handAlert_handed _

theorem State.alertOnDeparture_spec (s : State) : AlertAtDeparture s s.alertOnDeparture := by
  refine ⟨fun h => ?_, fun h => ?_⟩
  · simpa [State.alertOnDeparture, h] using s.handAlert_handed
  · cases ha : s.run.alert <;> simp_all [State.alertOnDeparture]

theorem State.handPiece_spec (r : Readout) (payload : List Byte) (next : ReadStage) (s : State) :
    PieceHanded r payload next s (s.handPiece r payload next) := by
  have hh := s.handNotice_handed (handedAs (.detail payload) r.target s)
  have hf : (s.handNotice (handedAs (.detail payload) r.target s)).1.store = s.store := by simp
  refine ⟨_, _, hh, ?_⟩
  unfold State.handPiece
  change (match s.handNotice (handedAs (.detail payload) r.target s) with | (s', true) => _ | (s', false) => _) = _
  generalize s.handNotice (handedAs (.detail payload) r.target s) = x at hf ⊢
  obtain ⟨u, b⟩ := x
  dsimp only at hf
  cases b
  · simp only [hf, State.setStore, SnapshotStore.endReadout, SnapshotStore.readRelease]
    cases h : s.store.port <;> simp [h]
  · simp [hf, State.setStore]

theorem State.detailDeparted_spec (s : State) : DetailReported s s.detailDeparted := by
  refine ⟨fun h => by simp [State.detailDeparted, h], ?_⟩
  intro r x hr hx
  have hc : s.store.contentOf r.slot = x.content := by simp [SnapshotStore.contentOf, hx]
  refine ⟨?_, fun h => ?_, fun h hl => ?_, fun h hl => ?_, fun h => ?_⟩
  · rintro (h | ⟨m, h | h⟩) <;> simp [State.detailDeparted, hr, h]
  · have := s.handPiece_spec r (dataPiece r x.content) .dataQueued
    simpa [State.detailDeparted, hr, h, State.handData, hc, detailPayload, dataPiece, pieceAt, count8, count16] using this
  · have : ¬x.content.length ≤ r.offset + 20 := by omega
    simp only [State.detailDeparted, hr, h, hc, this, if_false, State.setStore, SnapshotStore.readRequest]
    cases s.store.port <;> simp
  · have := s.handPiece_spec r (finalPiece r x) .finalQueued
    simpa [State.detailDeparted, hr, h, hc, hl, State.handFinal, hx, detailPayload, finalPiece, count8, count16] using this
  · simp only [State.detailDeparted, hr, h, State.setStore, SnapshotStore.endReadout, SnapshotStore.readRelease]
    cases hp : s.store.port <;> simp [hp]

/-! ### The tray tag -/

theorem State.slotAgrees_iff (i : Nat) (h : SlotHeader) (s : State) : s.slotAgrees i h = true ↔ SlotAgrees i h s := by
  unfold State.slotAgrees State.markerValues SlotAgrees
  cases hm : Memory.read s.tag (64 * i) <;> cases hq : Memory.read s.tag (64 * i + 1) <;> cases ho : s.openMarker <;>
    simp [agrees] <;> grind

theorem State.tagUndetermined_spec (w : DocketWrite) (s : State) : CutOff w s (s.tagUndetermined w) := by
  have target1 : w.number = 1 → w.target = 64 * w.slot ∧ w.data.length = 1 := fun h => by simp [DocketWrite.target, DocketWrite.data, writeData, h]
  have target6 : w.ofMarker = true → w.target = 64 * w.slot ∧ w.data.length = 1 := fun h => by
    unfold DocketWrite.target DocketWrite.data writeData
    simp only [DocketWrite.ofMarker] at h
    split <;> simp_all
  unfold CutOff State.tagUndetermined
  refine ⟨?_, ?_, ?_, ?_, ?_⟩
  · intro a ha
    split
    · rename_i hm
      obtain ⟨e1, e2⟩ := target6 hm
      split
      · rfl
      · simp only [State.setOpenMarker, State.setTag, Memory.read_forgetBytes]; grind
    · simp only [State.setTag, Memory.read_forgetBytes]; grind
  · intro h1 h2
    have : w.ofMarker = false := by simp [DocketWrite.ofMarker, h1, h2]
    simp only [this, Bool.false_eq_true, if_false, State.setTag, Memory.read_forgetBytes]
    exact ⟨trivial, fun a h1 h2 => by simp [h1, h2]⟩
  · intro h1 x hx
    have hm : w.ofMarker = true := by simp [DocketWrite.ofMarker, h1]
    obtain ⟨e1, -⟩ := target1 h1
    have hv : s.markerValues w.slot = some [x] := by simp [State.markerValues, hx]
    by_cases h0 : x = 0#8
    · subst h0
      simp [hm, h1, hv]
    · simp [hm, h1, hv, h0, State.setOpenMarker, State.setTag, Memory.read_forgetBytes, e1, DocketWrite.markerLeft, Ne.symm h0]
  · intro h1 hx
    have hm : w.ofMarker = true := by simp [DocketWrite.ofMarker, h1]
    obtain ⟨e1, -⟩ := target1 h1
    split
    · split
      · rename_i h
        refine ⟨hx, fun m h2 h3 => ⟨m, h2, h3, ?_⟩⟩
        have hv := h.2
        simp only [State.markerValues, hx, h2, h3, if_true, Option.some.injEq] at hv
        simp [hv]
      · simp only [State.setOpenMarker, State.setTag, Memory.read_forgetBytes, e1]
        refine ⟨by simp, fun m h2 h3 => ?_⟩
        simp only [DocketWrite.markerLeft, h1, if_true, State.markerValues, hx, h2, h3]
        refine ⟨_, rfl, rfl, fun b => ?_⟩
        dsimp only
        split <;> simp_all
    · contradiction
  · intro h6
    have hm : w.ofMarker = true := by simp [DocketWrite.ofMarker, h6]
    obtain ⟨e1, -⟩ := target6 hm
    simp [hm, h6, State.setOpenMarker, State.setTag, Memory.read_forgetBytes, e1, DocketWrite.markerLeft]

/-! ### The sighting table -/

theorem SightingTable.find_update_same (g : Sig) (f : Record → Record) (hf : ∀ r, (f r).sig = r.sig) (t : SightingTable) :
    (t.update g f).find g = (t.find g).map f := by
  unfold SightingTable.find SightingTable.update
  induction t.records with
  | nil => rfl
  | cons r l ih =>
    by_cases h : r.sig = g
    · simp [h, hf]
    · simp only [List.map_cons, h, if_false, List.find?_cons, beq_eq_false_iff_ne.mpr h]
      exact ih

theorem SightingTable.find_update_other (g k : Sig) (f : Record → Record) (hf : ∀ r, (f r).sig = r.sig) (t : SightingTable) (h : k ≠ g) :
    (t.update g f).find k = t.find k := by
  unfold SightingTable.find SightingTable.update
  induction t.records with
  | nil => rfl
  | cons r l ih =>
    by_cases h1 : r.sig = g
    · have : (f r).sig ≠ k := by rw [hf, h1]; exact Ne.symm h
      have h2 : r.sig ≠ k := by rw [h1]; exact Ne.symm h
      simp only [List.map_cons, h1, if_true, List.find?_cons]
      simp only [beq_eq_false_iff_ne.mpr this, h1 ▸ beq_eq_false_iff_ne.mpr h2]
      exact ih
    · simp only [List.map_cons, h1, if_false, List.find?_cons]
      split
      · rfl
      · exact ih

theorem SightingTable.find_mem (g : Sig) (t : SightingTable) (r : Record) (h : t.find g = some r) : r ∈ t.records ∧ r.sig = g := by
  have h1 := List.mem_of_find?_eq_some h
  have h2 := List.find?_some h
  exact ⟨h1, by simpa using h2⟩

/-- A report of this signature and time is in the table, or the table is full. -/
def SightingTable.Reported (g : Sig) (t : Time) (x : SightingTable) : Prop :=
  (∃ r ∈ x.records, r.sig = g ∧ r.lastReport = t) ∨ 48 ≤ x.records.length

/-- An update that keeps signatures, and newest reports of this time, keeps what is reported. -/
theorem SightingTable.reported_update (k g : Sig) (t : Time) (f : Record → Record)
    (hf : ∀ r, (f r).sig = r.sig ∧ (r.lastReport = t → (f r).lastReport = t)) (x : SightingTable) (h : x.Reported g t) :
    (x.update k f).Reported g t := by
  rcases h with ⟨r, hr, h1, h2⟩ | h
  · refine .inl ⟨if r.sig = k then f r else r, List.mem_map_of_mem hr, ?_⟩
    split <;> simp [hf, h1, h2]
  · exact .inr (by simpa [SightingTable.update] using h)

/-- What an operation may do to the records: change some of them, keeping signatures and moving newest reports only to `t`, and append
others. -/
def SightingTable.Grown (t : Time) (x y : SightingTable) : Prop :=
  ∃ (f : Record → Record) (l : List Record), (∀ r, (f r).sig = r.sig ∧ (r.lastReport = t → (f r).lastReport = t))
    ∧ y.records = x.records.map f ++ l

theorem SightingTable.grown_of_records (t : Time) (x y : SightingTable) (h : y.records = x.records) : x.Grown t y :=
  ⟨id, [], fun _ => ⟨rfl, id⟩, by simp [h]⟩

theorem SightingTable.grown_update (g : Sig) (t : Time) (f : Record → Record)
    (hf : ∀ r, (f r).sig = r.sig ∧ (r.lastReport = t → (f r).lastReport = t)) (x : SightingTable) : x.Grown t (x.update g f) :=
  ⟨fun r => if r.sig = g then f r else r, [], fun r => by dsimp only; split; exacts [hf r, ⟨rfl, id⟩], by simp [SightingTable.update]⟩

theorem SightingTable.Grown.trans {t : Time} {x y z : SightingTable} (h1 : x.Grown t y) (h2 : y.Grown t z) : x.Grown t z := by
  obtain ⟨f, l, hf, h1⟩ := h1
  obtain ⟨g, m, hg, h2⟩ := h2
  exact ⟨g ∘ f, l.map g ++ m, fun r => ⟨by simp [hg, hf], fun h => (hg _).2 ((hf _).2 h)⟩, by simp [h2, h1]⟩

theorem SightingTable.Grown.reported {t : Time} {x y : SightingTable} (h : x.Grown t y) {g : Sig} (r : x.Reported g t) :
    y.Reported g t := by
  obtain ⟨f, l, hf, h⟩ := h
  rcases r with ⟨r, hr, h1, h2⟩ | r
  · exact .inl ⟨f r, by rw [h]; exact List.mem_append_left _ (List.mem_map_of_mem hr), by rw [(hf r).1, h1], (hf r).2 h2⟩
  · exact .inr (by rw [h]; simp; omega)

theorem State.announceOccurrence_grown (p : Profile) (g : Sig) (t : Time) (s : State) : s.table.Grown t (s.announceOccurrence p g t).table := by
  have h : s.table.Grown t (s.offerOccurrence p g t).table := by
    unfold State.offerOccurrence
    split
    · exact SightingTable.grown_of_records _ _ _ rfl
    · simp only [State.setCondition_frame]
      exact SightingTable.grown_update g t Record.leftUnjudged (fun r => ⟨rfl, id⟩) s.table
  refine h.trans (SightingTable.grown_of_records _ _ _ ?_)
  simp [State.announceOccurrence, State.setMaskBit]

theorem State.triggerSnapshot_grown (p : Profile) (g : Sig) (t : Time) (s : State) : s.table.Grown t (s.triggerSnapshot p g t).table := by
  unfold State.triggerSnapshot
  split
  · have h : (s.trigger p g t).1.table = s.table := by simp
    rw [← h]
    exact SightingTable.grown_update g t (fun r => { r with snapshot := (s.trigger p g t).2 }) (fun r => ⟨rfl, id⟩) (s.trigger p g t).1.table
  · exact SightingTable.grown_of_records _ _ _ rfl

/-- A fault report of time `t`: the records grow, and the report is in the table or the table is full. -/
theorem State.faultReport_spec (p : Profile) (g : Sig) (t : Time) (s : State) :
    s.table.Grown t (s.faultReport p g t).table ∧ (s.faultReport p g t).table.Reported g t := by
  unfold State.faultReport
  split
  · split
    · have h := (State.announceOccurrence_grown p g t (s.setTable { s.table with records := s.table.records ++ [Record.created g t s.seq.cycle s.seq.phase] })).trans
        (State.triggerSnapshot_grown p g t _)
      refine ⟨SightingTable.Grown.trans ⟨id, [Record.created g t s.seq.cycle s.seq.phase], fun _ => ⟨rfl, id⟩, by simp⟩ h, h.reported (.inl ⟨Record.created g t s.seq.cycle s.seq.phase, by simp, rfl, rfl⟩)⟩
    · rename_i h1 h2
      simp only [recordLimit] at h2
      refine ⟨SightingTable.grown_of_records _ _ _ (by simp [State.loseReport]), .inr (by simp [State.loseReport]; omega)⟩
  · rename_i r hr
    have hm := s.table.find_mem g r hr
    have key : ∀ f : Record → Record, (∀ r, (f r).sig = r.sig ∧ (f r).lastReport = t) →
        s.table.Grown t (s.table.update g f) ∧ (s.table.update g f).Reported g t := fun f hf =>
      ⟨SightingTable.grown_update g t f (fun r => ⟨(hf r).1, fun _ => (hf r).2⟩) _,
        .inl ⟨f r, by simpa [SightingTable.update] using ⟨r, hm.1, by simp [hm.2]⟩, by rw [(hf r).1, hm.2], (hf r).2⟩⟩
    split
    · exact key _ (fun r => ⟨rfl, rfl⟩)
    · have k := key (Record.opened t) (fun r => ⟨rfl, rfl⟩)
      have h := State.announceOccurrence_grown p g t (s.updateRecord g (Record.opened t))
      exact ⟨k.1.trans h, h.reported k.2⟩

theorem State.faultReports_spec (p : Profile) (cls : Nat) (t : Time) : ∀ (l : List Nat) (s : State),
    s.table.Grown t (s.faultReports p cls l t).table ∧ ∀ d ∈ l, (s.faultReports p cls l t).table.Reported (signature cls d) t
  | [], s => ⟨SightingTable.grown_of_records _ _ _ rfl, fun _ h => by cases h⟩
  | d :: l, s => by
    have h1 := s.faultReport_spec p (signature cls d) t
    have h2 := State.faultReports_spec p cls t l (s.faultReport p (signature cls d) t)
    refine ⟨h1.1.trans h2.1, fun e he => ?_⟩
    rcases List.mem_cons.mp he with rfl | he
    · exact h2.1.reported h1.2
    · exact h2.2 e he

/-! ### Open occurrences dropped -/

theorem SightingTable.foldl_leftUnjudged (l : List Occurrence) (x : SightingTable) :
    l.foldl (fun t o => t.update o.sig Record.leftUnjudged) x
      = { x with records := x.records.map (fun r => { r with unjudged := satInc^[l.countP (fun o => o.sig == r.sig)] r.unjudged }) } := by
  induction l generalizing x with
  | nil => simp
  | cons o l ih =>
    rw [List.foldl_cons, ih]
    simp only [SightingTable.update, List.map_map]
    congr 1
    apply List.map_congr_left
    intro r _
    by_cases h : r.sig = o.sig
    · simp [Record.leftUnjudged, h, Function.iterate_succ]
    · simp [h, Ne.symm h]

/-- Every open occurrence leaves the queue, and its record counts it unjudged. -/
theorem State.dropOccurrences_spec (s : State) :
    s.dropOccurrences = (s.setTable { s.table with
        records := s.table.records.map (fun r => { r with unjudged := satInc^[s.openOf r.sig] r.unjudged }) }).setJudge
      { s.judge with occurrences := [] } := by
  simp only [State.dropOccurrences, SightingTable.foldl_leftUnjudged]
  rfl

/-! ### The roster and the own claim -/

theorem State.tryClaim_spec (p : Profile) (s : State) :
    (budgetSum s.claim.roster + p.weight ≤ p.allowance ∧ s.tryClaim p = (s.handStep (s.ownClaim p)).setClaim { s.claim with state := .queued })
      ∨ (p.allowance < budgetSum s.claim.roster + p.weight ∧ s.tryClaim p = s.setClaim { s.claim with state := .blocked }) := by
  unfold State.tryClaim State.budgetPasses
  split
  · rename_i h; exact .inl ⟨by simpa using h, by simp [State.setClaimState]⟩
  · rename_i h; exact .inr ⟨by simpa using h, rfl⟩

@[simp] theorem State.rosterChanged_roster (r : List RosterEntry) (s : State) : (s.rosterChanged r).claim.roster = r := by
  unfold State.rosterChanged State.sumRose State.sumFell State.setRoster State.setClaimState State.tryClaim
  (repeat' split) <;> simp [State.setClaimState]

/-! ### Phases -/

@[simp] theorem State.changePhase_phase (ph : Phase) (s : State) : (s.changePhase ph).seq.phase = ph := by
  simp [State.changePhase, Sequencer.phaseChanged]

@[simp] theorem State.changePhase_lines (ph : Phase) (s : State) : (s.changePhase ph).seq.lines = ph.lines := by
  simp [State.changePhase, Sequencer.phaseChanged]

@[simp] theorem State.changePhase_counts (ph : Phase) (s : State) :
    (s.changePhase ph).seq.cycle = s.seq.cycle ∧ (s.changePhase ph).seq.done = s.seq.done
      ∧ (s.changePhase ph).seq.endRequest = s.seq.endRequest := by
  simp [State.changePhase, Sequencer.phaseChanged]

@[simp] theorem State.changePhase_rail (ph : Phase) (s : State) :
    (s.changePhase ph).rail.values = s.rail.values ∧ (s.changePhase ph).rail.sag = s.rail.sag
      ∧ (s.changePhase ph).rail.ring = s.rail.ring := by
  simp [State.changePhase, RailMonitor.phaseChanged]

@[simp] theorem State.changePhase_lis (ph : Phase) (s : State) :
    (s.changePhase ph).lis.trace = s.lis.trace ∧ (s.changePhase ph).lis.identity = s.lis.identity
      ∧ (s.changePhase ph).lis.stage = s.lis.stage ∧ (s.changePhase ph).lis.stalled = s.lis.stalled
      ∧ (s.changePhase ph).lis.bitRate = s.lis.bitRate := by
  simp only [State.changePhase, Listener.phaseChanged, State.setLis_lis]
  split <;> simp

theorem Phase.lines_of (ph : Phase) :
    ph.lines.switchClosed = (ph == .ramp || ph == .boot || ph == .stress) ∧ ph.lines.resetAsserted = !(ph == .boot || ph == .stress)
      ∧ ph.lines.strapDriven = (ph == .ramp || ph == .boot || ph == .stress)
      ∧ ph.lines.listenerEnabled = (ph == .boot || ph == .stress) := by
  cases ph <;> decide

/-- The end of a standing claim: a SETTLED handed over and IDLE; with no standing claim nothing. -/
theorem State.endStanding_spec (o : Byte) (s : State) :
    (s.claim.state = .standing
        ∧ s.endStanding o = (s.handStep (Notice.fresh (.settled o) 0#8 s.clock)).setClaim { s.claim with state := .idle })
      ∨ (s.claim.state ≠ .standing ∧ s.endStanding o = s) := by
  unfold State.endStanding
  split
  · rename_i h; exact .inl ⟨h, by simp [State.setClaimState]⟩
  · rename_i h; exact .inr ⟨h, rfl⟩

/-! ### Counts -/

/-- What every event that a count brings keeps, the end of the count keeps. -/
theorem State.settle_keeps (P : State → Prop) (h : ∀ s d, P s → P (Due.take s d)) : ∀ (n : Nat) (s : State), P s → P (s.settle n)
  | 0, _, hs => hs
  | n + 1, s, hs => by
    unfold State.settle
    split
    · exact State.settle_keeps P h n _ (h _ _ hs)
    · exact hs

@[simp] theorem State.settle_pending (n : Nat) (s : State) : (s.settle n).pending = s.pending :=
  State.settle_keeps (fun t => t.pending = s.pending)
    (fun t d h => by rw [← h]; cases d <;> simp only [Due.take] <;> (try split) <;> simp) n s rfl

@[simp] theorem State.settle_clock (n : Nat) (s : State) : (s.settle n).clock = s.clock :=
  State.settle_keeps (fun t => t.clock = s.clock)
    (fun t d h => by rw [← h]; cases d <;> simp only [Due.take] <;> (try split) <;> simp) n s rfl

theorem exec_round (inputs : Eight Int) (i : PanelSample) (tripFirst : Bool) (s : State) (h : s.roundTaken = false) :
    exec (.round inputs i tripFirst) s = .next ((s.roundBegun i).roundHandled (inputs.map convert) tripFirst) := by
  simp [exec, execRound, State.takeRound, State.countForRound, h]

/-- A step is a command taken with the queue's rest, or the passing of a count. -/
theorem step_cases (s t : State) (h : step s = .next t) :
    (s.pending = [] ∧ t = s.idleStep) ∨ ∃ c rest, s.pending = c :: rest ∧ exec c (s.setPending rest) = .next t := by
  unfold step at h
  split at h
  · rename_i h1; exact .inl ⟨h1, (Host.Outcome.next.inj h).symm⟩
  · rename_i c rest h1; exact .inr ⟨c, rest, h1, h⟩

/-- Every command gives a next state. -/
theorem exec_next (c : Instr) (s : State) : ∃ t, exec c s = .next t := by
  cases c <;> exact ⟨_, rfl⟩

end Machine

end Sys2Proof
end

