-- ==== Sys2Proof/WellFormed.lean ====
section
/-! DEFINITION. Which commands the outside world can give: the ranges the spec states for the operands. A meaning is total on the
ill-formed ones too; a statement may assume a command well formed. -/

namespace Sys2Proof

/-- A received notice that has passed the checks of R41 has a source of 1..31. -/
def Header.wellFormed (h : Header) : Bool := decide (1 ≤ h.source.toNat) && decide (h.source.toNat ≤ 31)

/-- An ORDER reaches its row only when it is addressed to one station (R43: target 0 is discarded). -/
def Header.wellFormedOrder (h : Header) : Bool := h.wellFormed && decide (h.target.toNat ≠ 0)

/-- The operand ranges of each command. -/
def Instr.wellFormed : Instr → Bool
  | .powerOnReset _ => true
  | .debounceFirstState => true
  | .buttonPress => true
  | .traySeated => true
  | .trayRemoval => true
  | .fixtureFitted => true
  | .fixtureChange => true
  | .start h _ => h.wellFormedOrder
  | .abort h _ => h.wellFormedOrder
  | .query h _ => h.wellFormedOrder
  | .fetch h _ => h.wellFormedOrder
  | .unknownOperation h op _ => h.wellFormedOrder && (decide (op.toNat = 0) || decide (5 ≤ op.toNat))
  | .claim h _ _ _ => h.wellFormed
  | .withdraw h => h.wellFormed
  | .settled h _ => h.wellFormed
  | .sighting h _ _ _ => h.wellFormed
  | .sag h _ => h.wellFormed
  | .frameDiscarded _ => true
  | .carrierAppears _ => true
  | .endOfCarrier _ => true
  | .quietGapEnd _ => true
  | .collision _ => true
  | .attemptCompletion _ _ => true
  | .jamEnd _ _ => true
  | .backoffEnd _ => true
  | .holdEnd => true
  | .entryExpiry source => decide (1 ≤ source.toNat) && decide (source.toNat ≤ 31)
  | .round _ _ _ => true
  | .rampDeadline => true
  | .onTimeDeadline => true
  | .drainDeadline => true
  | .offTimeDeadline => true
  | .byteReceived _ => true
  | .framingError => true
  | .gapDeadline => true
  | .awaitedStageDeadline => true
  | .pulseDeadline => true
  | .occurrenceClose => true
  | .echoRemoval => true
  | .preSegmentWriteEnd => true
  | .postRoundWriteEnd => true
  | .pieceReadEnd => true
  | .slotHeaderReadEnd _ => true
  | .tagWriteEnd => true
  | .pollAcknowledge => true
  | .pollTimeout => true
  | .tagNoAcknowledge _ => true
  | .profileHeaderReadEnd _ _ => true
  | .imageReadEnd image => decide (64 ≤ image.length) && decide (image.length ≤ 512)
  | .promNoAcknowledge => true
  | .backoffGeneratorAdvance bt => decide (64 ∣ bt)
  | .idleFlagSet => true
  | .buttonRelease => true

/-- The row of spec/opcode_table.json that a command belongs to, counted from 0. -/
def Instr.row : Instr → Nat
  | .powerOnReset _ => 0
  | .debounceFirstState => 1
  | .buttonPress => 2
  | .traySeated => 3
  | .trayRemoval => 4
  | .fixtureFitted => 5
  | .fixtureChange => 6
  | .start _ _ => 7
  | .abort _ _ => 8
  | .query _ _ => 9
  | .fetch _ _ => 10
  | .unknownOperation _ _ _ => 11
  | .claim _ _ _ _ => 12
  | .withdraw _ => 13
  | .settled _ _ => 14
  | .sighting _ _ _ _ => 15
  | .sag _ _ => 16
  | .frameDiscarded _ => 17
  | .carrierAppears _ => 18
  | .endOfCarrier _ => 19
  | .quietGapEnd _ => 20
  | .collision _ => 21
  | .attemptCompletion _ _ => 22
  | .jamEnd _ _ => 23
  | .backoffEnd _ => 24
  | .holdEnd => 25
  | .entryExpiry _ => 26
  | .round _ _ _ => 27
  | .rampDeadline => 28
  | .onTimeDeadline => 29
  | .drainDeadline => 30
  | .offTimeDeadline => 31
  | .byteReceived _ => 32
  | .framingError => 33
  | .gapDeadline => 34
  | .awaitedStageDeadline => 35
  | .pulseDeadline => 36
  | .occurrenceClose => 37
  | .echoRemoval => 38
  | .preSegmentWriteEnd => 39
  | .postRoundWriteEnd => 40
  | .pieceReadEnd => 41
  | .slotHeaderReadEnd _ => 42
  | .tagWriteEnd => 43
  | .pollAcknowledge => 44
  | .pollTimeout => 45
  | .tagNoAcknowledge _ => 46
  | .profileHeaderReadEnd _ _ => 47
  | .imageReadEnd _ => 48
  | .promNoAcknowledge => 49
  | .backoffGeneratorAdvance _ => 50
  | .idleFlagSet => 51
  | .buttonRelease => 52

end Sys2Proof
end

