-- ==== Sys2Proof/Laws/PerInstr.lean ====
section
/-! SUPPORT. The families of statements made command by command. -/

namespace Sys2Proof.Laws

/-- Every row of the table has a well-formed command: the operand ranges of no row shut it out. -/
def Operands.Statement (i : Instr) : Prop := ∃ j : Instr, j.row = i.row ∧ j.wellFormed = true

theorem Operands.powerOnReset (straps : BitVec 5) : Operands.Statement (.powerOnReset straps) := ⟨.powerOnReset straps, rfl, rfl⟩

theorem Operands.debounceFirstState : Operands.Statement .debounceFirstState := ⟨.debounceFirstState, rfl, rfl⟩

theorem Operands.buttonPress : Operands.Statement .buttonPress := ⟨.buttonPress, rfl, rfl⟩

theorem Operands.traySeated : Operands.Statement .traySeated := ⟨.traySeated, rfl, rfl⟩

theorem Operands.trayRemoval : Operands.Statement .trayRemoval := ⟨.trayRemoval, rfl, rfl⟩

theorem Operands.fixtureFitted : Operands.Statement .fixtureFitted := ⟨.fixtureFitted, rfl, rfl⟩

theorem Operands.fixtureChange : Operands.Statement .fixtureChange := ⟨.fixtureChange, rfl, rfl⟩

theorem Operands.start (h : Header) (arg : Byte) : Operands.Statement (.start h arg) := ⟨.start ⟨0, 30#8, 9#8, 0#16⟩ 0#8, rfl, rfl⟩

theorem Operands.abort (h : Header) (arg : Byte) : Operands.Statement (.abort h arg) := ⟨.abort ⟨0, 30#8, 9#8, 0#16⟩ 0#8, rfl, rfl⟩

theorem Operands.query (h : Header) (arg : Byte) : Operands.Statement (.query h arg) := ⟨.query ⟨0, 30#8, 9#8, 0#16⟩ 0#8, rfl, rfl⟩

theorem Operands.fetch (h : Header) (arg : Byte) : Operands.Statement (.fetch h arg) := ⟨.fetch ⟨0, 30#8, 9#8, 0#16⟩ 0#8, rfl, rfl⟩

theorem Operands.unknownOperation (h : Header) (op arg : Byte) : Operands.Statement (.unknownOperation h op arg) := ⟨.unknownOperation ⟨0, 30#8, 9#8, 0#16⟩ 5#8 0#8, rfl, rfl⟩

theorem Operands.claim (h : Header) (weight : Byte) (duration : BitVec 16) (cycle : Byte) : Operands.Statement (.claim h weight duration cycle) := ⟨.claim ⟨0, 30#8, 0#8, 0#16⟩ weight duration cycle, rfl, rfl⟩

theorem Operands.withdraw (h : Header) : Operands.Statement (.withdraw h) := ⟨.withdraw ⟨0, 30#8, 0#8, 0#16⟩, rfl, rfl⟩

theorem Operands.settled (h : Header) (outcome : Byte) : Operands.Statement (.settled h outcome) := ⟨.settled ⟨0, 30#8, 0#8, 0#16⟩ outcome, rfl, rfl⟩

theorem Operands.sighting (h : Header) (sig : Sig) (cycle phase : Byte) : Operands.Statement (.sighting h sig cycle phase) := ⟨.sighting ⟨0, 30#8, 0#8, 0#16⟩ sig cycle phase, rfl, rfl⟩

theorem Operands.sag (h : Header) (bus : BitVec 16) : Operands.Statement (.sag h bus) := ⟨.sag ⟨0, 30#8, 0#8, 0#16⟩ bus, rfl, rfl⟩

theorem Operands.frameDiscarded (frame : ReceivedFrame) : Operands.Statement (.frameDiscarded frame) := ⟨.frameDiscarded frame, rfl, rfl⟩

theorem Operands.carrierAppears (bt : Nat) : Operands.Statement (.carrierAppears bt) := ⟨.carrierAppears bt, rfl, rfl⟩

theorem Operands.endOfCarrier (bt : Nat) : Operands.Statement (.endOfCarrier bt) := ⟨.endOfCarrier bt, rfl, rfl⟩

theorem Operands.quietGapEnd (bt : Nat) : Operands.Statement (.quietGapEnd bt) := ⟨.quietGapEnd bt, rfl, rfl⟩

theorem Operands.collision (bt : Nat) : Operands.Statement (.collision bt) := ⟨.collision bt, rfl, rfl⟩

theorem Operands.attemptCompletion (bt : Nat) (alertFirst : Bool) : Operands.Statement (.attemptCompletion bt alertFirst) := ⟨.attemptCompletion bt alertFirst, rfl, rfl⟩

theorem Operands.jamEnd (bt : Nat) (alertFirst : Bool) : Operands.Statement (.jamEnd bt alertFirst) := ⟨.jamEnd bt alertFirst, rfl, rfl⟩

theorem Operands.backoffEnd (bt : Nat) : Operands.Statement (.backoffEnd bt) := ⟨.backoffEnd bt, rfl, rfl⟩

theorem Operands.holdEnd : Operands.Statement .holdEnd := ⟨.holdEnd, rfl, rfl⟩

theorem Operands.entryExpiry (source : Byte) : Operands.Statement (.entryExpiry source) := ⟨.entryExpiry 1#8, rfl, rfl⟩

theorem Operands.round (inputs : Eight Int) (panel : PanelSample) (tripFirst : Bool) : Operands.Statement (.round inputs panel tripFirst) := ⟨.round inputs panel tripFirst, rfl, rfl⟩

theorem Operands.rampDeadline : Operands.Statement .rampDeadline := ⟨.rampDeadline, rfl, rfl⟩

theorem Operands.onTimeDeadline : Operands.Statement .onTimeDeadline := ⟨.onTimeDeadline, rfl, rfl⟩

theorem Operands.drainDeadline : Operands.Statement .drainDeadline := ⟨.drainDeadline, rfl, rfl⟩

theorem Operands.offTimeDeadline : Operands.Statement .offTimeDeadline := ⟨.offTimeDeadline, rfl, rfl⟩

theorem Operands.byteReceived (b : Byte) : Operands.Statement (.byteReceived b) := ⟨.byteReceived b, rfl, rfl⟩

theorem Operands.framingError : Operands.Statement .framingError := ⟨.framingError, rfl, rfl⟩

theorem Operands.gapDeadline : Operands.Statement .gapDeadline := ⟨.gapDeadline, rfl, rfl⟩

theorem Operands.awaitedStageDeadline : Operands.Statement .awaitedStageDeadline := ⟨.awaitedStageDeadline, rfl, rfl⟩

theorem Operands.pulseDeadline : Operands.Statement .pulseDeadline := ⟨.pulseDeadline, rfl, rfl⟩

theorem Operands.occurrenceClose : Operands.Statement .occurrenceClose := ⟨.occurrenceClose, rfl, rfl⟩

theorem Operands.echoRemoval : Operands.Statement .echoRemoval := ⟨.echoRemoval, rfl, rfl⟩

theorem Operands.preSegmentWriteEnd : Operands.Statement .preSegmentWriteEnd := ⟨.preSegmentWriteEnd, rfl, rfl⟩

theorem Operands.postRoundWriteEnd : Operands.Statement .postRoundWriteEnd := ⟨.postRoundWriteEnd, rfl, rfl⟩

theorem Operands.pieceReadEnd : Operands.Statement .pieceReadEnd := ⟨.pieceReadEnd, rfl, rfl⟩

theorem Operands.slotHeaderReadEnd (slots : SlotHeaders) : Operands.Statement (.slotHeaderReadEnd slots) := ⟨.slotHeaderReadEnd slots, rfl, rfl⟩

theorem Operands.tagWriteEnd : Operands.Statement .tagWriteEnd := ⟨.tagWriteEnd, rfl, rfl⟩

theorem Operands.pollAcknowledge : Operands.Statement .pollAcknowledge := ⟨.pollAcknowledge, rfl, rfl⟩

theorem Operands.pollTimeout : Operands.Statement .pollTimeout := ⟨.pollTimeout, rfl, rfl⟩

theorem Operands.tagNoAcknowledge (atStart : Bool) : Operands.Statement (.tagNoAcknowledge atStart) := ⟨.tagNoAcknowledge atStart, rfl, rfl⟩

theorem Operands.profileHeaderReadEnd (hi lo : Byte) : Operands.Statement (.profileHeaderReadEnd hi lo) := ⟨.profileHeaderReadEnd hi lo, rfl, rfl⟩

theorem Operands.imageReadEnd (image : List Byte) : Operands.Statement (.imageReadEnd image) := ⟨.imageReadEnd (List.replicate 64 0#8), rfl, rfl⟩

theorem Operands.promNoAcknowledge : Operands.Statement .promNoAcknowledge := ⟨.promNoAcknowledge, rfl, rfl⟩

theorem Operands.backoffGeneratorAdvance (bt : Nat) : Operands.Statement (.backoffGeneratorAdvance bt) := ⟨.backoffGeneratorAdvance 64, rfl, rfl⟩

theorem Operands.idleFlagSet : Operands.Statement .idleFlagSet := ⟨.idleFlagSet, rfl, rfl⟩

theorem Operands.buttonRelease : Operands.Statement .buttonRelease := ⟨.buttonRelease, rfl, rfl⟩

end Sys2Proof.Laws
end

