-- ==== Sys2Proof/Tests/Slice0.lean ====
section
/-! SUPPORT. The model's own tests: the spec's worked examples, the checks on ill-formed commands, what reset leaves, and for each statement
with hypotheses a state and operands that meet them, clause by clause. -/

namespace Sys2Proof.Tests

-- One theorem at a time: elaborating all of them at once opens a thread with a large stack for each.
set_option Elab.async false

open Sys2Proof.Machine

/-! ### States that the tests share: station 9, 1000 ms after power-on -/

/-- A profile with the figures of sections 3.3.1, 5.7.1 and 6.3.1. Class 10 has its snapshot flag, class 2 is supply-sensitive. -/
def prof : Profile :=
  { profileTag := 0x1234#16, allowance := 400, weight := 120, duration := 1500, cycles := 3, onTime := 10, offTime := 1, drainTimeout := 300,
    window := 20, holdOff := 5, quorum := 2, rearm := 100, stopOnFail := true, suspectLimit := 3, tripLimit := 5000, tripDwell := 2,
    sagThreshold := 22000, sagDwell := 2, sagHysteresis := 1500, baudCode := 3, leadByte := 0xA5#8, identityCode := 0x0100#16,
    pulseCode := 0x0300#16, pulseInterval := 2000, errorLow := 0x4000, errorHigh := 0x40FF, preRounds := 2, postRounds := 1,
    watchPreset := 0#64,
    classes := [⟨3, false, false⟩, ⟨3, true, false⟩, ⟨3, false, false⟩, ⟨3, false, false⟩, ⟨0, false, false⟩, ⟨2, false, false⟩,
      ⟨0, false, false⟩, ⟨0, false, false⟩, ⟨0, false, false⟩, ⟨1, false, true⟩, ⟨0, false, false⟩],
    channels := Eight.all
      { scale := 1000, low := 3000, high := 3500, offLevel := 200, dwell := 2, windowFlag := true, rampFlag := true, offFlag := true },
    stageCount := 2, stages := [⟨0x0201#16, 200⟩, ⟨0x0202#16, 100⟩] }

/-- READY with a tray seated, and a line read since 900 bit times. -/
def ready : State :=
  let s := State.powerOn 9#5
  { s with
    clock := 1000#32, profile := some prof, run := { s.run with state := .ready }, port := { s.port with framer := .hunting 900 }
    panel := { s.panel with samples := 20, firstTaken := true, seat := ⟨true, true, 0⟩, fixture := ⟨true, true, 0⟩ } }

/-- UNCONFIGURED with the first states taken. -/
def bare : State := { ready with profile := none, run := { ready.run with state := .unconfigured } }

/-- RUNNING in a phase. -/
def inPhase (ph : Phase) : State :=
  { ready with run := { ready.run with state := .running }, seq := { ready.seq with phase := ph, lines := ph.lines, cycle := 1#8 } }

/-- RUNNING in a phase with an own claim state. -/
def claiming (ph : Phase) (c : ClaimState) : State := { inPhase ph with claim := { roster := [], state := c } }

/-- A notice from station 5, 3 ms old, whose sync pattern began at bit time 900. -/
def hdr (target : Byte) : Header := { sync := 900, source := 5#8, target := target, age := 3#16 }

def sagNotice : Notice := Notice.fresh (.sag 21300#16) 0#8 1000#32
def statusNotice : Notice := Notice.fresh (.status false none) 5#8 1000#32
def claimNotice : Notice := Notice.fresh (.claim 120#8 1500#16 1#8) 0#8 1000#32
def alertNotice : Notice := Notice.fresh (.status true none) 0#8 1000#32
def detailNotice : Notice := Notice.fresh (.detail []) 5#8 1000#32

/-- The port in a transmit state with a queue. -/
def withPort (tx : TxState) (gap : Gap) (queue : List Notice) (s : State) : State :=
  { s with port := { s.port with tx := tx, gap := gap, queue := queue } }

/-- An outbound queue with no room for a non-step notice. -/
def full (s : State) : State := withPort .defer (.since 0) (List.replicate 14 sagNotice) s

/-- The eight inputs all at one code. -/
def codes (x : Int) : Eight Int := Eight.all x

def idlePanel : PanelSample := ⟨true, false, true⟩

def testRecord : Record := Record.created 0xA000#16 900#32 1#8 .boot

/-- A COMPLETE slot of 25 content bytes. -/
def completeSlot : Snapshot :=
  { complete := true, sig := 0x1004#16, time := 5#32, preCount := 1, postCount := 0, postTaken := 0, traceCount := 0,
    headBytes := List.replicate 25 0#8, postBytes := [], traceBytes := [], checksum := 0#32 }

def beginSlot (post : Nat) : Snapshot := Snapshot.begun 0x1004#16 5#32 0 post 0

def withSlot (x : Snapshot) (e : Engine) (port : PortHolder) (r : Option Readout) (s : State) : State :=
  { s with store := { s.store with slots := s.store.slots.set 0 (some x), engine := e, port := port, readout := r } }

def hearing (ph : Phase) (x : Parser) : State := { inPhase ph with lis := { (inPhase ph).lis with idleFlag := true, parser := x } }

def occ (sig : Sig) (closeTime : Time) : Occurrence := { sig := sig, time := 900#32, closeTime := closeTime, matched := [], sagFlag := false }

def testSummary : Summary :=
  { records := 0, occurrences := 0, localTotal := 0, commonTotal := 0, unjudgedTotal := 0, lateTotal := 0, leading := [], done := 3#8,
    identity := none }

def docketWrite (number : Nat) (poll : Option Time) : DocketWrite :=
  { slot := 3, docket := List.replicate 64 0#8, summary := testSummary, number := number, poll := poll }

def closingAt (c : Closing) : State := { ready with run := { ready.run with state := .closing }, closing := c }

/-! ### The spec's worked examples -/

/-- Section 1.1.1: a deadline across the wrap. -/
theorem test_deadline_across_the_wrap :
    timeAfter 4294967200#32 300 = 204#32 ∧ expired 4294967295#32 204#32 = false ∧ expired 203#32 204#32 = false
      ∧ expired 204#32 204#32 = true := by decide +kernel

/-- Section 2.4.1: the generator of station 9. -/
theorem test_generator_of_station_9 :
    generatorSeed 9#5 = 0x482D#16 ∧ generatorNext 0x482D#16 = 0x905A#16 ∧ generatorNext 0x905A#16 = 0x20B4#16
      ∧ generatorNext 0x20B4#16 = 0x4169#16 ∧ ready.draw 1 = 1 ∧ ready.draw 2 = 1 ∧ ready.draw 3 = 5 := by decide +kernel

/-- Section 2.3.1: carrier in the re-timed part stops the gap (bit times at 2 Mbit/s), carrier in the committed part is ignored. -/
theorem test_gap_timed_twice :
    ((withPort .defer (.since 0) [sagNotice] ready).port.carrierAppears 20).gap = .stopped
      ∧ ((((withPort .defer (.since 0) [sagNotice] ready).port.carrierAppears 20).endOfCarrier 36).carrierAppears 73).gap = .since 36 := by
  decide +kernel

/-- Section 2.5.1: a WITHDRAW passes the notices behind the current one, a CLAIM those of a queue with none current. -/
theorem test_step_notice_overtakes :
    ({ (withPort .defer (.since 0) [sagNotice, statusNotice, detailNotice] ready).port with current := true } : LinePort).withStep
        (Notice.fresh .withdraw 0#8 0#32) = [sagNotice, Notice.fresh .withdraw 0#8 0#32, statusNotice, detailNotice]
      ∧ (withPort .defer (.since 0) [statusNotice, detailNotice] ready).port.withStep claimNotice
        = [claimNotice, statusNotice, detailNotice] := by decide +kernel

/-- Section 2.6.1: the age of a delayed sighting. -/
theorem test_age_of_delayed_sighting : noticeAge 120511#32 120500#32 = 11#16 ∧ noticeAge 120512#32 120500#32 = 12#16 := by decide +kernel

/-- R22: the shortest notice is 80 bits long, a notice of four payload bytes 112 (section 2.4.2). -/
theorem test_frame_lengths :
    frameBits (frameBytes 9#8 0#32 (Notice.fresh .withdraw 0#8 0#32)) = 80
      ∧ frameBits (frameBytes 9#8 0#32 (Notice.fresh (.sighting 0x1004#16 1#8 4#8) 0#8 0#32)) = 112 := by decide +kernel

/-- Section 3.1.1: the CLAIM of station 11 at 40,120 with D 1,800 expires at 42,120, and a second replaces it. -/
theorem test_roster_example :
    (exec (.claim ⟨900, 11#8, 0#8, 0#16⟩ 60#8 900#16 1#8)
        { ready with clock := 40300#32, claim := { ready.claim with roster := [⟨11#8, 110#8, 1800#16, 40120#32, 42120#32⟩] } }
      = .next { ready with clock := 40300#32, claim := { ready.claim with roster := [⟨11#8, 60#8, 900#16, 40300#32, 41400#32⟩] } }) := by
  rfl

/-- Section 3.3.1: at S = 350 the queued CLAIM is cancelled and the station is BLOCKED. -/
theorem test_budget_rise_cancels :
    (((inPhase .waiting).setClaim { roster := [⟨4#8, 150#8, 0#16, 0#32, 0#32⟩, ⟨11#8, 110#8, 0#16, 0#32, 0#32⟩], state := .queued }).rosterChanged
      [⟨4#8, 150#8, 0#16, 0#32, 0#32⟩, ⟨11#8, 110#8, 0#16, 0#32, 0#32⟩, ⟨15#8, 90#8, 0#16, 0#32, 0#32⟩]).claim.state = .blocked := by
  decide +kernel

/-- Section 3.3.2: a hold drawn with k = 5 at 800,000 runs to 800,120. -/
theorem test_yield_hold : ({ ready with clock := 800000#32 } : State).holdDeadline = 800120#32 := by decide +kernel

/-- Section 5.1.1: scaling and its rounding boundary. -/
theorem test_scaling :
    scaled 2703#12 1221 = 3300 ∧ scaled 1875#12 2442 = 4579 ∧ scaled 1#12 500 = 1 ∧ scaled 1#12 499 = 0 ∧ scaled 4095#12 65535 = 268366 := by
  decide +kernel

/-- R80: inputs outside the converter's range. -/
theorem test_conversion_clips : convert (-1) = 0#12 ∧ convert 4096 = 4095#12 ∧ convert 2703 = 2703#12 := by decide +kernel

/-- Section 5.7.1: a value equal to the threshold returns the count to 0; below it the dwell confirms the sag and BLOCKED becomes HELD. -/
theorem test_sag_boundary :
    (((claiming .waiting .blocked).setRail { ready.rail with sag := .armed 1, values := Eight.all 22000 }).sagCheck prof).rail.sag = .armed 0 := by
  decide +kernel

theorem test_sag_holds_blocked :
    (((claiming .waiting .blocked).setRail { ready.rail with sag := .armed 1, values := Eight.all 21300 }).sagCheck prof).claim.state
      = .held 1120#32 := by decide +kernel

/-- Section 6.3.1: a lead byte at 509,800 begins a mark with the gap deadline 509,811. -/
theorem test_lead_byte_begins_mark :
    (({ hearing .boot .hunt with clock := 509800#32 } : State).byteReceived 0xA5#8).lis.parser = .codeHi
      ∧ (({ hearing .boot .hunt with clock := 509800#32 } : State).byteReceived 0xA5#8).lis.gapDeadline = some 509811#32 := by
  decide +kernel

/-- Section 6.3.1: code 0x0201 = S[0] is an advance to k = 0, and code 0x4012 a class 11 report 0xB012. -/
theorem test_codes_classified :
    ((hearing .boot (.codeLo 0x02#8)).byteReceived 0x01#8).lis.stage = 0
      ∧ ((hearing .boot (.codeLo 0x40#8)).byteReceived 0x12#8).table.records.map Record.sig = [0xB012#16] := by decide +kernel

/-- Section 6.5.1: S[0] with a maximum wait of 200 units, awaited from 501,210, has the deadline 521,211. -/
theorem test_stage_deadline : ({ ready with clock := 501210#32 } : State).stageDeadline prof 0 = some 521211#32 := by decide +kernel

/-- Section 7.5.1: the hash of 0x1004. -/
theorem test_hash_of_1004 :
    crcByte 0xFFFF#16 0x10#8 = 0xF3C1#16 ∧ crc16 [0x10#8, 0x04#8] = 0x5EF8#16 ∧ hash6 0x1004#16 = 23 := by decide +kernel

/-- Section 9.2.1: the checksum of a header. -/
theorem test_header_checksum : byteSum (Snapshot.begun 0x1004#16 120500#32 64 32 128).header = 639#32 := by decide +kernel

/-- The records of section 10.1.1, by signature, first seen, occurrences, local and common count. -/
def verdictTable : List Record :=
  [(0x1004#16, 120500#32, 2, 1, 1), (0x8001#16, 1120050#32, 2, 2, 0), (0x6003#16, 1144001#32, 1, 1, 0), (0x4006#16, 1702019#32, 1, 1, 0),
      (0x1003#16, 2700400#32, 3, 1, 2)].map
    (fun r => { Record.created r.1 r.2.1 1#8 .stress with occurrences := r.2.2.1, localCount := r.2.2.2.1, commonCount := r.2.2.2.2 })

/-- Section 10.1.1: the verdict, the totals and the leading records. -/
theorem test_verdict_example :
    ∀ s, s = ({ ready with run := { ready.run with startTime := 1000#32 }, table := { ready.table with records := verdictTable } } : State) →
      s.verdictOf prof = .suspect ∧ s.summary.occurrences = 9 ∧ s.summary.localTotal = 6 ∧ s.summary.commonTotal = 3
        ∧ s.summary.leading.map LeadingRecord.sig = [0x8001#16, 0x1003#16, 0x1004#16, 0x6003#16] := by
  rintro s rfl; decide +kernel

/-- Section 10.2.1: the six rows of the target table; an empty slot is written here with marker 0x00. -/
theorem test_tag_plans :
    tagPlan ⟨⟨0xC5#8, 15#8⟩, ⟨0xC5#8, 16#8⟩, ⟨0xC5#8, 17#8⟩, ⟨0xC5#8, 14#8⟩⟩ = (3, 18#8)
      ∧ tagPlan ⟨⟨0#8, 0#8⟩, ⟨0#8, 0#8⟩, ⟨0#8, 0#8⟩, ⟨0#8, 0#8⟩⟩ = (0, 0#8)
      ∧ tagPlan ⟨⟨0xC5#8, 0#8⟩, ⟨0xC5#8, 253#8⟩, ⟨0xC5#8, 254#8⟩, ⟨0xC5#8, 255#8⟩⟩ = (1, 1#8)
      ∧ tagPlan ⟨⟨0xC5#8, 15#8⟩, ⟨0xC5#8, 16#8⟩, ⟨0#8, 17#8⟩, ⟨0xC5#8, 14#8⟩⟩ = (2, 17#8)
      ∧ tagPlan ⟨⟨0xC5#8, 3#8⟩, ⟨0#8, 0#8⟩, ⟨0xC5#8, 10#8⟩, ⟨0#8, 0#8⟩⟩ = (3, 11#8)
      ∧ tagPlan ⟨⟨0xC5#8, 7#8⟩, ⟨0xC5#8, 7#8⟩, ⟨0#8, 0#8⟩, ⟨0#8, 0#8⟩⟩ = (1, 8#8) := by decide +kernel

/-- Section 10.4.1: the poll deadline of write 4 is 10 ms from its end, and its timeout sets TAG_FAILED. -/
theorem test_poll_timeout :
    ({ closingAt (.write (docketWrite 4 none)) with clock := 2710018#32 } : State).tagWriteEnd.closing
        = .write (docketWrite 4 (some 2710028#32))
      ∧ ({ closingAt (.write (docketWrite 4 (some 2710028#32))) with clock := 2710028#32 } : State).pollTimeout.run.conds.tagFailed = true
      ∧ ({ closingAt (.write (docketWrite 4 (some 2710028#32))) with clock := 2710027#32 } : State).pollTimeout.run.conds.tagFailed = false := by
  decide +kernel

/-- R183: bit 0 is PROFILE_BAD and bit 10 ABORTED. -/
theorem test_condition_bits :
    (Conditions.clear.put .profileBad true).bits = 1#16 ∧ (Conditions.clear.put .aborted true).bits = 0x400#16 := by decide +kernel

/-- R18: a blinking lamp shines while the clock divided by 500 is even. -/
theorem test_blinking : Lamp.shines 499#32 .blinking = true ∧ Lamp.shines 500#32 .blinking = false ∧ Lamp.shines 1000#32 .blinking = true := by
  decide +kernel

/-! ### Reset -/

/-- What power-on reset leaves (R2, R4, R61, R169). -/
theorem test_reset :
    State.reset.clock = 0#32 ∧ State.reset.run.state = .unconfigured ∧ State.reset.seq.phase = .off ∧ State.reset.pending = []
      ∧ State.reset.port.generator = 1#16 ∧ State.reset.seq.lines.resetAsserted = true := by decide +kernel

theorem test_reset_invariants :
    State.reset.WithinCapacity ∧ State.reset.LinesOfPhase ∧ State.reset.GeneratorAlive ∧ State.reset.TagCanonical ∧ State.reset.Accounted := by
  unfold State.WithinCapacity State.LinesOfPhase State.GeneratorAlive State.TagCanonical State.Accounted
  decide +kernel

/-- The machine takes the commands of its queue in their order, and then idles. -/
theorem test_queue_in_order :
    step { State.reset with pending := [.powerOnReset 3#5, .idleFlagSet] } = .next { State.powerOn 3#5 with pending := [.idleFlagSet] }
      ∧ step State.reset = .next State.reset := ⟨rfl, rfl⟩

/-! ### Ill-formed commands are refused by the checks -/

theorem test_source_0_ill_formed : (Instr.claim ⟨900, 0#8, 0#8, 0#16⟩ 1#8 1#16 1#8).wellFormed = false := by decide
theorem test_source_32_ill_formed : (Instr.withdraw ⟨900, 32#8, 0#8, 0#16⟩).wellFormed = false := by decide
theorem test_source_of_settled_ill_formed : (Instr.settled ⟨900, 32#8, 0#8, 0#16⟩ 0#8).wellFormed = false := by decide
theorem test_source_of_sighting_ill_formed : (Instr.sighting ⟨900, 0#8, 0#8, 0#16⟩ 0x1004#16 1#8 4#8).wellFormed = false := by decide
theorem test_source_of_sag_ill_formed : (Instr.sag ⟨900, 255#8, 0#8, 0#16⟩ 0#16).wellFormed = false := by decide
theorem test_order_to_all_ill_formed :
    (Instr.start (hdr 0#8) 0#8).wellFormed = false ∧ (Instr.abort (hdr 0#8) 0#8).wellFormed = false
      ∧ (Instr.query (hdr 0#8) 0#8).wellFormed = false ∧ (Instr.fetch (hdr 0#8) 0#8).wellFormed = false := by decide
theorem test_known_operations_ill_formed :
    (Instr.unknownOperation (hdr 9#8) 1#8 0#8).wellFormed = false ∧ (Instr.unknownOperation (hdr 9#8) 4#8 0#8).wellFormed = false
      ∧ (Instr.unknownOperation (hdr 9#8) 5#8 0#8).wellFormed = true ∧ (Instr.unknownOperation (hdr 9#8) 0#8 0#8).wellFormed = true := by decide
theorem test_expiry_of_no_station_ill_formed :
    (Instr.entryExpiry 0#8).wellFormed = false ∧ (Instr.entryExpiry 32#8).wellFormed = false ∧ (Instr.entryExpiry 31#8).wellFormed = true := by
  decide
theorem test_image_lengths :
    (Instr.imageReadEnd (List.replicate 63 0#8)).wellFormed = false ∧ (Instr.imageReadEnd (List.replicate 513 0#8)).wellFormed = false
      ∧ (Instr.imageReadEnd (List.replicate 64 0#8)).wellFormed = true := by decide +kernel
theorem test_advance_between_slots_ill_formed : (Instr.backoffGeneratorAdvance 65).wellFormed = false := by decide

/-! ### The hypotheses of each statement are met, clause by clause -/

theorem reaches_order : Reaches (hdr 9#8) true ready ∧ Reaches (hdr 9#8) true bare ∧ Reaches (hdr 9#8) true (inPhase .boot)
    ∧ Reaches (hdr 9#8) true (closingAt .headers) := by unfold Reaches; simp only [heard_iff]; decide +kernel

/-- To all stations, and to this one; from the lowest and the highest peer. -/
theorem reaches_notice :
    Reaches (hdr 0#8) false ready ∧ Reaches (hdr 9#8) false ready ∧ Reaches ⟨900, 1#8, 0#8, 65535#16⟩ false ready
      ∧ Reaches ⟨900, 31#8, 0#8, 0#16⟩ false ready := by unfold Reaches; simp only [heard_iff]; decide +kernel

theorem hyps_IdleStepPassesTime :
    ready.pending = [] ∧ ready.roundTaken = false ∧ ({ ready with roundTaken := true } : State).roundTaken = true := by decide +kernel

theorem hyps_DebounceFirstState :
    (∀ s, s = ({ State.reset with panel := { State.reset.panel with samples := 20 } } : State) →
        20 ≤ s.panel.samples ∧ s.panel.firstTaken = false)
      ∧ State.reset.panel.samples < 20 ∧ ready.panel.firstTaken = true := by
  refine ⟨?_, by decide +kernel, by decide +kernel⟩; rintro s rfl; decide +kernel

/-- An input whose raw level has differed for so many samples from the level it would leave. -/
def edging (d : Debounce) (n : Nat) : Debounce := { d with raw := !d.level, differing := n }

def unseating (s : State) : State := { s with panel := { s.panel with seat := ⟨true, false, 20⟩ } }

def pressing (s : State) : State := { s with panel := { s.panel with button := ⟨false, true, 20⟩ } }

theorem hyps_PanelEdges :
    (∀ d l, ¬EdgeDue ready ⟨d, l, 19⟩ true ∧ ¬EdgeDue ready ⟨d, l, 19⟩ false)
      ∧ EdgeDue { ready with panel := { ready.panel with button := ⟨true, false, 20⟩ } } ⟨true, false, 20⟩ false
      ∧ EdgeDue { ready with panel := { ready.panel with seat := ⟨false, true, 20⟩ } } ⟨false, true, 20⟩ true
      ∧ EdgeDue { bare with panel := { bare.panel with fixture := ⟨false, true, 20⟩ } } ⟨false, true, 20⟩ true
      ∧ bare.run.state = .unconfigured ∧ ready.run.state ≠ .unconfigured := by
  unfold EdgeDue; decide +kernel

theorem hyps_ButtonPressByRunState :
    (∀ s ∈ [bare, ready, inPhase .boot, closingAt .headers], EdgeDue (pressing s) (pressing s).panel.button true
        ∧ Reaches (hdr 9#8) true (pressing s))
      ∧ (pressing bare).run.state = .unconfigured ∧ (pressing bare).load = .idle
      ∧ (pressing { bare with load := .header }).load ≠ .idle ∧ (pressing ready).run.state = .ready
      ∧ (pressing (inPhase .boot)).run.state = .running := by
  unfold EdgeDue Reaches; simp only [heard_iff]; decide +kernel

/-- READY in standalone. -/
def aloneReady : State := { ready with port := { ready.port with stationId := 0#5 } }

theorem hyps_StartAccepted :
    StartFinds (.start (hdr 9#8) 0#8) ready ready ∧ StartFinds .buttonPress (pressing ready) (pressing ready).buttonDown
      ∧ StartFinds .buttonPress (pressing aloneReady) (pressing aloneReady).buttonDown ∧ aloneReady.port.stationId = 0#5
      ∧ (pressing aloneReady).profile = some prof ∧ (pressing aloneReady).run.state = .ready ∧ aloneReady.rail.sag = .armed 0
      ∧ aloneReady.claim.state = .idle ∧ ready.profile = some prof ∧ ready.run.state = .ready ∧ ready.panel.seat.level = true := by
  refine ⟨.inl ⟨_, _, rfl, by unfold Reaches; simp only [heard_iff]; decide +kernel, rfl⟩, .inr ⟨rfl, by unfold EdgeDue; decide +kernel, by decide, rfl⟩,
    .inr ⟨rfl, by unfold EdgeDue; decide +kernel, by decide, rfl⟩, by decide +kernel⟩

theorem hyps_StartJudged :
    bare.run.state = .unconfigured ∧ (inPhase .boot).run.state = .running ∧ (closingAt .headers).run.state = .closing
      ∧ ready.profile ≠ none ∧ ({ ready with panel := { ready.panel with seat := ⟨false, false, 0⟩ } } : State).panel.seat.level = false
      ∧ StartFinds (.start (hdr 9#8) 0#8) bare bare ∧ StartFinds (.start (hdr 9#8) 0#8) (inPhase .boot) (inPhase .boot)
      ∧ StartFinds .buttonPress (pressing (closingAt .headers)) (pressing (closingAt .headers)).buttonDown := by
  refine ⟨rfl, rfl, rfl, by decide +kernel, rfl, .inl ⟨_, _, rfl, by unfold Reaches; simp only [heard_iff]; decide +kernel, rfl⟩,
    .inl ⟨_, _, rfl, by unfold Reaches; simp only [heard_iff]; decide +kernel, rfl⟩, .inr ⟨rfl, by unfold EdgeDue; decide +kernel, by decide, rfl⟩⟩

theorem hyps_AbortTaken :
    (∀ ph ∈ [Phase.waiting, .ramp, .boot, .stress, .drain, .rest],
        Reaches (hdr 9#8) true (inPhase ph) ∧ (inPhase ph).profile = some prof ∧ (inPhase ph).run.state = .running ∧ (inPhase ph).seq.phase = ph
          ∧ EdgeDue (pressing (inPhase ph)) (pressing (inPhase ph)).panel.button true)
      ∧ (claiming .ramp .standing).claim.state = .standing ∧ ready.run.state ≠ .running := by
  unfold Reaches EdgeDue; simp only [heard_iff]; decide +kernel

theorem abortFinds (ph : Phase) :
    AbortFinds (.abort (hdr 9#8) 0#8) (inPhase ph) (inPhase ph) ∧ AbortFinds .buttonPress (pressing (inPhase ph)) (pressing (inPhase ph)).buttonDown := by
  refine ⟨⟨rfl, .inl ⟨_, _, rfl, ?_, rfl⟩⟩, ⟨rfl, .inr ⟨rfl, ?_, rfl⟩⟩⟩
  · unfold Reaches; simp only [heard_iff]; cases ph <;> decide +kernel
  · unfold EdgeDue; cases ph <;> decide +kernel

theorem hyps_OtherOrders :
    Room ready ∧ ¬Room (full ready) ∧ Reaches (hdr 9#8) true (full ready)
      ∧ (withSlot completeSlot .idle .free none ready).store.slots.get 0 = some completeSlot ∧ completeSlot.complete = true
      ∧ ready.store.slots.get 7 = none ∧ (withSlot (beginSlot 1) .idle .free none ready).store.slots.get 0 = some (beginSlot 1)
      ∧ (beginSlot 1).complete = false ∧ 8 ≤ (8#8 : Byte).toNat ∧ (0#8 : Byte).toNat = 0 ∧ 5 ≤ (5#8 : Byte).toNat := by
  unfold Room Reaches; simp only [heard_iff]; decide +kernel

theorem hyps_NoticeChecks :
    noticeHeader (.withdraw (hdr 0#8)) = some (hdr 0#8, false) ∧ State.reset.port.stationId = 0#5
      ∧ (withPort (.send 0 []) (.since 0) [sagNotice] ready).port.onWire = true ∧ (0#8 : Byte).toNat = 0 ∧ 31 < (32#8 : Byte).toNat
      ∧ ready.port.stationId ≠ 0#5 ∧ ready.port.onWire = false ∧ (9#8 : Byte) = ready.ownId ∧ (5#8 : Byte) ≠ ready.ownId
      ∧ (10#8 : Byte) ≠ ready.ownId ∧ ready.port.framer = .hunting 900 ∧ (899 : Int) < 900 ∧ Heard (hdr 9#8).sync ready ∧ (hdr 10#8).target ≠ 0#8
      ∧ ready.run.conds.idClash = false ∧ ready.run.alert = .none ∧ Room ready ∧ ¬Room (full ready) := by unfold Room; simp only [heard_iff]; decide +kernel

/-- A WITHDRAW of station 9 as its own receiver would read it. -/
def ownFrame : List Byte := (frameBytes 9#8 0#32 (Notice.fresh .withdraw 0#8 0#32)).drop 2

theorem hyps_FrameDiscardedAndAlert :
    ¬Heard 900 State.reset ∧ ¬Heard 899 ready ∧ frameGood [] false = false ∧ frameGood ownFrame true = false ∧ byteAt [] 1 ≠ ready.ownId
      ∧ Heard 900 ready ∧ frameGood ownFrame false = true ∧ byteAt ownFrame 1 = ready.ownId
      ∧ ready.run.conds.idClash = false ∧ (ready.setCondition .idClash).run.conds.idClash = true
      ∧ ready.run.alert = .none ∧ (ready.setAlert .pending).run.alert ≠ .none ∧ Room ready ∧ ¬Room (full ready) ∧ Heard 900 (full ready) := by
  unfold Room; simp only [heard_iff]; decide +kernel

def entry5 : RosterEntry := ⟨5#8, 250#8, 100#16, 500#32, 1000#32⟩

/-- Expired at its first count, and one count before it. -/
theorem hyps_RemovalsByTime :
    (0 ≤ ((1000#32 : Time) - entry5.expiry).toInt ∧ ((999#32 : Time) - entry5.expiry).toInt < 0)
      ∧ (((1000#32 : Time) - 979#32).toInt ≤ (prof.window + 1 : Int) ∧ (prof.window + 1 : Int) < ((1000#32 : Time) - 978#32).toInt)
      ∧ (∀ y ∈ [Echo.mk .sag 5#8 979#32 1], ((1000#32 : Time) - y.eventTime).toInt ≤ prof.window + y.allowance) := by
  decide +kernel

/-- The one echo that is past its retention leaves, and one at its last count stays. -/
theorem test_echo_removal :
    dropStale prof 1000#32 [Echo.mk .sag 5#8 979#32 1, Echo.mk .sag 6#8 978#32 1] = [Echo.mk .sag 5#8 979#32 1] := by decide +kernel

/-- S falls from 290 to 280, where 280 + 120 = A passes, or to 281, where it fails; and S rises past it. -/
theorem hyps_ClaimFollowsBudget :
    prof.allowance = 280 + prof.weight ∧ prof.allowance < 281 + prof.weight ∧ Reaches (hdr 0#8) false (claiming .waiting .blocked)
      ∧ (claiming .waiting .blocked).claim.state = .blocked ∧ (claiming .waiting .queued).claim.state = .queued
      ∧ (claiming .waiting .queued).port.claimCurrent = false
      ∧ ({ (withPort .defer (.since 0) [claimNotice] ready).port with current := true } : LinePort).claimCurrent = true
      ∧ budgetSum [⟨5#8, 140#8, 0#16, 0#32, 0#32⟩, ⟨6#8, 140#8, 0#16, 0#32, 0#32⟩] = 280 := by
  unfold Reaches; simp only [heard_iff]; decide +kernel

/-- The claim states in which a run can end in WAITING, by an abort and by a close that stops it; and the CLAIM queued, and on the wire. -/
theorem hyps_EndsInWaiting (c : ClaimState) :
    (∃ cmd, EndsInWaiting cmd (claiming .waiting c) prof)
      ∧ EndsInWaiting .occurrenceClose
          { claiming .waiting c with
            judge := { ready.judge with occurrences := [occ 0xA000#16 1000#32] }, table := { ready.table with records := [testRecord] } } prof
      ∧ (withPort .defer (.since 0) [claimNotice] ready).port.claimOnWire = false
      ∧ ({ (withPort (.send 0 [0#8]) (.since 0) [claimNotice] ready).port with current := true } : LinePort).claimOnWire = true := by
  refine ⟨⟨.abort (hdr 9#8) 0#8, rfl, rfl, rfl, .inl ⟨_, rfl, .inl ⟨_, _, rfl, ?_, rfl⟩⟩⟩,
    ⟨rfl, rfl, rfl, .inr (.inr (.inr ⟨rfl, occ 0xA000#16 1000#32, [], testRecord, rfl, ?_, ?_⟩))⟩, by decide +kernel⟩
  · exact (reaches_order.1 : Reaches (hdr 9#8) true ready)
  · show ({ ready.table with records := [testRecord] } : SightingTable).find 0xA000#16 = some testRecord
    decide +kernel
  · show 0 ≤ ((1000#32 : Time) - 1000#32).toInt ∧ _
    decide +kernel

/-- The end of CANCELLING: the hold run out or not, and the deferred WAITING entry. -/
theorem hyps_CancellingEnds :
    (∀ c ∈ [ClaimState.cancellingSag 1000#32, .cancellingSag 1001#32, .cancellingEnd],
        (withPort (.send 0 [0#8]) (.since 0) [claimNotice] (claiming .waiting c)).port.queue = [claimNotice]
          ∧ (withPort (.jam 16) (.since 0) [claimNotice] (claiming .waiting c)).port.tx = .jam 16
          ∧ (claiming .waiting c).seq.phase = .waiting ∧ (claiming .waiting c).profile = some prof ∧ (claiming .waiting c).port.stationId ≠ 0#5)
      ∧ 0 ≤ ((1000#32 : Time) - 1000#32).toInt ∧ ((1000#32 : Time) - 1001#32).toInt < 0 ∧ claimNotice.isClaim = true
      ∧ ({ ready.port with cancelAsked := true } : LinePort).cancelAsked = true ∧ ready.rail.sag = .armed 0 := by decide +kernel

/-- The echo of an event at 997 with its allowance 2: at the edge of the window, past it, and with the list full. -/
theorem hyps_SagReceived :
    (∀ c ∈ [ClaimState.held 1100#32, .blocked, .queued, .cancellingSag 1100#32, .idle, .standing, .cancellingEnd],
        Reaches (hdr 0#8) false (claiming .waiting c))
      ∧ bare.profile = none ∧ ready.profile = some prof ∧ (hdr 0#8).age ≠ 65535#16
      ∧ ((1000#32 : Time) - 977#32).toInt ≤ (prof.window + 3 : Int) ∧ (prof.window + 3 : Int) < ((1000#32 : Time) - 976#32).toInt
      ∧ ready.judge.echoes.length < 32 ∧ 32 ≤ (List.replicate 32 (Echo.mk .sag 5#8 990#32 1)).length := by
  unfold Reaches; simp only [heard_iff]; decide +kernel

theorem hyps_SightingEcho :
    sigClass 0x0004#16 = 0 ∧ 11 < sigClass 0xC004#16 ∧ 1 ≤ sigClass 0x1004#16 ∧ sigClass 0xB004#16 = 11
      ∧ ready.table.mask.getLsbD (hash6 0x1004#16) = false ∧ (ready.setMaskBit 0x1004#16).table.mask.getLsbD (hash6 0x1004#16) = true
      ∧ Reaches (hdr 0#8) false (ready.setMaskBit 0x1004#16) := by
  unfold Reaches; simp only [heard_iff]; decide +kernel

theorem hyps_CarrierCollisionBackoff :
    (withPort .defer (.since 0) [sagNotice] ready).port.tx = .defer ∧ (withPort .defer .stopped [sagNotice] ready).port.gap = .stopped
      ∧ ready.port.stationId ≠ 0#5 ∧ State.reset.port.stationId = 0#5
      ∧ (withPort (.send 0 [0#8]) (.since 0) [sagNotice] ready).port.tx = .send 0 [0#8]
      ∧ (withPort (.backoff 64) (.since 0) [sagNotice] ready).port.tx = .backoff 64 ∧ ready.port.nextAdvance = 64
      ∧ ready.port.tx = .idle ∧ ready.port.carrier = false ∧ ({ ready.port with carrier := true } : LinePort).carrier = true
      ∧ (withPort (.jam 16) (.since 0) [sagNotice] ready).port.onWire = true := by decide +kernel

/-- R27, R41: in a burst that is on the line as a jam ends, a frame is read whose sync pattern begins at the jam's end or later, and none before; and none while
an attempt is on the wire. -/
theorem test_framer_joins_a_burst :
    ∀ s, s = ({ withPort (.jam 916) (.since 0) [sagNotice] ready with
        port := { (withPort (.jam 916) (.since 0) [sagNotice] ready).port with carrier := true, framer := .notFed } } : State) →
      s.hears 916 = false ∧ (s.jamEnd 916 false).hears 915 = false ∧ (s.jamEnd 916 false).hears 916 = true
        ∧ ((withPort .defer (.since 900) [sagNotice] ready).quietGapEnd 948).hears 950 = false := by
  rintro s rfl; decide +kernel

/-- R25: the end of a burst that a committed port ignored is the most recent end of carrier when its CLAIM is cancelled, and the next gap runs from there. -/
theorem test_gap_after_an_ignored_burst :
    ∀ p, p = (((withPort .defer (.since 900) [claimNotice] ready).port.carrierAppears 940).endOfCarrier 945) →
      p.gap = .since 900 ∧ p.withoutClaim.tx = .idle ∧ p.withoutClaim.gap = .since 945 := by
  rintro p rfl; decide +kernel

theorem hyps_AttemptBegins :
    (∀ n, n = sagNotice → ∀ a, n.content ≠ .status a none) ∧ statusNotice.content = .status false none
      ∧ (withPort .defer (.since 0) [] ready).port.queue = [] ∧ (withPort .defer (.since 0) [] ready).port.gap = .since 0 := by
  refine ⟨?_, by decide +kernel⟩; rintro n rfl a; simp [sagNotice, Notice.fresh]

theorem hyps_AttemptCompletes :
    sagNotice.isClaim = false ∧ sagNotice.isDetail = false ∧ sagNotice.isStep = false
      ∧ (Notice.fresh .withdraw 0#8 0#32).isStep = true ∧ (withPort (.send 0 [0#8]) (.since 0) [sagNotice] ready).port.queue = [sagNotice]
      ∧ (ready.setAlert .pending).run.alert = .pending ∧ ready.run.alert ≠ .pending := by decide +kernel

theorem hyps_ClaimCompletes :
    (∀ c ∈ [ClaimState.queued, .cancellingSag 1001#32, .cancellingEnd],
        (withPort (.send 0 [0#8]) (.since 0) [claimNotice] (claiming .waiting c)).port.queue = [claimNotice])
      ∧ claimNotice.isClaim = true ∧ budgetSum [] + prof.weight ≤ prof.allowance ∧ prof.allowance < 281 + prof.weight
      ∧ ((1000#32 : Time) - 1001#32).toInt < 0 ∧ (claiming .off .cancellingEnd).seq.phase ≠ .waiting := by decide +kernel

/-- Below the limit, at it, and past it for a step notice, a dropped notice and a dropped DETAIL with any alert out, and a cancelled CLAIM. -/
theorem hyps_JamEnd :
    ({ sagNotice with attempts := 10 } : Notice).attempts + 1 < 12 ∧ 12 ≤ ({ sagNotice with attempts := 11 } : Notice).attempts + 1
      ∧ (withPort (.jam 16) (.since 0) [claimNotice] ready).port.tx = .jam 16 ∧ claimNotice.isStep = true
      ∧ sagNotice.isStep = false ∧ sagNotice.isDetail = false ∧ detailNotice.isStep = false ∧ detailNotice.isDetail = true
      ∧ (withPort (.jam 16) (.since 0) [detailNotice, sagNotice] ready).port.queue = [detailNotice, sagNotice]
      ∧ (∀ a ∈ [Alert.none, .pending, .outstanding], (ready.setAlert a).run.alert = a)
      ∧ (claiming .off .cancellingEnd).claim.state = .cancellingEnd := by decide +kernel

/-- R33, R160, R184: a dropped data piece of 25 content bytes asks for the next, and the edge of NOTICE_DROPPED hands the alert. -/
theorem test_dropped_detail :
    ∀ s, s = withPort (.jam 16) (.since 0) [{ detailNotice with attempts := 11 }]
        (withSlot completeSlot .idle .free (some ⟨0, 5#8, 0, .dataQueued⟩) ready) →
      (s.jamEnd 16 false).store.readout = some ⟨0, 5#8, 20, .reading 0⟩ ∧ (s.jamEnd 16 false).run.alert = .outstanding
        ∧ (s.jamEnd 16 false).run.conds.noticeDropped = true ∧ (s.jamEnd 16 false).port.queue = [alertNotice] := by
  rintro s rfl; decide +kernel

theorem hyps_RoundConverts :
    ({ ready with roundTaken := true } : State).roundTaken = true ∧ bare.profile = none ∧ bare.roundTaken = false ∧ bare.store.engine = .idle ∧ ready.profile = some prof ∧ ready.roundTaken = false := by
  decide +kernel

/-- The value at the low bound is inside, one below it outside; at the off level and one above it. -/
theorem hyps_ChannelChecks :
    (∀ ph ∈ [Phase.boot, .stress, .rest], (inPhase ph).profile = some prof ∧ (inPhase ph).roundTaken = false ∧ (inPhase ph).seq.phase = ph)
      ∧ ((convert ((codes 3000).get 1)).toNat * (prof.channels.get 1).scale + 500) / 1000 ≤ prof.tripLimit
      ∧ (prof.channels.get 2).windowFlag = true ∧ (prof.channels.get 7).windowFlag = true ∧ (prof.channels.get 0).offFlag = true
      ∧ ((convert 3000).toNat * 1000 + 500) / 1000 = 3000 ∧ ((convert 2999).toNat * 1000 + 500) / 1000 < 3000
      ∧ ((convert 200).toNat * 1000 + 500) / 1000 = 200 ∧ 200 < ((convert 201).toNat * 1000 + 500) / 1000
      ∧ (∀ ph ∈ [Phase.ramp, .boot, .stress], (inPhase ph).seq.phase.powered = true ∧ (inPhase ph).rail.tripCount + 1 < prof.tripDwell)
      ∧ { prof with tripLimit := 2999 }.tripLimit < roundValue prof (codes 3000) 1 ∧ roundValue prof (codes 2999) 1 ≤ 2999
      ∧ (prof.channels.get 0).low ≤ roundValue prof (codes 3000) 0 ∧ ¬(prof.channels.get 0).low ≤ roundValue prof (codes 2999) 0
      ∧ (prof.channels.get 0).offLevel < roundValue prof (codes 201) 0 ∧ (inPhase .drain).seq.phase = .drain := by decide +kernel

/-- Section 1.5.2: the count of the REST off check is a byte that is not stated to saturate. -/
theorem test_rest_count_wraps :
    (({ ChannelWatch.initial with restCount := 254, restLatch := true }).restRound (prof.channels.get 0) 201).1.restCount = 255
      ∧ (({ ChannelWatch.initial with restCount := 255, restLatch := true }).restRound (prof.channels.get 0) 201).1.restCount = 0 := by decide +kernel

/-- RAMP in standalone. -/
def aloneRamp : State := { inPhase .ramp with port := { ready.port with stationId := 0#5 } }

/-- On the line and in standalone; with a low current, and with a count one short of the dwell. -/
theorem hyps_RailsSettled :
    (inPhase .ramp).seq.phase = .ramp ∧ (inPhase .ramp).profile = some prof ∧ aloneRamp.seq.phase = .ramp ∧ aloneRamp.port.stationId = 0#5
      ∧ aloneRamp.claim.state = .idle ∧ roundValue prof (codes 3500) 1 ≤ prof.tripLimit ∧ (inPhase .ramp).rail.tripCount + 1 < prof.tripDwell
      ∧ RoundSettles prof (codes 3500) := by
  unfold RoundSettles; decide +kernel

/-- R60: in standalone a round that settles sends nothing. -/
theorem test_standalone_settles :
    (aloneRamp.takeRound (codes 3500) idlePanel false).seq.phase = .boot ∧ (aloneRamp.takeRound (codes 3500) idlePanel false).port = aloneRamp.port := by
  decide +kernel

/-- A profile whose trip limit is low enough for the codes: 3001 settles and trips, 3501 trips alone. -/
def tripProf : Profile := { prof with tripLimit := 3000, tripDwell := 1 }

theorem hyps_FeedTrip :
    (∀ ph ∈ [Phase.ramp, .boot, .stress], (inPhase ph).roundTaken = false ∧ (inPhase ph).seq.phase = ph
        ∧ tripProf.tripDwell ≤ (inPhase ph).rail.tripCount + 1)
      ∧ tripProf.tripLimit < roundValue tripProf (codes 3001) 1 ∧ tripProf.tripLimit < roundValue tripProf (codes 3501) 1
      ∧ RoundSettles tripProf (codes 3001) ∧ ¬RoundSettles tripProf (codes 3501)
      ∧ ({ aloneRamp with profile := some tripProf } : State).profile = some tripProf ∧ tripProf.stages ≠ [] := by
  unfold RoundSettles; decide +kernel

/-- R71: settled and trip in one round; the trip first is 0x5002, the settled report first 0x5003. -/
theorem test_settled_and_trip :
    ∀ s, s = ({ claiming .ramp .standing with profile := some tripProf } : State) →
      (s.takeRound (codes 3001) idlePanel true).table.records.map Record.sig = [0x5002#16]
        ∧ (s.takeRound (codes 3001) idlePanel false).table.records.map Record.sig = [0x5003#16]
        ∧ (s.takeRound (codes 3001) idlePanel false).port.queue.any (fun n => n.content == .settled 0#8) = true := by
  rintro s rfl; decide +kernel

theorem hyps_DrainEnds :
    (inPhase .drain).profile = some prof ∧ (inPhase .drain).seq.phase = .drain
      ∧ (∀ k, k < 8 → (prof.channels.get k).offFlag = true →
          ((convert ((codes 200).get k)).toNat * (prof.channels.get k).scale + 500) / 1000 ≤ (prof.channels.get k).offLevel)
      ∧ (inPhase .drain).seq.cycle.toNat ≠ prof.cycles ∧ (3#8 : Byte).toNat = prof.cycles := by decide +kernel

theorem runOut_drain :
    RunOut { inPhase .drain with seq := { (inPhase .drain).seq with drainDeadline := some 1000#32 } } (some 1000#32)
      ∧ ¬RunOut (inPhase .drain) (some 1001#32) ∧ ¬RunOut (inPhase .drain) none := by
  refine ⟨⟨_, rfl, by decide +kernel⟩, ?_, ?_⟩
  · rintro ⟨e, h, h1⟩; cases h; revert h1; decide +kernel
  · rintro ⟨e, h, -⟩; cases h

theorem hyps_SagDetector :
    ready.profile = some prof ∧ ready.roundTaken = false ∧ ready.seq.phase = .off ∧ ready.rail.sag = .armed 0
      ∧ ((convert ((codes 21).get 0)).toNat * (prof.channels.get 0).scale + 500) / 1000 < prof.sagThreshold
      ∧ 0 + 1 < prof.sagDwell ∧ prof.sagDwell ≤ 1 + 1 ∧ ready.port.stationId ≠ 0#5 ∧ ready.judge.echoes.length < 32
      ∧ roundValue prof (codes 4095) 0 < prof.sagThreshold ∧ roundValue { prof with sagThreshold := 3000 } (codes 3000) 0 = 3000
      ∧ (∀ c ∈ [ClaimState.blocked, .held 1100#32, .queued, .cancellingSag 1100#32, .cancellingEnd, .idle],
          (claiming .waiting c).seq.phase = .waiting ∧ (claiming .waiting c).claim.state = c ∧ (claiming .waiting c).port.claimOnWire = false)
      ∧ ({ (withPort (.send 0 [0#8]) (.since 0) [claimNotice] ready).port with current := true } : LinePort).claimOnWire = true
      ∧ (ready.setRail { ready.rail with sag := .inForce }).rail.sag = .inForce
      ∧ 32 ≤ (List.replicate 32 (Echo.mk .sag 5#8 990#32 1)).length := by decide +kernel

theorem hyps_PoweredPhasesEnd :
    RunOut (inPhase .ramp) (some 1000#32) ∧ RunOut (inPhase .boot) (some 999#32) ∧ RunOut (inPhase .stress) (some 1000#32)
      ∧ RunOut aloneRamp (some 1000#32) ∧ aloneRamp.claim.state = .idle ∧ (claiming .ramp .standing).claim.state = .standing
      ∧ (inPhase .ramp).seq.phase = .ramp ∧ (inPhase .boot).seq.phase = .boot ∧ (inPhase .stress).seq.phase = .stress
      ∧ (prof.channels.get 0).rampFlag = true ∧ ((inPhase .ramp).rail.watch.get 0).inside = false := by
  refine ⟨⟨_, rfl, by decide +kernel⟩, ⟨_, rfl, by decide +kernel⟩, ⟨_, rfl, by decide +kernel⟩, ⟨_, rfl, by decide +kernel⟩, by decide +kernel⟩

theorem hyps_ContestForAllowance :
    RunOut (inPhase .rest) (some 1000#32) ∧ (inPhase .rest).seq.phase = .rest ∧ (inPhase .rest).claim.state = .idle
      ∧ (inPhase .rest).rail.sag = .armed 0 ∧ State.reset.port.stationId = 0#5
      ∧ (claiming .waiting (.held 1000#32)).claim.state = .held 1000#32 ∧ 0 ≤ ((1000#32 : Time) - 1000#32).toInt
      ∧ ((1000#32 : Time) - 1001#32).toInt < 0 ∧ budgetSum [] + prof.weight ≤ prof.allowance
      ∧ prof.allowance < budgetSum [entry5, { entry5 with source := 6#8, weight := 31#8 }] + prof.weight := by
  refine ⟨⟨_, rfl, by decide +kernel⟩, by decide +kernel⟩

/-- One state for each state of the parser, with a byte for each of its clauses. -/
theorem hyps_ParserTakesByte :
    (∀ x ∈ [Parser.hunt, .codeHi, .codeLo 1#8, .idLen, .idBytes 2 []], Hearing prof (hearing .boot x) ∧ (hearing .boot x).lis.parser = x)
      ∧ (inPhase .off).seq.lines.listenerEnabled = false ∧ (inPhase .boot).lis.idleFlag = false
      ∧ (0xA5#8 : Byte) = prof.leadByte ∧ (0xA6#8 : Byte) ≠ prof.leadByte ∧ (1#8 : Byte) ++ (0#8 : Byte) = prof.identityCode
      ∧ 1 ≤ (1#8 : Byte).toNat ∧ (16#8 : Byte).toNat ≤ 16 ∧ 16 < (17#8 : Byte).toNat ∧ ([] : List Byte).length + 1 < 2
      ∧ 2 ≤ ([0#8] : List Byte).length + 1 := by
  unfold Hearing; decide +kernel

def hearingAt (ph : Phase) (k : Int) : State := { hearing ph (.codeLo 2#8) with lis := { (hearing ph (.codeLo 2#8)).lis with stage := k } }

/-- An advance to S[0], a skip to S[1], a repeat of S[0] and a regression to it, in BOOT and in STRESS. -/
theorem hyps_StageCode :
    (∀ ph ∈ [Phase.boot, .stress], ∀ k ∈ [-1, 0, 1], Hearing prof (hearingAt ph k) ∧ (hearingAt ph k).lis.parser = .codeLo 2#8)
      ∧ (2#8 : Byte) ++ (1#8 : Byte) ≠ prof.identityCode ∧ stageIndex prof (-1) ((2#8 : Byte) ++ (1#8 : Byte)) = some 0
      ∧ stageIndex prof (-1) ((2#8 : Byte) ++ (2#8 : Byte)) = some 1 ∧ stageIndex prof 0 ((2#8 : Byte) ++ (1#8 : Byte)) = some 0
      ∧ stageIndex prof 1 ((2#8 : Byte) ++ (1#8 : Byte)) = some 0 ∧ (hearingAt .boot 0).LinesOfPhase := by
  unfold Hearing State.LinesOfPhase; decide +kernel

theorem hyps_OtherCodes :
    stageIndex prof (-1) ((3#8 : Byte) ++ (0#8 : Byte)) = none ∧ (3#8 : Byte) ++ (0#8 : Byte) = prof.pulseCode
      ∧ prof.pulseInterval ≠ 0 ∧ Hearing prof (hearing .stress (.codeLo 3#8))
      ∧ ((0x40#8 : Byte) ++ (0#8 : Byte)).toNat = prof.errorLow ∧ ((0x40#8 : Byte) ++ (0xFF#8 : Byte)).toNat = prof.errorHigh
      ∧ prof.errorHigh < ((0x41#8 : Byte) ++ (0#8 : Byte)).toNat ∧ ((0x3F#8 : Byte) ++ (0xFF#8 : Byte)).toNat < prof.errorLow := by
  unfold Hearing; decide +kernel

theorem hyps_ListenerTimers :
    (inPhase .boot).seq.lines.listenerEnabled = true ∧ (inPhase .off).seq.lines.listenerEnabled = false
      ∧ RunOut (inPhase .stress) (some 1000#32) ∧ ¬RunOut (inPhase .stress) (some 1001#32)
      ∧ ((inPhase .boot).lis.stage + 1).toNat ∉ (inPhase .boot).lis.stalled := by
  refine ⟨by decide +kernel, by decide +kernel, ⟨_, rfl, by decide +kernel⟩, ?_, by decide +kernel⟩
  rintro ⟨e, h, h1⟩; cases h; revert h1; decide +kernel

/-- A new signature, a full table, a report one count short of the re-arm time, and one at it; queues with a place and with none; a trigger that is missed. -/
theorem hyps_FaultReportTaken :
    Hearing prof (hearing .boot .hunt) ∧ (hearing .boot .hunt).table.find 0xA000#16 = none
      ∧ 48 ≤ (List.replicate 48 { testRecord with sig := 0x1004#16 }).length ∧ (hearing .boot .hunt).table.records.length < 48
      ∧ ((999#32 : Time) - testRecord.lastOccurrence).toInt < prof.rearm ∧ prof.rearm ≤ ((1000#32 : Time) - testRecord.lastOccurrence).toInt
      ∧ ({ (hearing .boot .hunt).table with records := [testRecord] } : SightingTable).find 0xA000#16 = some testRecord
      ∧ Room (hearing .boot .hunt) ∧ ¬Room (full (hearing .boot .hunt)) ∧ Hearing prof (full (hearing .boot .hunt))
      ∧ (hearing .boot .hunt).judge.occurrences.length < 8 ∧ 8 ≤ (List.replicate 8 (occ 0x1004#16 2000#32)).length
      ∧ SnapshotMissed prof 0xA000#16 (withSlot (beginSlot 1) (.post 0 none) .free none (hearing .boot .hunt)) := by
  unfold Hearing Room SnapshotMissed; decide +kernel

/-- R123, R184: the SIGHTING of a new record, refused by a full queue, sets OUTBOUND_FULL; its occurrence is open all the same. -/
theorem test_refused_sighting :
    (full (hearing .boot .hunt)).framingError.run.conds.outboundFull = true ∧ (full (hearing .boot .hunt)).framingError.run.alert = .pending
      ∧ (full (hearing .boot .hunt)).framingError.judge.occurrences.length = 1 := by decide +kernel

def closeState (ph : Phase) (o : Occurrence) : State :=
  { inPhase ph with judge := { ready.judge with occurrences := [o] }, table := { ready.table with records := [testRecord] } }

/-- Not yet at its close time, at it, common by quorum, common by a sag, and local with the threshold 1 of class 10 met. -/
theorem hyps_OccurrenceCloses :
    (closeState .boot (occ 0xA000#16 1000#32)).table.find 0xA000#16 = some testRecord
      ∧ ((1000#32 : Time) - 1001#32).toInt < 0 ∧ 0 ≤ ((1000#32 : Time) - 1000#32).toInt
      ∧ prof.quorum ≤ [5#8, 6#8].length ∧ (prof.classOf 0x2004#16).supplySensitive = true
      ∧ ¬(prof.quorum ≤ (occ 0xA000#16 1000#32).matched.length ∨
          ((occ 0xA000#16 1000#32).sagFlag = true ∧ (prof.classOf 0xA000#16).supplySensitive = true))
      ∧ (∀ ph ∈ [Phase.off, .waiting, .ramp, .boot, .stress, .drain, .rest], (closeState ph (occ 0xA000#16 1000#32)).seq.phase = ph)
      ∧ (closingAt .drain).closing = .drain := by decide +kernel

/-- The close stops the run in every phase. -/
theorem hyps_CloseStops (ph : Phase) : CloseStops prof (closeState ph (occ 0xA000#16 1000#32)) := by
  refine ⟨occ 0xA000#16 1000#32, [], testRecord, rfl, ?_, ?_⟩
  · show ({ ready.table with records := [testRecord] } : SightingTable).find 0xA000#16 = some testRecord
    decide +kernel
  · show 0 ≤ ((1000#32 : Time) - 1000#32).toInt ∧ _
    decide +kernel

/-- R74: a stop-on-fail in RAMP and in DRAIN. -/
theorem test_stop_on_fail :
    (closeState .ramp (occ 0xA000#16 1000#32)).occurrenceClose.seq.phase = .drain
      ∧ (closeState .ramp (occ 0xA000#16 1000#32)).occurrenceClose.seq.endRequest = .stopped
      ∧ (closeState .drain (occ 0xA000#16 1000#32)).occurrenceClose.seq.endRequest = .stopped
      ∧ (closeState .drain (occ 0xA000#16 1000#32)).occurrenceClose.seq.drainDeadline = none := by decide +kernel

theorem hyps_SnapshotTriggered :
    Hearing prof (hearing .boot .hunt) ∧ (hearing .boot .hunt).table.records.length < 48 ∧ (prof.classOf 0xA000#16).snapshot = true
      ∧ (hearing .boot .hunt).store.engine = .idle ∧ (hearing .boot .hunt).store.slots.get 0 = none
      ∧ (withSlot (beginSlot 1) (.post 0 none) .free none ready).store.engine ≠ .idle
      ∧ ∀ i, i < 8 → (Eight.all (some completeSlot)).get i ≠ none := by
  unfold Hearing; decide +kernel

def readAt (offset : Nat) (stage : ReadStage) : Readout := ⟨0, 5#8, offset, stage⟩

theorem hyps_CaptureWrites :
    (withSlot (beginSlot 0) (.pre 0 [] []) .capture none ready).store.slots.get 0 = some (beginSlot 0)
      ∧ (withSlot (beginSlot 0) (.pre 0 [] []) .capture none ready).store.engine = .pre 0 [] []
      ∧ (withSlot (beginSlot 1) (.post 0 (some (Eight.all 0#12))) .capture none ready).store.engine = .post 0 (some (Eight.all 0#12))
      ∧ ready.store.readout = none
      ∧ (∀ st ∈ [ReadStage.waiting, .suspended 7, .held, .dataQueued, .finalQueued],
          (withSlot (beginSlot 0) (.pre 0 [] []) .capture (some (readAt 0 st)) ready).store.readout = some (readAt 0 st)) := by decide +kernel

/-- Section 9.4.1, R157: the released read goes on at the byte where it stopped. -/
theorem test_read_resumes :
    ((withSlot (beginSlot 0) (.pre 0 [] []) .capture (some (readAt 0 (.suspended 7))) ready).store.captureRelease).readout
      = some (readAt 0 (.reading 7)) := by decide +kernel

/-- Of 25 bytes the piece at offset 0 is not the last and the piece at offset 20 is; a DETAIL with another notice behind it; the port free, and held by the
capture. -/
theorem hyps_ReadoutPieces :
    (withSlot completeSlot .idle .readout (some (readAt 0 (.reading 0))) ready).store.readout = some (readAt 0 (.reading 0))
      ∧ ready.port.queue.any Notice.isDetail = false ∧ [detailNotice].any Notice.isDetail = true ∧ Room ready ∧ ¬Room (full ready)
      ∧ (full ready).port.queue.any Notice.isDetail = false
      ∧ (withPort (.send 0 [0#8]) (.since 0) [detailNotice, sagNotice] ready).port.queue = [detailNotice, sagNotice]
      ∧ 0 + 20 < completeSlot.content.length ∧ completeSlot.content.length ≤ 20 + 20
      ∧ (withSlot completeSlot .idle .capture (some (readAt 0 .dataQueued)) ready).store.port = .capture
      ∧ (withSlot completeSlot .idle .free (some (readAt 0 .held)) ready).store.readout = some (readAt 0 .held) := by
  unfold Room; decide +kernel

/-- R157: the next piece waits while the capture holds the port. -/
theorem test_piece_waits_for_the_port :
    (withPort (.send 0 [0#8]) (.since 0) [detailNotice, sagNotice]
        (withSlot completeSlot .idle .capture (some (readAt 0 .dataQueued)) ready)).attemptCompletion 8 false
      = withPort .defer (.since 8) [sagNotice] { withSlot completeSlot .idle .capture (some (readAt 20 .waiting)) ready with
          port := { ready.port with lastEnd := 8, framer := .hunting 8 } } := by decide +kernel

theorem hyps_TagPlan :
    ∀ h, h = (⟨⟨0xC5#8, 7#8⟩, ⟨0xC5#8, 7#8⟩, ⟨0#8, 0#8⟩, ⟨0#8, 0#8⟩⟩ : SlotHeaders) →
      ∀ marker seq : Nat → Byte, marker = (fun i => if i < 2 then 0xC5#8 else 0#8) → seq = (fun i => if i < 2 then 7#8 else 0#8) →
        (marker 0 = h.s0.marker ∧ marker 1 = h.s1.marker ∧ marker 2 = h.s2.marker ∧ marker 3 = h.s3.marker)
          ∧ (seq 0 = h.s0.sequence ∧ seq 1 = h.s1.sequence ∧ seq 2 = h.s2.sequence ∧ seq 3 = h.s3.sequence)
          ∧ (0 < 4 ∧ marker 0 = 0xC5#8 ∧ ∀ j, j < 4 → j ≠ 0 → marker j = 0xC5#8 → seq j ≠ seq 0 + 1#8) := by
  rintro h rfl marker seq rfl rfl; decide +kernel

theorem hyps_closing :
    (closingAt .headers).closing = .headers ∧ (closingAt .headers).profile = some prof ∧ (closingAt .headers).lis.identity = none
      ∧ Room (closingAt .headers) ∧ (closingAt .headers).port.stationId ≠ 0#5
      ∧ (closingAt (.write (docketWrite 1 none))).closing = .write (docketWrite 1 none)
      ∧ (closingAt (.write (docketWrite 6 (some 1000#32)))).closing = .write (docketWrite 6 (some 1000#32))
      ∧ (docketWrite 5 none).number < 6 ∧ 6 ≤ (docketWrite 6 none).number ∧ 0 ≤ ((1000#32 : Time) - 1000#32).toInt
      ∧ ((1000#32 : Time) - 1001#32).toInt < 0 ∧ (List.replicate 16 0#8).length ≤ 16
      ∧ ({ closingAt .headers with port := aloneReady.port } : State).port.stationId = 0#5 ∧ ¬Room (full (closingAt .headers))
      ∧ (∀ n ∈ [1, 2, 5, 6], (docketWrite n none).number = n) := by unfold Room; decide +kernel

/-- Each row of R166: no record and nothing set; a met threshold; ABORTED; the suspect limit; an unjudged occurrence. -/
theorem hyps_Verdict :
    (∃ r ∈ [{ testRecord with localCount := 1 }], 0 < (prof.classOf r.sig).threshold ∧ (prof.classOf r.sig).threshold ≤ r.localCount)
      ∧ (∀ r ∈ [testRecord], (prof.classOf r.sig).threshold = 0 ∨ r.localCount < (prof.classOf r.sig).threshold)
      ∧ (closingAt .headers).run.conds.aborted = false ∧ (closingAt .headers).run.conds.tableFull = false
      ∧ ((closingAt .headers).setCondition .aborted).run.conds.aborted = true
      ∧ prof.suspectLimit ≤ min (([{ testRecord with commonCount := 3 }].map Record.commonCount).sum) 65535
      ∧ 1 ≤ min (([{ testRecord with unjudged := 1 }].map Record.unjudged).sum) 65535
      ∧ min (([testRecord].map Record.commonCount).sum) 65535 < prof.suspectLimit := by decide +kernel

/-- The verdict instants: the header read's end and failure, and a removal in steps 1 and 2. -/
theorem hyps_VerdictInstant (h : SlotHeaders) :
    VerdictInstant (.slotHeaderReadEnd h) (closingAt .headers) ∧ VerdictInstant (.tagNoAcknowledge true) (closingAt .headers)
      ∧ VerdictInstant .trayRemoval (unseating (closingAt .drain)) ∧ VerdictInstant .trayRemoval (unseating (closingAt .headers)) := by
  refine ⟨.inl ⟨rfl, .inl ⟨h, rfl⟩⟩, .inl ⟨rfl, .inr ⟨true, rfl⟩⟩, .inr ⟨rfl, ?_, rfl, .inl rfl⟩, .inr ⟨rfl, ?_, rfl, .inr rfl⟩⟩ <;>
  · unfold EdgeDue; decide +kernel

/-- R174: after a failed write 2 the header read that agrees keeps what stands past the bytes of that write; a marker 0xC5 there differs, and keeps nothing. -/
theorem test_header_read_keeps_what_agrees :
    ∀ s, s = ({ ready with tag := Memory.forgetBytes (Memory.writeBytes [] 0 (List.replicate 20 0#8)) 1 15 } : State) →
      Memory.read (s.learnSlots ⟨⟨0#8, 7#8⟩, ⟨0#8, 0#8⟩, ⟨0#8, 0#8⟩, ⟨0#8, 0#8⟩⟩).tag 16 = some 0#8
        ∧ Memory.read (s.learnSlots ⟨⟨0xC5#8, 7#8⟩, ⟨0#8, 0#8⟩, ⟨0#8, 0#8⟩, ⟨0#8, 0#8⟩⟩).tag 16 = none := by
  rintro s rfl; decide +kernel

/-- R174: write 1 leaves the old marker or 0x00, and 0x00 alone where that was the old one; write 6 leaves 0x00 or 0xC5, and no other marker agrees. -/
theorem test_marker_left_open :
    (({ ready with tag := [(192, 0xC5#8)] } : State).tagUndetermined (docketWrite 1 none)).openMarker = some ⟨3, [0x00#8, 0xC5#8]⟩
      ∧ (({ ready with tag := [(192, 0x00#8)] } : State).tagUndetermined (docketWrite 1 none)).tag = [(192, 0x00#8)]
      ∧ ∀ s, s = ({ ready with tag := [(192, 0x00#8)] } : State).tagUndetermined (docketWrite 6 none) →
          s.tag = [] ∧ s.slotAgrees 3 ⟨0x00#8, 18#8⟩ = true ∧ s.slotAgrees 3 ⟨0xC5#8, 18#8⟩ = true ∧ s.slotAgrees 3 ⟨0x17#8, 18#8⟩ = false := by
  refine ⟨by decide +kernel, by decide +kernel, ?_⟩; rintro s rfl; decide +kernel

/-- A slot whose header read agrees with an open marker, and one that does not; the clauses of R174's table are met by numbers 1, 2, 5 and 6. -/
theorem hyps_SlotAgrees :
    SlotAgrees 3 ⟨0x00#8, 18#8⟩ { ready with openMarker := some ⟨3, [0x00#8, 0xC5#8]⟩ }
      ∧ ¬SlotAgrees 3 ⟨0x17#8, 18#8⟩ { ready with openMarker := some ⟨3, [0x00#8, 0xC5#8]⟩ } := by
  simp only [← State.slotAgrees_iff]; decide +kernel

/-- The 193 bytes before the CRC of an image with format 1 and two stages, every other byte 0. -/
def imageBody : List Byte := [0#8, 195#8, 1#8] ++ List.replicate 181 0#8 ++ [2#8] ++ List.replicate 8 0#8

def goodImage : List Byte := imageBody ++ be16 (crc16 imageBody)

theorem word_of_bytes (x : BitVec 16) : word16 (highByte x) (lowByte x) = x := by
  unfold word16 highByte lowByte
  ext i hi
  simp only [BitVec.getElem_append, BitVec.getElem_extractLsb']
  split <;> simp_all [BitVec.getLsbD_eq_getElem]

/-- An image that passes every check, one whose format byte is 0, and the lengths at the ends of their range. -/
theorem hyps_ProfileLoadOutcomes :
    (crc16 (goodImage.take (goodImage.length - 2)) = wordAt goodImage (goodImage.length - 2) ∧ nat8At goodImage 2 = 1
        ∧ 187 + 4 * min (nat8At goodImage 184) 16 ≤ goodImage.length)
      ∧ nat8At (List.replicate 195 0#8) 2 ≠ 1
      ∧ (0 * 256 + 64 = 64 ∧ 2 * 256 + 0 = 512 ∧ 0 * 256 + 63 < 64 ∧ 512 < 2 * 256 + 1)
      ∧ ({ bare with load := .image 195 } : State).load = .image (List.replicate 195 0#8).length
      ∧ ({ bare with load := .header } : State).load ≠ .idle ∧ bare.load = .idle := by
  have hl : imageBody.length = 193 := by decide +kernel
  have hn : goodImage.length = 195 := by simp [goodImage, hl, be16]
  have ht : goodImage.take 193 = imageBody := by rw [goodImage, ← hl]; exact List.take_left ..
  have hw : wordAt goodImage 193 = crc16 imageBody := by
    simp [wordAt, byteAt, goodImage, hl, be16, word_of_bytes]
  rw [hn]
  refine ⟨⟨?_, by decide +kernel, by decide +kernel⟩, by decide +kernel⟩
  rw [show 195 - 2 = 193 from rfl, ht, hw]

theorem hyps_ClampRanges : prof.InRanges ∧ ¬({ prof with weight := 401 } : Profile).InRanges := by
  refine ⟨?_, fun h => absurd h.2.1.2 (by decide)⟩
  unfold Profile.InRanges
  repeat' refine And.intro ?_ ?_
  all_goals decide +kernel

/-- R180, in the table's order: w against the clamped A, P2 against the limited P1. -/
theorem test_clamp_order :
    ({ prof with allowance := 5000, weight := 255, preRounds := 200, postRounds := 250, baudCode := 6, pulseInterval := 99 } : Profile).clamp
      = { prof with allowance := 4095, weight := 255, preRounds := 192, postRounds := 64, baudCode := 3, pulseInterval := 100 } := by
  decide +kernel

theorem hyps_TrayRemoval :
    (∀ s ∈ [ready, bare, inPhase .ramp, closingAt .drain, closingAt .headers, closingAt (.write (docketWrite 1 none))],
        EdgeDue (unseating s) (unseating s).panel.seat false ∧ (unseating s).port.stationId ≠ 0#5 ∧ Room (unseating s))
      ∧ (unseating bare).run.state = .unconfigured ∧ (unseating (inPhase .ramp)).run.state = .running ∧ (closingAt .drain).closing ≠ .none
      ∧ (closingAt .drain).profile = some prof ∧ (closingAt .drain).run.state = .closing
      ∧ ¬Room (full (closingAt .headers)) ∧ aloneReady.port.stationId = 0#5
      ∧ (claiming .ramp .standing).claim.state = .standing := by
  unfold EdgeDue Room; decide +kernel

theorem hyps_FixtureChange :
    (∀ s, s = ({ claiming .waiting .queued with panel := { ready.panel with fixture := ⟨true, false, 20⟩ } } : State) →
        EdgeDue s s.panel.fixture false ∧ s.seq.phase = .waiting ∧ s.claim.state = .queued)
      ∧ ({ (withPort (.send 0 []) (.since 0) [claimNotice] ready).port with current := true } : LinePort).claimOnWire = true
      ∧ EdgeDue { closingAt (.write (docketWrite 2 none)) with panel := { ready.panel with fixture := ⟨true, false, 20⟩ } } ⟨true, false, 20⟩ false := by
  unfold EdgeDue; refine ⟨?_, by decide +kernel⟩; rintro s rfl; decide +kernel

/-- The invariants hold in a state of a run with an open occurrence and a capture in POST. -/
def busy : State :=
  { inPhase .boot with
    claim := { roster := [entry5], state := .idle }
    judge := { echoes := [⟨.sighting 0xA000#16, 5#8, 900#32, 2⟩], occurrences := [{ occ 0xA000#16 2000#32 with matched := [5#8] }], firstRefused := none }
    table := { records := [testRecord], mask := 0#64, firstLost := none }
    store := { ready.store with
      slots := ready.store.slots.set 0 (some ((beginSlot 2).preStored [] [])), engine := .post 0 (some (Eight.all 0#12)), port := .capture } }

/-- In a state of a run, and in one with a SETTLED and a CLAIM behind it. -/
theorem hyps_QueueKept :
    busy.QueueKept ∧ (withPort .defer (.since 0) [Notice.fresh (.settled 0#8) 0#8 0#32, claimNotice, detailNotice] (claiming .waiting .queued)).QueueKept
      ∧ (withPort .defer (.since 0) [Notice.fresh (.settled 0#8) 0#8 0#32, claimNotice, detailNotice] (claiming .waiting .queued)).ClaimOfPhase := by
  refine ⟨?_, ?_, rfl⟩ <;> unfold State.QueueKept <;> decide +kernel

/-- A read of two bytes at 0x52; and a data byte of a page write that is not acknowledged. -/
theorem hyps_WireLayouts :
    [BusEvent.received true, .received false] = List.replicate (2 - 1) (.received true) ++ [.received false]
      ∧ (BusOp.pageWrite 0x56 16 [1#8, 2#8]).sequence
        = [.start, .address 0x56 false, .sent 16#8] ++ .sent 1#8 :: [.sent 2#8, .stop] ∧ BusEvent.toDevice (.sent 1#8) = true
      ∧ busRun (BusOp.pageWrite 0x56 16 [1#8, 2#8]).sequence [true, true, false]
        = ([.start, .address 0x56 false, .sent 16#8, .sent 1#8, .stop], false) := by decide +kernel

/-- Stations 1 and 31, an ORDER's operations, and frames that fail each check. -/
theorem hyps_FormatsReadBack :
    (1#8 : Byte).toNat = 1 ∧ (31#8 : Byte).toNat ≤ 31 ∧ 5 ≤ (5#8 : Byte).toNat ∧ prof.FitsImage
      ∧ (ownFrame.getD 5 0#8).toNat = 0 ∧ ownFrame.length = 8 ∧ (ownFrame.take 7).length < 8 ∧ (0#8 ++ 0#8 : BitVec 16) ≠ crc16 [2#8] := by
  refine ⟨rfl, by decide, by decide, ?_, by decide +kernel⟩
  unfold Profile.FitsImage
  repeat' refine And.intro ?_ ?_
  all_goals decide +kernel

/-- R187: an ORDER START from station 5 to station 9, byte by byte; R188: two fields of an image at their offsets. -/
theorem test_formats_read :
    frameCommand ⟨900, [7#8, 5#8, 9#8, 0#8, 3#8, 2#8, 1#8, 0#8] ++ be16 (crc16 [7#8, 5#8, 9#8, 0#8, 3#8, 2#8, 1#8, 0#8]), false⟩
        = .start (hdr 9#8) 0#8
      ∧ prof.image.length = 195 ∧ nat16At prof.image 5 = 400 ∧ nat8At prof.image 184 = 2 := by decide +kernel

theorem hyps_invariants :
    busy.WithinCapacity ∧ busy.LinesOfPhase ∧ busy.GeneratorAlive ∧ busy.TagCanonical ∧ busy.RosterOfPeers ∧ busy.Accounted
      ∧ busy.RunConsistent := by
  unfold State.WithinCapacity State.LinesOfPhase State.GeneratorAlive State.TagCanonical State.RosterOfPeers State.isPeer State.Accounted
    State.RunConsistent
  decide +kernel

theorem hyps_ClaimOfPhase : busy.ClaimOfPhase ∧ (claiming .ramp .standing).ClaimOfPhase ∧ (claiming .waiting .queued).ClaimOfPhase :=
  ⟨trivial, rfl, rfl⟩

theorem hyps_MatchesOfPeers : busy.MatchesOfPeers := by
  refine ⟨fun e he g _ => ?_, ?_⟩
  · simp only [busy, List.mem_singleton] at he; subst he; unfold State.isPeer; decide +kernel
  · unfold State.isPeer; decide +kernel

theorem hyps_StoreSound : busy.StoreSound := by
  refine ⟨fun i hi x hx => ?_, by decide, _, rfl, by decide +kernel⟩
  have h0 : i = 0 := by
    by_contra h
    have : busy.store.slots.get i = none := by interval_cases i <;> first | rfl | exact absurd rfl h
    rw [this] at hx; cases hx
  subst h0
  cases hx
  unfold Snapshot.Sound
  decide +kernel

/-- The invariants' steps happen: a command of a busy state gives a next state. -/
theorem hyps_step : step { busy with pending := [.idleFlagSet] } = .next { busy with lis := { busy.lis with idleFlag := true } } := rfl

end Sys2Proof.Tests
end

section
/-! # Scope: the phase codes of R1 -/

namespace Sys2Proof.Proofs

/-- Settles O50: each conjunct is the equation of `Phase.code` for one phase of R1's table, in the table's order. -/
theorem phaseCodes : Obligations.PhaseCodes := by
  unfold Obligations.PhaseCodes
  exact ⟨rfl, rfl, rfl, rfl, rfl, rfl, rfl⟩

end Sys2Proof.Proofs
end

section
/-! # Scope: time, power-on reset and the panel inputs (sections 1.1 to 1.3) -/

namespace Sys2Proof.Proofs

open Sys2Proof.Machine

/-! ### Commands that the panel brings, by whether their edge is due (R5) -/

/-- A step on an empty queue is the passing of a count. -/
theorem step_of_pending_nil {s : State} (h : s.pending = []) : step s = .next s.idleStep := by
  simp [step, h]

@[simp] theorem nextCount_clock (s : State) : s.nextCount.clock = s.clock + 1#32 := by simp [State.nextCount]

@[simp] theorem nextCount_roundTaken (s : State) : s.nextCount.roundTaken = false := by simp [State.nextCount]

@[simp] theorem nextCount_pending (s : State) : s.nextCount.pending = s.pending := by simp [State.nextCount]

theorem flipped_of_edge {s : State} {d : Debounce} {l : Bool} (h : EdgeDue s d l) : d.flipped = { d with level := l, differing := 0 } := by
  obtain ⟨-, hl, -⟩ := h
  simp [Debounce.flipped, hl]

theorem flipButton_of_edge {s : State} {l : Bool} (h : EdgeDue s s.panel.button l) :
    s.flipButton = { s with panel := { s.panel with button := { s.panel.button with level := l, differing := 0 } } } := by
  simp [State.flipButton, State.setPanel, flipped_of_edge h]

theorem flipSeat_of_edge {s : State} {l : Bool} (h : EdgeDue s s.panel.seat l) :
    s.flipSeat = { s with panel := { s.panel with seat := { s.panel.seat with level := l, differing := 0 } } } := by
  simp [State.flipSeat, State.setPanel, flipped_of_edge h]

theorem flipFixture_of_edge {s : State} {l : Bool} (h : EdgeDue s s.panel.fixture l) :
    s.flipFixture = { s with panel := { s.panel with fixture := { s.panel.fixture with level := l, differing := 0 } } } := by
  simp [State.flipFixture, State.setPanel, flipped_of_edge h]

theorem exec_buttonPress_of_due {s : State} (h : EdgeDue s s.panel.button true) : exec .buttonPress s = .next s.buttonDown.pressed := by
  simp only [exec, execButtonPress, State.buttonPress, (s.edgeDue_iff _ _).2 h, if_true, flipButton_of_edge h]
  rfl

theorem exec_fixtureFitted_of_due {s : State} (h : EdgeDue s s.panel.fixture true) :
    exec .fixtureFitted s = .next (if s.run.state = .unconfigured then s.flipFixture.startLoad else s.flipFixture) := by
  simp only [exec, execFixtureFitted, State.fixtureFitted, (s.edgeDue_iff _ _).2 h, if_true]
  cases s.run.state <;> simp

theorem exec_trayRemoval_of_due {s : State} (h : EdgeDue s s.panel.seat false) : exec .trayRemoval s = .next s.seatOpen.trayGone := by
  simp only [exec, execTrayRemoval, State.trayRemoval, (s.edgeDue_iff _ _).2 h, if_true, flipSeat_of_edge h]
  rfl

theorem exec_fixtureChange_of_due {s : State} (h : EdgeDue s s.panel.fixture false) :
    exec .fixtureChange s = .next s.flipFixture.fixtureGone := by
  simp only [exec, execFixtureChange, State.fixtureChange, (s.edgeDue_iff _ _).2 h, if_true]

theorem firstDue_iff (x : Panel) : x.firstDue = true ↔ 20 ≤ x.samples ∧ x.firstTaken = false := by
  simp [Panel.firstDue]

/-! ### Power-on values -/

/-- The seed of R28, with no wrap to reckon with: 31 × 2053 is below 65536. -/
theorem generatorSeed_toNat (id : BitVec 5) :
    (generatorSeed id).toNat = if id.toNat * 2053 % 65536 = 0 then 1 else id.toNat * 2053 % 65536 := by
  have hz : BitVec.ofNat 16 (id.toNat * 2053) = 0#16 ↔ id.toNat * 2053 % 65536 = 0 := by
    rw [BitVec.toNat_eq]; simp
  unfold generatorSeed
  by_cases h : id.toNat * 2053 % 65536 = 0
  · rw [if_pos (hz.2 h), if_pos h]; rfl
  · rw [if_neg (mt hz.1 h), if_neg h]; simp

theorem generatorSeed_ne_zero (id : BitVec 5) : generatorSeed id ≠ 0#16 := by
  intro h
  have hn := generatorSeed_toNat id
  rw [h] at hn
  split at hn <;> simp_all

theorem conditions_get_clear (c : Condition) : Conditions.clear.get c = false := by cases c <;> rfl

/-! ### The statements -/

/-- Settles O2: a step on an empty queue is the idle step, which ends the count only where its round has been taken. -/
theorem idleStepPassesTime : Obligations.IdleStepPassesTime := by
  unfold Obligations.IdleStepPassesTime
  intro s hp
  refine ⟨fun hr => ?_, fun hr => ⟨s.nextCount, ?_, by simp, by simp, by simp [hp]⟩⟩
  · simp [step_of_pending_nil hp, State.idleStep, hr]
  · simp [step_of_pending_nil hp, State.idleStep, hr]

/-- Settles O3: the reset is the literal state of `State.powerOn` but for the queue, so each field is read off; the seed and the conditions
have lemmas of their own. -/
theorem powerOnReset : Obligations.PowerOnReset := by
  unfold Obligations.PowerOnReset
  intro straps s
  refine ⟨_, rfl, ?_⟩
  simp only [State.setFreeIndex_clock]
  refine ⟨rfl, rfl, rfl, rfl, rfl, rfl, rfl, rfl, conditions_get_clear, rfl, rfl, rfl, rfl, rfl, rfl, rfl, rfl, rfl, rfl, rfl, rfl, rfl, rfl,
    rfl, rfl, rfl, generatorSeed_toNat straps, ?_⟩
  and_intros <;> rfl

/-- Settles O4: by whether the first states are due. -/
theorem debounceFirstState : Obligations.DebounceFirstState := by
  unfold Obligations.DebounceFirstState
  intro s
  refine ⟨fun h20 hf => ?_, fun h => ?_⟩
  · have hdue : s.panel.firstDue = true := (firstDue_iff _).2 ⟨h20, hf⟩
    cases hx : s.panel.fixture.raw <;>
      simp [exec, execDebounceFirstState, State.debounceFirstState, hdue, Panel.takeFirst, Debounce.first, hx, State.setPanel,
        State.startLoad, State.setLoad]
  · have hdue : s.panel.firstDue = false := by
      rw [← Bool.not_eq_true, firstDue_iff]
      rintro ⟨h20, hf⟩
      rcases h with h | h
      · omega
      · simp [hf] at h
    simp [exec, execDebounceFirstState, State.debounceFirstState, hdue]

/-- Settles O5: each edge command by whether its edge is due, and FIXTURE_FITTED by the run state. -/
theorem panelEdges : Obligations.PanelEdges := by
  unfold Obligations.PanelEdges
  refine ⟨fun s => ⟨fun h => ?_, fun h => ?_, fun h => ?_, fun h => ?_, fun h => ?_, fun h => ?_, fun h => ?_, fun h => ?_⟩,
    fun s h => ⟨fun hu => ?_, fun hu => ?_⟩⟩
  · simp [exec, execButtonPress, State.buttonPress, State.edgeDue_iff, h]
  · simp [exec, execButtonRelease, State.buttonRelease, State.edgeDue_iff, h]
  · simp [exec, execTraySeated, State.traySeated, State.edgeDue_iff, h]
  · simp [exec, execTrayRemoval, State.trayRemoval, State.edgeDue_iff, h]
  · simp [exec, execFixtureFitted, State.fixtureFitted, State.edgeDue_iff, h]
  · simp [exec, execFixtureChange, State.fixtureChange, State.edgeDue_iff, h]
  · simp [exec, execButtonRelease, State.buttonRelease, State.edgeDue_iff, h, flipButton_of_edge h]
  · simp [exec, execTraySeated, State.traySeated, State.edgeDue_iff, h, flipSeat_of_edge h, State.setTag, State.setOpenMarker]
  · simp [exec_fixtureFitted_of_due h, hu, flipFixture_of_edge h, State.startLoad, State.setLoad]
  · simp [exec_fixtureFitted_of_due h, hu, flipFixture_of_edge h]

/-- Settles O6: a press reads the run state; its START and its ABORT are those of an order taken in the state with the button down. -/
theorem buttonPressByRunState : Obligations.ButtonPressByRunState := by
  unfold Obligations.ButtonPressByRunState
  intro s h
  refine ⟨fun hu hl => ?_, fun hu hl => ?_, fun hd arg hr => ⟨fun hs => ?_, fun hs => ?_⟩⟩
  · simp [exec_buttonPress_of_due h, State.pressed, State.buttonDown, hu, hl, State.startLoad, State.setLoad]
  · rw [exec_buttonPress_of_due h]
    cases hload : s.load with
    | idle => exact absurd hload hl
    | header | image => simp [State.pressed, State.buttonDown, hu, hload]
  · have hpress : StartFinds .buttonPress s s.buttonDown := .inr ⟨rfl, h, hs, rfl⟩
    have horder : StartFinds (.start hd arg) s.buttonDown s.buttonDown := .inl ⟨hd, arg, rfl, hr, rfl⟩
    exact (exec_startFinds hpress).1.trans (exec_startFinds horder).1.symm
  · have hpress : AbortFinds .buttonPress s s.buttonDown := ⟨hs, .inr ⟨rfl, h, rfl⟩⟩
    have horder : AbortFinds (.abort hd arg) s.buttonDown s.buttonDown := ⟨hs, .inl ⟨hd, arg, rfl, hr, rfl⟩⟩
    exact (exec_abortFinds hpress).1.trans (exec_abortFinds horder).1.symm

/-- Settles O52: by the cases of the run state and the verdict, and of what the FAULT lamp tests. -/
theorem lamps : Obligations.Lamps := by
  unfold Obligations.Lamps
  intro s
  have hrun : (s.runLamp = .lit ↔ s.run.state = .running) ∧ (s.runLamp = .blinking ↔ s.run.state = .closing) := by
    unfold State.runLamp; cases s.run.state <;> simp
  have hdone : (s.doneLamp = .lit ↔ s.run.state = .done ∧ s.run.verdict = .pass)
      ∧ (s.doneLamp = .blinking ↔ s.run.state = .done ∧ (s.run.verdict = .fail ∨ s.run.verdict = .suspect ∨ s.run.verdict = .incomplete)) := by
    unfold State.doneLamp; cases s.run.state <;> cases s.run.verdict <;> simp
  have hfault : (s.faultLamp = .blinking ↔ s.run.conds.idClash = true ∨ s.run.conds.profileBad = true)
      ∧ (s.faultLamp = .lit ↔ s.run.conds.idClash = false ∧ s.run.conds.profileBad = false ∧ ∃ r ∈ s.table.records, 0 < r.localCount) := by
    unfold State.faultLamp
    have hany : s.table.records.any (fun r => decide (0 < r.localCount)) = true ↔ ∃ r ∈ s.table.records, 0 < r.localCount := by simp
    by_cases hbad : s.run.conds.idClash = true ∨ s.run.conds.profileBad = true
    · rw [if_pos (by simpa using hbad)]
      refine ⟨iff_of_true rfl hbad, iff_of_false (by simp) ?_⟩
      rintro ⟨hid, hpb, -⟩
      simp [hid, hpb] at hbad
    · rw [if_neg (by simpa using hbad), ← hany]
      obtain ⟨hid, hpb⟩ := not_or.1 hbad
      cases s.table.records.any (fun r => decide (0 < r.localCount)) <;> simp_all
  exact ⟨hrun.1, hrun.2, hdone.1, hdone.2, hfault.1, hfault.2, fun _ => rfl⟩

/-- Settles O53: after power-on every list is empty, every slot EMPTY and every phase OFF; the generator holds its seed. -/
theorem invariantsAtReset : Obligations.InvariantsAtReset := by
  unfold Obligations.InvariantsAtReset
  rintro straps s rfl
  refine ⟨?_, ?_, generatorSeed_ne_zero straps, ?_, ?_, ?_, ?_, ?_, ?_, ?_, ?_⟩
  · simp [State.WithinCapacity, State.powerOn, nonStepCount]
  · simp [State.LinesOfPhase, State.powerOn, Lines.unpowered]
  · simp [State.TagCanonical, State.powerOn]
  · simp [State.RosterOfPeers, State.powerOn]
  · simp [State.MatchesOfPeers, State.powerOn]
  · simp [State.Accounted, State.powerOn]
  · simp [State.StoreSound, State.powerOn, Eight.get_all]
  · simp [State.RunConsistent, State.powerOn]
  · simp [State.ClaimOfPhase, State.powerOn]
  · simp [State.QueueKept, State.powerOn]

end Sys2Proof.Proofs
end

section
/-! # Scope: WAITING entry, and a START accepted or refused (R7, R8, R50, R64) -/

namespace Sys2Proof.Proofs

open Sys2Proof.Machine

/-! ### The queue under a step notice -/

theorem insertStep_filter_claims {n : Notice} (h : n.isClaim = true) (q : List Notice) :
    (insertStep n q).filter (fun m => !m.isClaim) = q.filter (fun m => !m.isClaim) := by
  induction q with
  | nil => simp [insertStep, h]
  | cons a q ih =>
    unfold insertStep
    split
    · simp [List.filter_cons, ih]
    · simp [List.filter_cons, h]

theorem withStep_filter_claims {n : Notice} (h : n.isClaim = true) (p : LinePort) :
    (p.withStep n).filter (fun m => !m.isClaim) = p.queue.filter (fun m => !m.isClaim) := by
  unfold LinePort.withStep
  split
  · rename_i hq
    simp [hq, List.filter_cons, insertStep_filter_claims h]
  · exact insertStep_filter_claims h _

theorem handStep_port (n : Notice) (s : State) :
    (s.handStep n).port =
      if s.port.stationId = 0#5 then s.port
      else { s.port with queue := s.port.withStep n, tx := if s.port.tx = .idle then .defer else s.port.tx } := by
  unfold State.handStep State.standalone
  by_cases h : s.port.stationId = 0#5 <;> simp [h, LinePort.wake_spec]

/-! ### WAITING entry -/

/-- What a WAITING entry may do to the claim logic and the phase: a CANCELLING defers it, a sag in force holds it, a standalone station ramps, and
any other makes the budget check (R50, R57, R60). -/
theorem claimWaitingEntry_cases (p : Profile) (s : State) (hw : s.seq.phase = .waiting) :
    (((∃ d, s.claim.state = .cancellingSag d) ∨ s.claim.state = .cancellingEnd) ∧ s.claimWaitingEntry p = s)
      ∨ (s.rail.sag = .inForce ∧ s.claimWaitingEntry p = s.startHold)
      ∨ (s.rail.sag ≠ .inForce ∧ s.port.stationId = 0#5 ∧ s.claimWaitingEntry p = (s.setClaimState .idle).enterRamp p)
      ∨ (s.rail.sag ≠ .inForce ∧ s.port.stationId ≠ 0#5 ∧ s.claimWaitingEntry p = s.tryClaim p) := by
  have contest : (s.rail.sag = .inForce ∧ s.beginContest p = s.startHold)
      ∨ (s.rail.sag ≠ .inForce ∧ s.port.stationId = 0#5 ∧ s.beginContest p = (s.setClaimState .idle).enterRamp p)
      ∨ (s.rail.sag ≠ .inForce ∧ s.port.stationId ≠ 0#5 ∧ s.beginContest p = s.tryClaim p) := by
    unfold State.beginContest
    cases hg : s.rail.sag with
    | inForce => simp
    | armed n => by_cases hs : s.port.stationId = 0#5 <;> simp [State.standalone, hs, State.rampIfWaiting, hw]
  unfold State.claimWaitingEntry
  cases hc : s.claim.state with
  | cancellingEnd | cancellingSag => simp
  | idle | blocked | held | queued | standing => exact .inr contest

/-- What a WAITING entry keeps beyond its frame, whatever comes of it. -/
structure WaitingEntryKeeps (s t : State) : Prop where
  cycle : t.seq.cycle = s.seq.cycle
  done : t.seq.done = s.seq.done
  endRequest : t.seq.endRequest = s.seq.endRequest
  roster : t.claim.roster = s.claim.roster
  values : t.rail.values = s.rail.values
  sag : t.rail.sag = s.rail.sag
  ring : t.rail.ring = s.rail.ring
  trace : t.lis.trace = s.lis.trace
  identity : t.lis.identity = s.lis.identity
  stage : t.lis.stage = s.lis.stage
  stalled : t.lis.stalled = s.lis.stalled
  queue : t.port.queue.filter (fun n => !n.isClaim) = s.port.queue.filter (fun n => !n.isClaim)
  generator : t.port.generator = s.port.generator

theorem WaitingEntryKeeps.trans {s t u : State} (h : WaitingEntryKeeps s t) (k : WaitingEntryKeeps t u) : WaitingEntryKeeps s u :=
  ⟨k.cycle.trans h.cycle, k.done.trans h.done, k.endRequest.trans h.endRequest, k.roster.trans h.roster, k.values.trans h.values,
    k.sag.trans h.sag, k.ring.trans h.ring, k.trace.trans h.trace, k.identity.trans h.identity, k.stage.trans h.stage,
    k.stalled.trans h.stalled, k.queue.trans h.queue, k.generator.trans h.generator⟩

theorem changePhase_waitingEntryKeeps (ph : Phase) (s : State) : WaitingEntryKeeps s (s.changePhase ph) := by
  constructor <;> simp

theorem setClaimState_waitingEntryKeeps (c : ClaimState) (s : State) : WaitingEntryKeeps s (s.setClaimState c) := by
  constructor <;> simp [State.setClaimState]

theorem enterRamp_waitingEntryKeeps (p : Profile) (s : State) : WaitingEntryKeeps s (s.enterRamp p) := by
  constructor <;> simp [State.enterRamp]

theorem tryClaim_waitingEntryKeeps (p : Profile) (s : State) : WaitingEntryKeeps s (s.tryClaim p) := by
  rcases State.tryClaim_spec p s with ⟨-, h⟩ | ⟨-, h⟩
  · rw [h]
    have hclaim : (s.ownClaim p).isClaim = true := rfl
    constructor <;> (try simp)
    · rw [handStep_port]
      split
      · rfl
      · exact withStep_filter_claims hclaim s.port
    · rw [handStep_port]
      split <;> rfl
  · rw [h]
    constructor <;> simp

theorem enterWaiting_keeps (p : Profile) (s : State) : WaitingEntryKeeps s (s.enterWaiting p) := by
  refine (changePhase_waitingEntryKeeps .waiting s).trans ?_
  change WaitingEntryKeeps (s.changePhase .waiting) ((s.changePhase .waiting).claimWaitingEntry p)
  rcases claimWaitingEntry_cases p (s.changePhase .waiting) (by simp) with ⟨-, h⟩ | ⟨-, h⟩ | ⟨-, -, h⟩ | ⟨-, -, h⟩ <;> rw [h]
  · constructor <;> rfl
  · exact setClaimState_waitingEntryKeeps _ _
  · exact (setClaimState_waitingEntryKeeps _ _).trans (enterRamp_waitingEntryKeeps p _)
  · exact tryClaim_waitingEntryKeeps p _

theorem enterRamp_phase (p : Profile) (s : State) : (s.enterRamp p).seq.phase = .ramp := by simp [State.enterRamp]

/-- The phase after a WAITING entry: WAITING on the line and under a sag, and RAMP for a standalone station that nothing holds back. -/
theorem enterWaiting_phase (p : Profile) (s : State) :
    (s.port.stationId ≠ 0#5 ∨ s.rail.sag = .inForce → (s.enterWaiting p).seq.phase = .waiting)
      ∧ (s.port.stationId = 0#5 → s.rail.sag ≠ .inForce → s.claim.state = .idle → (s.enterWaiting p).seq.phase = .ramp)
      ∧ (s.enterWaiting p).seq.phase ≠ .off := by
  have hs : (s.changePhase .waiting).seq.phase = .waiting := State.changePhase_phase _ _
  unfold State.enterWaiting
  rcases claimWaitingEntry_cases p (s.changePhase .waiting) hs with ⟨hc, h⟩ | ⟨hg, h⟩ | ⟨hg, hid, h⟩ | ⟨hg, hid, h⟩ <;> rw [h]
  · refine ⟨fun _ => hs, fun _ _ hi => ?_, by simp⟩
    simp [hi] at hc
  · refine ⟨fun _ => by simp, fun _ hn => ?_, by simp⟩
    simp [hn] at hg
  · refine ⟨fun hor => ?_, fun _ _ _ => enterRamp_phase _ _, by simp [enterRamp_phase]⟩
    simp_all
  · refine ⟨fun _ => by simp, fun h0 => ?_, by simp⟩
    simp [h0] at hid

/-! ### START -/

/-- The state that an accepted START has cleared, with the counts of its first cycle, as it enters WAITING (R8, R61). -/
def runBegun (p : Profile) (s : State) : State :=
  (s.clearForRun p).setSeq { (s.clearForRun p).seq with cycle := 1#8, done := 0#8, endRequest := .none }

theorem acceptStart_eq (p : Profile) (s : State) : s.acceptStart p = (runBegun p s).enterWaiting p := rfl

theorem takeStart_of_ready {s : State} {p : Profile} (hst : s.run.state = .ready ∨ s.run.state = .done) (hp : s.profile = some p) :
    s.takeStart = if s.panel.seat.level then s.acceptStart p else s.setLastOrder .refusedUnseated := by
  unfold State.takeStart
  rcases hst with h | h <;> simp [h, hp]

theorem takeStart_of_busy {s : State} (h : s.run.state = .unconfigured ∨ s.run.state = .running ∨ s.run.state = .closing) :
    s.takeStart = s.setLastOrder .refusedState := by
  unfold State.takeStart
  rcases h with h | h | h <;> simp [h]

/-- Settles O7: the state cleared for the run enters WAITING with cycle 1, and a WAITING entry touches neither what was cleared nor what is kept. -/
theorem startAccepted : Obligations.StartAccepted := by
  unfold Obligations.StartAccepted
  intro c s r p hc hp hst hseat
  obtain ⟨hexec, x, rfl, hx⟩ := exec_startFinds hc
  refine ⟨_, hexec, ?_⟩
  rw [takeStart_of_ready (s := s.setPanel x) hst hp]
  simp only [State.setPanel_panel, hx, hseat, if_true, acceptStart_eq]
  have keeps := enterWaiting_keeps p (runBegun p (s.setPanel x))
  obtain ⟨hwait, hramp, -⟩ := enterWaiting_phase p (runBegun p (s.setPanel x))
  refine ⟨?_, ?_, ?_, ?_, keeps.trace, keeps.identity, keeps.stage, keeps.stalled, ?_, ?_, keeps.cycle, keeps.done, keeps.endRequest, ?_, ?_, ?_,
    ?_, ?_, ?_, ?_⟩
  · simp [runBegun, State.clearForRun, RunControl.started, Conditions.runCleared, Conditions.clear]
  · simp [runBegun, State.clearForRun]
  · simp [runBegun, State.clearForRun]
  · simp [runBegun, State.clearForRun, SnapshotStore.cleared]
  · exact fun h => hwait (by simpa [runBegun] using h)
  · exact fun n hid hg hi => hramp (by simpa [runBegun] using hid) (by simp [runBegun, hg]) (by simpa [runBegun] using hi)
  · exact keeps.roster.trans (by simp [runBegun])
  · exact keeps.ring.trans (by simp [runBegun])
  · exact keeps.sag.trans (by simp [runBegun])
  · exact keeps.values.trans (by simp [runBegun])
  · exact keeps.queue.trans (by simp [runBegun])
  · exact keeps.generator.trans (by simp [runBegun])
  · simp [SameBut, runBegun]

/-- Settles O8: by the run state and the seat that `takeStart` reads. -/
theorem startJudged : Obligations.StartJudged := by
  unfold Obligations.StartJudged
  intro c s r hc
  obtain ⟨hexec, x, rfl, hx⟩ := exec_startFinds hc
  rw [hexec]
  refine ⟨fun hst => ?_, fun hst hp hseat => ?_, fun hst hp hseat => ?_⟩
  · rw [takeStart_of_busy (s := s.setPanel x) hst]
    rfl
  · obtain ⟨p, hp⟩ := Option.ne_none_iff_exists'.1 hp
    rw [takeStart_of_ready (s := s.setPanel x) hst hp]
    simp [hx, hseat, State.setLastOrder, State.setRun, State.setPanel]
  · obtain ⟨p, hp⟩ := Option.ne_none_iff_exists'.1 hp
    refine ⟨_, rfl, ?_⟩
    rw [takeStart_of_ready (s := s.setPanel x) hst hp]
    simp only [State.setPanel_panel, hx, hseat, if_true, acceptStart_eq]
    obtain ⟨-, -, hoff⟩ := enterWaiting_phase p (runBegun p (s.setPanel x))
    refine ⟨?_, ?_, ?_, hoff⟩ <;> simp [runBegun, State.clearForRun, RunControl.started]

end Sys2Proof.Proofs
end

section
/-! # Scope: the end of a run by an abort or by a stop-on-fail (R9, R58, R59, R74, R75, R144, R145) -/

namespace Sys2Proof.Proofs

open Sys2Proof.Machine

/-! ### The claim logic as the station's part in a run ends (R58, R59) -/

/-- What the claim logic is told as the station's part in a run ends: the end in WAITING, outcome 3 from RAMP, and nothing in another phase. -/
def partEnded (s : State) : State :=
  match s.seq.phase with
  | .waiting => s.claimRunEnding
  | .ramp => s.endStanding 3#8
  | _ => s

theorem cancelClaim_eq (s : State) : ∃ x, s.cancelClaim = s.setPort x := by
  unfold State.cancelClaim
  split <;> exact ⟨_, rfl⟩

theorem claimRunEnding_eq (s : State) : ∃ x c, s.claimRunEnding = (s.setPort x).setClaim c ∧ c.roster = s.claim.roster := by
  obtain ⟨x, hx⟩ := cancelClaim_eq s
  unfold State.claimRunEnding
  cases s.claim.state with
  | idle | standing | cancellingEnd => exact ⟨s.port, s.claim, rfl, rfl⟩
  | blocked | held | cancellingSag => exact ⟨s.port, _, rfl, rfl⟩
  | queued =>
    dsimp only
    rw [hx]
    split <;> exact ⟨x, _, rfl, rfl⟩

/-- The own CLAIM on the wire at the end of the part is marked for cancelling, and the port is otherwise as it was (R37, R59). -/
theorem claimRunEnding_of_onWire {s : State} (hc : s.claim.state = .queued) (hw : s.port.claimOnWire = true) :
    s.claimRunEnding = (s.setPort { s.port with cancelAsked := true }).setClaim { s.claim with state := .cancellingEnd } := by
  simp [State.claimRunEnding, hc, hw, State.cancelClaim, State.setClaimState]

/-- A standing claim ends with its SETTLED, which touches port and claim alone (R58, R60). -/
theorem endStanding_eq (o : Byte) (s : State) :
    ∃ x c, s.endStanding o = (s.setPort x).setClaim c ∧ c.roster = s.claim.roster ∧ StandingEnded o s ((s.setPort x).setClaim c) := by
  rcases State.endStanding_spec o s with ⟨hst, h⟩ | ⟨hst, h⟩
  · rw [h]
    rcases State.handStep_spec (Notice.fresh (.settled o) 0#8 s.clock) s with ⟨hid, hh⟩ | ⟨hid, q, hq, -, hh⟩ <;> rw [hh]
    · exact ⟨s.port, _, rfl, rfl, fun _ => ⟨rfl, fun hne => absurd hid hne⟩, fun _ _ => ⟨rfl, rfl⟩⟩
    · refine ⟨_, _, rfl, rfl, fun _ => ⟨rfl, fun _ => ⟨_, (hq _).2 (.inl rfl), rfl, rfl⟩⟩, fun hz => absurd hz hid⟩
  · rw [h]
    exact ⟨s.port, s.claim, rfl, rfl, fun hs => absurd hs hst, fun _ hi => ⟨hi, rfl⟩⟩

theorem partEnded_eq (s : State) :
    ∃ x c, partEnded s = (s.setPort x).setClaim c ∧ c.roster = s.claim.roster
      ∧ (s.seq.phase = .ramp → StandingEnded 3#8 s ((s.setPort x).setClaim c))
      ∧ (s.seq.phase ≠ .waiting → s.seq.phase ≠ .ramp → x = s.port ∧ c = s.claim) := by
  unfold partEnded
  cases s.seq.phase with
  | waiting =>
    obtain ⟨x, c, h, hr⟩ := claimRunEnding_eq s
    exact ⟨x, c, h, hr, by simp, by simp⟩
  | ramp =>
    obtain ⟨x, c, h, hr, hs⟩ := endStanding_eq 3#8 s
    exact ⟨x, c, h, hr, fun _ => hs, by simp⟩
  | off | boot | stress | drain | rest => exact ⟨s.port, s.claim, rfl, rfl, by simp, by simp⟩

/-! ### The sequencer's entries (R61, R62, R72) -/

theorem enterDrain_seq (p : Profile) (s : State) :
    (s.enterDrain p).seq =
      { s.seq with phase := .drain, rampDeadline := none, onDeadline := none, offDeadline := none,
                   drainDeadline := some (s.clock + BitVec.ofNat 32 p.drainTimeout), lines := Lines.unpowered } := by
  simp [State.enterDrain, State.changePhase, Sequencer.phaseChanged, keepIf, Phase.lines, Phase.runs, timeAfter]

theorem enterOff_seq (s : State) :
    s.enterOff.seq =
      { s.seq with phase := .off, endRequest := .none, rampDeadline := none, onDeadline := none, drainDeadline := none, offDeadline := none,
                   lines := Lines.unpowered } := by
  simp [State.enterOff, State.changePhase, Sequencer.phaseChanged, keepIf, Phase.lines, Phase.runs]

@[simp] theorem enterOff_rail (s : State) :
    s.enterOff.rail.ring = s.rail.ring ∧ s.enterOff.rail.sag = s.rail.sag ∧ s.enterOff.rail.values = s.rail.values := by
  simp [State.enterOff]

@[simp] theorem enterOff_lis (s : State) : s.enterOff.lis.trace = s.lis.trace := by simp [State.enterOff]

theorem requestEnd_eq (e : EndRequest) (s : State) :
    s.requestEnd e = s.setSeq { s.seq with endRequest := if s.seq.endRequest = .none then e else s.seq.endRequest } := by
  unfold State.requestEnd
  cases h : s.seq.endRequest with
  | none => rfl
  | stopped | aborted => simp only [reduceCtorEq, if_false]; rw [← h]; rfl

/-! ### Entry to CLOSING (R10, R11) -/

theorem dropOccurrences_of_nil {s : State} (h : s.judge.occurrences = []) : s.dropOccurrences = s := by
  have hj : { s.judge with occurrences := [] } = s.judge := by rw [← h]
  simp only [State.dropOccurrences, h, List.foldl_nil, hj]
  rfl

theorem closingAdvance_eq (s : State) :
    s.closingAdvance = s.setClosing (if s.closing = .drain ∧ s.judge.occurrences = [] then .headers else s.closing) := by
  unfold State.closingAdvance
  split
  · next hc ho => simp [hc, ho]
  · next hne => rw [if_neg (fun ⟨hc, ho⟩ => hne hc ho)]; rfl

/-- Entry to CLOSING with nothing to drop: after another end than an abort, or with no occurrence open. -/
theorem enterClosing_eq {reason : EndReason} {s : State} (h : reason ≠ .aborted ∨ s.judge.occurrences = []) :
    s.enterClosing reason =
      (s.setRun { s.run with state := .closing, endTime := s.clock, endReason := reason }).setClosing
        (if s.judge.occurrences = [] then .headers else .drain) := by
  have hdrop : ∀ u : State, u.judge = s.judge → (if reason = .aborted then u.dropOccurrences else u) = u := by
    intro u hu
    split
    · exact dropOccurrences_of_nil (by rw [hu]; exact h.resolve_left (fun hn => hn ‹_›))
    · rfl
  simp only [State.enterClosing]
  rw [hdrop _ (by simp), closingAdvance_eq]
  by_cases ho : s.judge.occurrences = [] <;> simp [ho] <;> rfl

/-! ### A run ended by an abort or by a stop-on-fail (R74, R75) -/

/-- The one path of R74 and R75, with its end request and its end reason. -/
def runEnding (e : EndRequest) (reason : EndReason) (p : Profile) (s : State) : State :=
  match s.seq.phase with
  | .waiting => (partEnded s).endRun reason
  | .rest => (partEnded s).endRun reason
  | .drain => s.requestEnd e
  | .off => s
  | _ => ((partEnded s).requestEnd e).enterDrain p

theorem takeStop_eq (p : Profile) (s : State) : s.takeStop p = runEnding .stopped .stopped p s := by
  unfold State.takeStop runEnding partEnded
  cases s.seq.phase <;> rfl

theorem takeAbort_eq (p : Profile) (s : State) : s.takeAbort p = runEnding .aborted .aborted p s := by
  unfold State.takeAbort runEnding partEnded
  cases s.seq.phase <;> rfl

section
variable {e : EndRequest} {reason : EndReason} {p : Profile} {s : State}

/-- From WAITING and REST the run is at its end: OFF, and the closing work begins. -/
theorem runEnding_of_unpowered (hph : s.seq.phase = .waiting ∨ s.seq.phase = .rest) (hr : reason ≠ .aborted ∨ s.judge.occurrences = []) :
    ∃ x c, runEnding e reason p s =
        ((((s.setPort x).setClaim c).enterOff).setRun { s.run with state := .closing, endTime := s.clock, endReason := reason }).setClosing
          (if s.judge.occurrences = [] then .headers else .drain)
      ∧ c.roster = s.claim.roster ∧ (s.seq.phase = .rest → x = s.port ∧ c = s.claim) := by
  obtain ⟨x, c, h, hroster, -, hkeep⟩ := partEnded_eq s
  have he : runEnding e reason p s = (partEnded s).endRun reason := by
    unfold runEnding
    rcases hph with h | h <;> simp [h]
  refine ⟨x, c, ?_, hroster, fun hrest => hkeep (by simp [hrest]) (by simp [hrest])⟩
  rw [he, h, State.endRun, enterClosing_eq (by simpa using hr)]
  simp

/-- From RAMP, BOOT and STRESS the board is drained first, with the end request set. -/
theorem runEnding_of_powered (hph : s.seq.phase = .ramp ∨ s.seq.phase = .boot ∨ s.seq.phase = .stress) :
    ∃ x c, runEnding e reason p s = (((s.setPort x).setClaim c).requestEnd e).enterDrain p
      ∧ c.roster = s.claim.roster ∧ (s.seq.phase = .ramp → StandingEnded 3#8 s ((s.setPort x).setClaim c))
      ∧ (s.seq.phase ≠ .ramp → x = s.port ∧ c = s.claim) := by
  obtain ⟨x, c, h, hroster, hramp, hkeep⟩ := partEnded_eq s
  refine ⟨x, c, ?_, hroster, hramp, hkeep (by rcases hph with h | h | h <;> simp [h])⟩
  rw [← h]
  unfold runEnding
  rcases hph with h | h | h <;> simp [h]

theorem runEnding_of_drain (hph : s.seq.phase = .drain) : runEnding e reason p s = s.requestEnd e := by
  simp [runEnding, hph]

theorem runEnding_of_off (hph : s.seq.phase = .off) : runEnding e reason p s = s := by
  simp [runEnding, hph]

end

/-- What the end of a run keeps in every phase, where there is nothing to drop. -/
structure RunEndingKeeps (s t : State) : Prop where
  lastOrder : t.run.lastOrder = s.run.lastOrder
  conds : t.run.conds = s.run.conds
  table : t.table = s.table
  judge : t.judge = s.judge
  cycle : t.seq.cycle = s.seq.cycle
  done : t.seq.done = s.seq.done
  roster : t.claim.roster = s.claim.roster
  ring : t.rail.ring = s.rail.ring

theorem runEnding_keeps {e : EndRequest} {reason : EndReason} {p : Profile} {s : State}
    (hr : reason ≠ .aborted ∨ s.judge.occurrences = []) : RunEndingKeeps s (runEnding e reason p s) := by
  cases hph : s.seq.phase with
  | waiting | rest =>
    obtain ⟨x, c, h, hroster, -⟩ := runEnding_of_unpowered (e := e) (p := p) (s := s) (by simp [hph]) hr
    rw [h]
    constructor <;> simp [enterOff_seq, hroster]
  | ramp | boot | stress =>
    obtain ⟨x, c, h, hroster, -⟩ := runEnding_of_powered (e := e) (reason := reason) (p := p) (s := s) (by simp [hph])
    rw [h]
    constructor <;> simp [enterDrain_seq, requestEnd_eq, hroster]
    simp [State.enterDrain]
  | drain =>
    rw [runEnding_of_drain hph]
    constructor <;> simp [requestEnd_eq]
  | off =>
    rw [runEnding_of_off hph]
    constructor <;> rfl

/-! ### ABORT -/

@[simp] theorem setCondition_stationId (c : Condition) (s : State) : (s.setCondition c).port.stationId = s.port.stationId := by
  obtain ⟨-, -, -, -, -, h | ⟨-, -, -, -, h⟩⟩ := State.setCondition_spec c s <;> rw [h]
  rfl

/-- The state of an accepted ABORT before the sequencer takes it (R9). -/
def abortNoted (s : State) : State := ((s.setLastOrder .accepted).setCondition .aborted).dropOccurrences

theorem acceptAbort_eq (p : Profile) (s : State) : s.acceptAbort p = runEnding .aborted .aborted p (abortNoted s) := takeAbort_eq p _

theorem abortNoted_run (s : State) :
    (abortNoted s).run.lastOrder = .accepted ∧ (abortNoted s).run.conds.aborted = true ∧ (abortNoted s).run.state = s.run.state := by
  obtain ⟨hset, -, -, -, hrun, -⟩ := State.setCondition_spec .aborted (s.setLastOrder .accepted)
  have h : (abortNoted s).run = ((s.setLastOrder .accepted).setCondition .aborted).run := by simp [abortNoted]
  rw [h]
  refine ⟨by rw [hrun]; rfl, hset, by rw [hrun]; rfl⟩

@[simp] theorem abortNoted_judge (s : State) : (abortNoted s).judge = { s.judge with occurrences := [] } := by
  simp [abortNoted, State.dropOccurrences_spec]

@[simp] theorem abortNoted_table (s : State) :
    (abortNoted s).table = { s.table with
      records := s.table.records.map (fun r => { r with unjudged := satInc^[s.openOf r.sig] r.unjudged }) } := by
  simp [abortNoted, State.dropOccurrences_spec, State.openOf]

@[simp] theorem abortNoted_frame (s : State) :
    (abortNoted s).clock = s.clock ∧ (abortNoted s).seq = s.seq ∧ (abortNoted s).claim = s.claim ∧ (abortNoted s).rail = s.rail
      ∧ (abortNoted s).port.stationId = s.port.stationId := by
  simp [abortNoted]

theorem takeAbortOrder_of_running {s : State} {p : Profile} (hst : s.run.state = .running) (hp : s.profile = some p) :
    s.takeAbortOrder = s.acceptAbort p := by
  simp [State.takeAbortOrder, hst, hp]

theorem takeAbortOrder_of_not_running {s : State} (hst : s.run.state ≠ .running) : s.takeAbortOrder = s.setLastOrder .refusedState := by
  unfold State.takeAbortOrder
  cases h : s.run.state with
  | running => exact absurd h hst
  | unconfigured | ready | closing | done => rfl

/-- Settles O9: the order is noted and the occurrences dropped before the sequencer takes its abort path, so that nothing is left to drop at CLOSING
entry; the path is read by phase. -/
theorem abortTaken : Obligations.AbortTaken := by
  unfold Obligations.AbortTaken
  refine ⟨fun c s r p hc hp => ?_, fun h arg s hr hst => ?_⟩
  · obtain ⟨hexec, hst, x, rfl⟩ := exec_abortFinds hc
    obtain ⟨hlast, habort, hstate⟩ := abortNoted_run (s.setPanel x)
    have hnil : (abortNoted (s.setPanel x)).judge.occurrences = [] := by simp
    have keeps := runEnding_keeps (e := .aborted) (p := p) (.inr hnil : EndReason.aborted ≠ .aborted ∨ _)
    refine ⟨_, hexec, ?_⟩
    have hframe := State.acceptAbort_frame p (s.setPanel x)
    rw [takeAbortOrder_of_running (s := s.setPanel x) hst hp]
    rw [acceptAbort_eq] at hframe ⊢
    refine ⟨keeps.lastOrder.trans hlast, by rw [keeps.conds]; exact habort, by rw [keeps.judge]; exact hnil, by rw [keeps.judge]; simp,
      by rw [keeps.table]; simp [State.openOf], fun hph => ?_, fun hph => ?_, fun hph => ?_, fun hph hclaim => ?_, keeps.cycle.trans (by simp),
      keeps.done.trans (by simp), keeps.roster.trans (by simp), keeps.ring.trans (by simp), ?_⟩
    · obtain ⟨y, c, h, -⟩ := runEnding_of_unpowered (e := .aborted) (p := p) (s := abortNoted (s.setPanel x)) (by simpa using hph)
        (.inr hnil : EndReason.aborted ≠ .aborted ∨ _)
      rw [h]
      simp [enterOff_seq]
    · obtain ⟨y, c, h, -⟩ := runEnding_of_powered (e := .aborted) (reason := .aborted) (p := p) (s := abortNoted (s.setPanel x)) (by simpa using hph)
      rw [h]
      simp [enterDrain_seq, requestEnd_eq, hstate, hst]
    · rw [runEnding_of_drain (by simpa using hph)]
      simp [requestEnd_eq, hstate, hst]
    · obtain ⟨y, c, h, -, hramp, -⟩ := runEnding_of_powered (e := .aborted) (reason := .aborted) (p := p) (s := abortNoted (s.setPanel x))
        (by simp [hph])
      obtain ⟨hend, -⟩ := hramp (by simpa using hph)
      rw [h]
      simpa using hend (by simpa using hclaim)
    · simpa [SameBut] using hframe
  · simp only [exec, execAbort, State.received_reaches _ _ _ hr, takeAbortOrder_of_not_running hst]
    rfl

end Sys2Proof.Proofs
end

section
/-! # Scope: the close of the oldest occurrence (R127, R144, R145) -/

namespace Sys2Proof.Proofs

open Sys2Proof.Machine

theorem common_iff (p : Profile) (o : Occurrence) :
    o.common p = true ↔ p.quorum ≤ o.matched.length ∨ (o.sagFlag = true ∧ (p.classOf o.sig).supplySensitive = true) := by
  simp [Occurrence.common]

theorem judge_sig (p : Profile) (o : Occurrence) (r : Record) : (o.judge p r).sig = r.sig := by
  unfold Occurrence.judge
  split <;> rfl

theorem update_map_sig (g : Sig) {f : Record → Record} (hf : ∀ r, (f r).sig = r.sig) (t : SightingTable) :
    (t.update g f).records.map Record.sig = t.records.map Record.sig := by
  simp only [SightingTable.update, List.map_map]
  refine List.map_congr_left fun r _ => ?_
  simp only [Function.comp_apply]
  split
  · exact hf r
  · rfl

/-- The state with its oldest occurrence judged and counted. -/
@[simp] theorem closeOccurrence_table (p : Profile) (o : Occurrence) (rest : List Occurrence) (s : State) :
    (s.closeOccurrence p o rest).table = s.table.update o.sig (o.judge p) := rfl

@[simp] theorem closeOccurrence_judge (p : Profile) (o : Occurrence) (rest : List Occurrence) (s : State) :
    (s.closeOccurrence p o rest).judge = { s.judge with occurrences := rest } := rfl

section
variable {s : State} {p : Profile} {o : Occurrence} {rest : List Occurrence} {r : Record}

/-- The test made on the closed state is R145's, which counts this close. -/
theorem stopsRun_iff (ho : s.judge.occurrences = o :: rest) (hr : s.table.find o.sig = some r)
    (hdue : 0 ≤ (s.clock - o.closeTime).toInt) : (s.closeOccurrence p o rest).stopsRun p o = true ↔ CloseStops p s := by
  have hfind : (s.closeOccurrence p o rest).table.find o.sig = some (o.judge p r) := by
    simp [SightingTable.find_update_same _ _ (judge_sig p o), hr]
  have hlocal : o.common p = false → (o.judge p r).localCount = satInc r.localCount := fun h => by
    simp [Occurrence.judge, h, Record.judgedLocal]
  unfold State.stopsRun
  simp only [hfind, Bool.and_eq_true, Bool.not_eq_true', decide_eq_true_eq]
  constructor
  · rintro ⟨⟨⟨hc, hstop⟩, hpos⟩, hle⟩
    have hnot : ¬o.common p = true := by simp [hc]
    rw [common_iff, not_or, not_and_or, not_le, Bool.not_eq_true, Bool.not_eq_true] at hnot
    obtain ⟨hq, hs⟩ := hnot
    exact ⟨o, rest, r, ho, hr, hdue, hq, hs, hstop, hpos, by rwa [hlocal hc] at hle⟩
  · rintro ⟨o', rest', r', ho', hr', -, hq, hs, hstop, hpos, hle⟩
    obtain ⟨rfl, rfl⟩ := List.cons.inj (ho.symm.trans ho')
    obtain rfl := Option.some.inj (hr.symm.trans hr')
    have hc : o.common p = false := by
      rw [← Bool.not_eq_true, common_iff, not_or, not_and_or, not_le, Bool.not_eq_true, Bool.not_eq_true]
      exact ⟨hq, hs⟩
    exact ⟨⟨⟨hc, hstop⟩, hpos⟩, by rwa [hlocal hc]⟩

theorem occurrenceClose_of_not_due (hp : s.profile = some p) (ho : s.judge.occurrences = o :: rest)
    (h : (s.clock - o.closeTime).toInt < 0) : s.occurrenceClose = s := by
  have hn : ¬expired s.clock o.closeTime = true := by rw [expired_iff]; omega
  simp [State.occurrenceClose, hp, ho, hn]

/-- A close that is due stops the run where R145 has it stop, and lets the closing work advance. -/
theorem occurrenceClose_of_due (hp : s.profile = some p) (ho : s.judge.occurrences = o :: rest) (hr : s.table.find o.sig = some r)
    (h : 0 ≤ (s.clock - o.closeTime).toInt) :
    ∃ v, s.occurrenceClose = v.closingAdvance
      ∧ (CloseStops p s → v = runEnding .stopped .stopped p (s.closeOccurrence p o rest))
      ∧ (¬CloseStops p s → v = s.closeOccurrence p o rest) := by
  have he := (expired_iff s.clock o.closeTime).2 h
  refine ⟨if (s.closeOccurrence p o rest).stopsRun p o then runEnding .stopped .stopped p (s.closeOccurrence p o rest)
    else s.closeOccurrence p o rest, ?_, fun hstop => if_pos ((stopsRun_iff ho hr h).2 hstop), fun hstop => if_neg (mt (stopsRun_iff ho hr h).1 hstop)⟩
  simp only [State.occurrenceClose, hp, ho, he, if_true, takeStop_eq]

end

/-- Settles O37: the record counts the close before the run is stopped, and neither the stop nor the advance of the closing work touches the
table; the stop is read by phase. -/
theorem occurrenceCloses : Obligations.OccurrenceCloses := by
  unfold Obligations.OccurrenceCloses
  intro s p o rest r hp ho hr
  refine ⟨fun h => ?_, fun hdue => ⟨_, rfl, ?_⟩⟩
  · simp [exec, execOccurrenceClose, occurrenceClose_of_not_due hp ho h]
  obtain ⟨u, hu⟩ : ∃ u, u = s.closeOccurrence p o rest := ⟨_, rfl⟩
  obtain ⟨v, ht, hstops, hgoes⟩ := occurrenceClose_of_due hp ho hr hdue
  rw [← hu] at hstops hgoes
  have keeps : RunEndingKeeps u v := by
    by_cases hstop : CloseStops p s
    · rw [hstops hstop]
      exact runEnding_keeps (.inl (by simp))
    · rw [hgoes hstop]
      constructor <;> rfl
  have hjudge : v.judge = { s.judge with occurrences := rest } := by rw [keeps.judge, hu, closeOccurrence_judge]
  have htable : v.table = s.table.update o.sig (o.judge p) := by rw [keeps.table, hu, closeOccurrence_table]
  have hphase : u.seq = s.seq := by simp [hu]
  rw [ht, closingAdvance_eq]
  simp only [hjudge]
  refine ⟨by simpa using hjudge, ?_, ?_, ?_, fun g hg => ?_, fun hc => ?_, fun hc => ?_, fun hc => ?_,
    fun hstop request hreq => ⟨fun hph => ?_, fun hph => ?_, fun hph => ?_⟩⟩
  · simp [htable, update_map_sig _ (judge_sig p o)]
  · simp [htable, SightingTable.update]
  · simp [htable, SightingTable.update]
  · simp [htable, SightingTable.find_update_other _ _ _ (judge_sig p o) _ hg]
  · simp [htable, SightingTable.find_update_same _ _ (judge_sig p o), hr, Occurrence.judge, (common_iff p o).2 hc, Record.judgedCommon]
  · simp [htable, SightingTable.find_update_same _ _ (judge_sig p o), hr, Occurrence.judge, mt (common_iff p o).1 hc, Record.judgedLocal]
  · have hvu : v = u := by
      by_cases hstop : CloseStops p s
      · rw [hstops hstop, runEnding_of_off (by simpa [hphase, hstop] using hc)]
      · exact hgoes hstop
    simp [hvu, hu, SameBut]
  · obtain ⟨x, c, h, -, hramp, hkeep⟩ := runEnding_of_powered (e := .stopped) (reason := .stopped) (p := p) (s := u) (by simpa [hphase] using hph)
    rw [hstops hstop, h]
    refine ⟨by simp [enterDrain_seq, requestEnd_eq, hu, hreq, Lines.unpowered], by simp [hu], fun hr => ?_, fun hr => ?_, by simp [SameBut, hu]⟩
    · simpa [StandingEnded, hu] using hramp (by simpa [hphase] using hr)
    · obtain ⟨hx, hc⟩ := hkeep (by simpa [hphase] using hr)
      simp [hx, hc, hu]
  · rw [hstops hstop, runEnding_of_drain (by simpa [hphase] using hph), requestEnd_eq]
    simp [hu, hreq, SameBut]
  · obtain ⟨x, c, h, -, hkeep⟩ := runEnding_of_unpowered (e := .stopped) (reason := .stopped) (p := p) (s := u) (by simpa [hphase] using hph)
      (.inl (by simp))
    rw [hstops hstop, h]
    refine ⟨by simp [enterOff_seq], by simp [enterOff_seq], by simp [enterOff_seq], by simp [enterOff_seq, hu], by simp [enterOff_seq, hu],
      by simp [hu], ?_, fun hr => ?_, by simp [SameBut, hu]⟩
    · by_cases hnil : rest = [] <;> simp [hnil, hu]
    · obtain ⟨hx, hc⟩ := hkeep (by simpa [hphase] using hr)
      simp [hx, hc, hu]

end Sys2Proof.Proofs
end

section
/-! # Scope: what a hand-over reads and leaves, and the verdict (R35, R165, R166, R176) -/

namespace Sys2Proof.Proofs

open Sys2Proof.Machine

/-! ### A hand-over reads the port, the conditions and the alert alone -/

theorem handNotice_run_cases (n : Notice) (s : State) :
    (s.handNotice n).1.run = s.run ∨ (s.handNotice n).1.run = s.run.refused := by
  obtain ⟨halone, hroom, hfull⟩ := State.handNotice_handed n s
  by_cases hid : s.port.stationId = 0#5
  · exact .inl (by rw [(halone hid).2])
  · by_cases hr : Room s
    · exact .inl (by rw [(hroom hid hr).2])
    · exact .inr (by rw [(hfull hid hr).2])

/-- A hand-over changes of the run block the conditions and the alert at most. -/
theorem handNotice_run (n : Notice) (s : State) :
    (s.handNotice n).1.run = { s.run with conds := (s.handNotice n).1.run.conds, alert := (s.handNotice n).1.run.alert } := by
  rcases handNotice_run_cases n s with h | h <;> rw [h]
  rfl

/-- Of the conditions it sets OUTBOUND_FULL at most. -/
theorem handNotice_conds_get (n : Notice) (s : State) {d : Condition} (hd : d ≠ .outboundFull) :
    (s.handNotice n).1.run.conds.get d = s.run.conds.get d := by
  rcases handNotice_run_cases n s with h | h <;> rw [h]
  exact (Conditions.get_put .outboundFull d true s.run.conds).trans (if_neg hd)

/-- Two states with the same port, conditions and alert take a notice alike. -/
theorem handNotice_agree {s u : State} (n : Notice) (hport : u.port = s.port) (hconds : u.run.conds = s.run.conds)
    (halert : u.run.alert = s.run.alert) :
    (u.handNotice n).1.port = (s.handNotice n).1.port ∧ (u.handNotice n).1.run.conds = (s.handNotice n).1.run.conds
      ∧ (u.handNotice n).1.run.alert = (s.handNotice n).1.run.alert := by
  obtain ⟨halone, hroom, hfull⟩ := State.handNotice_handed n s
  obtain ⟨halone', hroom', hfull'⟩ := State.handNotice_handed n u
  by_cases hid : s.port.stationId = 0#5
  · rw [(halone hid).2, (halone' (by rw [hport]; exact hid)).2]
    exact ⟨hport, hconds, halert⟩
  · have hid' : u.port.stationId ≠ 0#5 := by rw [hport]; exact hid
    by_cases hr : Room s
    · rw [(hroom hid hr).2, (hroom' hid' (by unfold Room; rw [hport]; exact hr)).2]
      exact ⟨by rw [hport], hconds, halert⟩
    · rw [(hfull hid hr).2, (hfull' hid' (by unfold Room; rw [hport]; exact hr)).2]
      exact ⟨hport, by simp [RunControl.refused, hconds], by simp [RunControl.refused, hconds, halert]⟩

/-- Two states with the same run block, port and clock hand the alert alike. -/
theorem handAlert_agree {s u : State} (hrun : u.run = s.run) (hport : u.port = s.port) (hclock : u.clock = s.clock) :
    u.handAlert.run = s.handAlert.run ∧ u.handAlert.port = s.handAlert.port := by
  by_cases hid : s.port.stationId = 0#5
  · simp [State.handAlert, State.enqueue, State.standalone, hid, hport, State.setAlert, hrun]
  · have hid' : u.port.stationId ≠ 0#5 := by rw [hport]; exact hid
    by_cases hr : Room s
    · have hr' : Room u := by unfold Room; rw [hport]; exact hr
      simp [State.handAlert, State.enqueue_room _ _ hid hr, State.enqueue_room _ _ hid' hr', State.setAlert, hrun, hport, hclock]
    · have hr' : ¬Room u := by unfold Room; rw [hport]; exact hr
      simp [State.handAlert, State.enqueue_full _ _ hid hr, State.enqueue_full _ _ hid' hr', State.setAlert, State.putCondition, hrun, hport]

theorem setCondition_agree {s u : State} (c : Condition) (hrun : u.run = s.run) (hport : u.port = s.port) (hclock : u.clock = s.clock) :
    (u.setCondition c).run = (s.setCondition c).run ∧ (u.setCondition c).port = (s.setCondition c).port := by
  unfold State.setCondition
  rw [hrun]
  split
  · exact ⟨hrun, hport⟩
  · split
    · exact handAlert_agree (by simp [State.putCondition, hrun]) (by simpa using hport) (by simpa using hclock)
    · simp [State.putCondition, hrun, hport]

theorem setCondition_run (c : Condition) (s : State) :
    (s.setCondition c).run = { s.run with conds := (s.setCondition c).run.conds, alert := (s.setCondition c).run.alert } := by
  obtain ⟨-, -, -, -, h, -⟩ := State.setCondition_spec c s
  exact h

@[simp] theorem setCondition_verdict (c : Condition) (s : State) : (s.setCondition c).run.verdict = s.run.verdict := by rw [setCondition_run]

@[simp] theorem setCondition_endReason (c : Condition) (s : State) : (s.setCondition c).run.endReason = s.run.endReason := by
  rw [setCondition_run]

@[simp] theorem setCondition_startTime (c : Condition) (s : State) : (s.setCondition c).run.startTime = s.run.startTime := by
  rw [setCondition_run]

theorem setCondition_conds_get (c : Condition) (s : State) {d : Condition} (hc : d ≠ c) (hd : d ≠ .outboundFull) :
    (s.setCondition c).run.conds.get d = s.run.conds.get d := by
  obtain ⟨-, h, -⟩ := State.setCondition_spec c s
  exact h d hc hd

/-! ### The VERDICT announced (R11, R176) -/

/-- The notice of a VERDICT handed over. -/
def verdictNotice (p : Profile) (m : Summary) (written : Bool) (s : State) : Notice :=
  handedAs (.verdict (s.verdictPayload p m written)) 0#8 s

section
variable (p : Profile) (m : Summary) (written : Bool) (next : RunState) (s : State)

theorem announce_eq :
    s.announce p m written next =
      ((s.handNotice (verdictNotice p m written s)).1.setClosing .none).setRun
        { (s.handNotice (verdictNotice p m written s)).1.run with state := next } := rfl

@[simp] theorem announce_closing : (s.announce p m written next).closing = .none := rfl

theorem announce_port : (s.announce p m written next).port = (s.handNotice (verdictNotice p m written s)).1.port := rfl

theorem announce_run :
    (s.announce p m written next).run =
      { s.run with state := next, conds := (s.handNotice (verdictNotice p m written s)).1.run.conds
                   alert := (s.handNotice (verdictNotice p m written s)).1.run.alert } := by
  rw [announce_eq, handNotice_run]
  rfl

@[simp] theorem announce_verdict : (s.announce p m written next).run.verdict = s.run.verdict := by rw [announce_run]

@[simp] theorem announce_endReason : (s.announce p m written next).run.endReason = s.run.endReason := by rw [announce_run]

@[simp] theorem announce_startTime : (s.announce p m written next).run.startTime = s.run.startTime := by rw [announce_run]

theorem announce_conds_get {d : Condition} (hd : d ≠ .outboundFull) :
    (s.announce p m written next).run.conds.get d = s.run.conds.get d := by
  rw [announce_run]
  exact handNotice_conds_get _ s hd

end

theorem verdictPayload_congr {s u : State} (p : Profile) (m : Summary) (written : Bool) (hv : u.run.verdict = s.run.verdict)
    (he : u.run.endReason = s.run.endReason) : u.verdictPayload p m written = s.verdictPayload p m written := by
  simp [State.verdictPayload, hv, he]

theorem summary_congr {s u : State} (ht : u.table = s.table) (hs : u.run.startTime = s.run.startTime) (hq : u.seq = s.seq)
    (hl : u.lis = s.lis) : u.summary = s.summary := by
  simp [State.summary, ht, hs, hq, hl]

/-! ### The verdict (R166) -/

/-- The verdict by the first row of R166 that holds, with the totals of R167. -/
def VerdictByRows (p : Profile) (records : List Record) (aborted tableFull : Bool) (v : Verdict) : Prop :=
  ((∃ r ∈ records, 0 < (p.classOf r.sig).threshold ∧ (p.classOf r.sig).threshold ≤ r.localCount) → v = .fail)
    ∧ ((∀ r ∈ records, (p.classOf r.sig).threshold = 0 ∨ r.localCount < (p.classOf r.sig).threshold) →
        ((aborted = true ∨ tableFull = true) → v = .incomplete)
        ∧ (aborted = false → tableFull = false →
            (p.suspectLimit ≤ min ((records.map Record.commonCount).sum) 65535 ∨ 1 ≤ min ((records.map Record.unjudged).sum) 65535 →
              v = .suspect)
            ∧ (min ((records.map Record.commonCount).sum) 65535 < p.suspectLimit → (records.map Record.unjudged).sum = 0 → v = .pass)))

theorem thresholdMet_iff (p : Profile) (s : State) :
    s.thresholdMet p = true ↔ ∃ r ∈ s.table.records, 0 < (p.classOf r.sig).threshold ∧ (p.classOf r.sig).threshold ≤ r.localCount := by
  simp [State.thresholdMet]

theorem verdictOf_byRows (p : Profile) (s : State) :
    VerdictByRows p s.table.records s.run.conds.aborted s.run.conds.tableFull (s.verdictOf p) := by
  unfold State.verdictOf
  refine ⟨fun hmet => if_pos ((thresholdMet_iff p s).2 hmet), fun hnone => ?_⟩
  have hnot : ¬s.thresholdMet p = true := by
    rw [thresholdMet_iff]
    rintro ⟨r, hr, hpos, hle⟩
    have := hnone r hr
    omega
  rw [if_neg hnot]
  refine ⟨fun hor => if_pos (by simpa using hor), fun ha hf => ⟨fun hlim => ?_, fun hlt hzero => ?_⟩⟩
  · rw [if_neg (by simp [ha, hf])]
    exact if_pos hlim
  · rw [if_neg (by simp [ha, hf])]
    have hc : s.summary.commonTotal < p.suspectLimit := hlt
    have hu : s.summary.unjudgedTotal = 0 := by simp [State.summary, total, hzero]
    exact if_neg (by omega)

theorem verdictOf_ne_none (p : Profile) (s : State) : s.verdictOf p ≠ .none := by
  unfold State.verdictOf
  (repeat' split) <;> simp

theorem verdictOf_congr {s u : State} (p : Profile) (ht : u.table = s.table) (ha : u.run.conds.aborted = s.run.conds.aborted)
    (hf : u.run.conds.tableFull = s.run.conds.tableFull) : u.verdictOf p = s.verdictOf p := by
  simp [State.verdictOf, State.thresholdMet, State.summary, ht, ha, hf]

@[simp] theorem computeVerdict_run (p : Profile) (s : State) : (s.computeVerdict p).run = { s.run with verdict := s.verdictOf p } := rfl

/-- What a verdict instant does to `s`: the table becomes `x`, ABORTED and TABLE_FULL stand, and the verdict is decided by its rows. -/
def VerdictGiven (p : Profile) (x : SightingTable) (s t : State) : Prop :=
  t.table = x ∧ t.run.conds.aborted = s.run.conds.aborted ∧ t.run.conds.tableFull = s.run.conds.tableFull
    ∧ VerdictByRows p t.table.records s.run.conds.aborted s.run.conds.tableFull t.run.verdict

/-- A verdict computed in `u`, and announced, is given in every state with the conditions of `u`. -/
theorem announce_verdictGiven {s u : State} (p : Profile) (m : Summary) (next : RunState) (ha : u.run.conds.aborted = s.run.conds.aborted)
    (hf : u.run.conds.tableFull = s.run.conds.tableFull) :
    VerdictGiven p u.table s ((u.computeVerdict p).announce p m false next) := by
  have ha' := announce_conds_get p m false next (u.computeVerdict p) (d := .aborted) (by simp)
  have hf' := announce_conds_get p m false next (u.computeVerdict p) (d := .tableFull) (by simp)
  refine ⟨by simp, ha'.trans ha, hf'.trans hf, ?_⟩
  simpa [← ha, ← hf] using verdictOf_byRows p u

/-! ### The closing work's events by the step reached (R11, R12, R14) -/

section
variable {s : State} {p : Profile}

theorem slotHeaderReadEnd_of_headers (h : SlotHeaders) (hc : s.closing = .headers) (hp : s.profile = some p) :
    ∃ w, s.slotHeaderReadEnd h = ((s.learnSlots h).computeVerdict p).setClosing (.write w) := by
  simp only [State.slotHeaderReadEnd, hc, hp]
  exact ⟨_, rfl⟩

theorem tagNoAcknowledge_of_headers (atStart : Bool) (hc : s.closing = .headers) (hp : s.profile = some p) :
    s.tagNoAcknowledge atStart =
      ((s.setCondition .tagFailed).computeVerdict p).announce p ((s.setCondition .tagFailed).computeVerdict p).summary false .done := by
  simp [State.tagNoAcknowledge, hc, hp]

theorem tagNoAcknowledge_of_write (atStart : Bool) {w : DocketWrite} (hc : s.closing = .write w) (hp : s.profile = some p)
    (hw : w.poll = none) :
    s.tagNoAcknowledge atStart =
      ((if atStart then s else s.tagUndetermined w).setCondition .tagFailed).announce p w.summary false .done := by
  simp [State.tagNoAcknowledge, hc, hp, hw]

theorem closingRemoval_of_drain (hc : s.closing = .drain) (hp : s.profile = some p) :
    s.closingRemoval = (s.dropOccurrences.computeVerdict p).announce p (s.dropOccurrences.computeVerdict p).summary false .ready := by
  simp [State.closingRemoval, hc, hp]

theorem closingRemoval_of_headers (hc : s.closing = .headers) (hp : s.profile = some p) :
    s.closingRemoval = (s.computeVerdict p).announce p (s.computeVerdict p).summary false .ready := by
  simp [State.closingRemoval, hc, hp]

theorem closingRemoval_of_write {w : DocketWrite} (hc : s.closing = .write w) (hp : s.profile = some p) :
    s.closingRemoval = (s.tagUndetermined w).announce p w.summary false .ready := by
  simp [State.closingRemoval, hc, hp]

theorem trayGone_of_closing (h : s.run.state = .closing) : s.trayGone = s.closingRemoval := by simp [State.trayGone, h]

end

/-- Settles O42: at each instant the verdict is computed on a state whose conditions are those before it, and nothing that follows in the same
instant touches it, ABORTED or TABLE_FULL. -/
theorem verdict : Obligations.Verdict := by
  unfold Obligations.Verdict
  refine ⟨fun c s p hi hp => ?_, fun s p h hc hp => ?_⟩
  · rcases hi with ⟨hc, ⟨h, rfl⟩ | ⟨atStart, rfl⟩⟩ | ⟨rfl, hdue, hst, hc | hc⟩
    · obtain ⟨w, hw⟩ := slotHeaderReadEnd_of_headers h hc hp
      refine ⟨_, rfl, ?_⟩
      rw [hw, if_neg (by simp [hc])]
      refine ⟨by simp, by simp, by simp, ?_⟩
      have hrows := verdictOf_byRows p (s.learnSlots h)
      simp only [State.learnSlots_frame] at hrows
      simpa [VerdictByRows] using hrows
    · refine ⟨_, rfl, ?_⟩
      rw [tagNoAcknowledge_of_headers atStart hc hp, if_neg (by simp [hc])]
      have hgiven := announce_verdictGiven (s := s) (u := s.setCondition .tagFailed) p
        ((s.setCondition .tagFailed).computeVerdict p).summary .done
        (setCondition_conds_get .tagFailed s (d := .aborted) (by simp) (by simp))
        (setCondition_conds_get .tagFailed s (d := .tableFull) (by simp) (by simp))
      simp only [State.setCondition_frame] at hgiven
      exact hgiven
    · refine ⟨_, exec_trayRemoval_of_due hdue, ?_⟩
      rw [trayGone_of_closing (s := s.seatOpen) hst, closingRemoval_of_drain (s := s.seatOpen) hc hp, if_pos hc]
      have hgiven := announce_verdictGiven (s := s) (u := s.seatOpen.dropOccurrences) p
        (s.seatOpen.dropOccurrences.computeVerdict p).summary .ready (by simp [State.seatOpen]) (by simp [State.seatOpen])
      rw [State.dropOccurrences_spec] at hgiven ⊢
      exact hgiven
    · refine ⟨_, exec_trayRemoval_of_due hdue, ?_⟩
      rw [trayGone_of_closing (s := s.seatOpen) hst, closingRemoval_of_headers (s := s.seatOpen) hc hp, if_neg (by simp [hc])]
      exact announce_verdictGiven (s := s) (u := s.seatOpen) p _ .ready rfl rfl
  · obtain ⟨w, hw⟩ := slotHeaderReadEnd_of_headers h hc hp
    refine ⟨_, rfl, ?_⟩
    rw [hw]
    simp [SameBut]

end Sys2Proof.Proofs
end

section
/-! # Scope: the tray tag's writes and failures, a tray removal and a fixture change (R12 to R16, R76, R77, R173, R174) -/

namespace Sys2Proof.Proofs

open Sys2Proof.Machine

/-! ### What R174 leaves of a write reads the tag and the open marker alone -/

theorem cutOff_congr {w : DocketWrite} {s s' t t' : State} (h : CutOff w s t) (hs : s'.tag = s.tag) (hsm : s'.openMarker = s.openMarker)
    (ht : t'.tag = t.tag) (htm : t'.openMarker = t.openMarker) : CutOff w s' t' := by
  unfold CutOff at h ⊢
  rw [hs, hsm, ht, htm]
  exact h

theorem sameBut_clock {blocks : List Block} {s t : State} (h : SameBut blocks s t) (hb : Block.clock ∉ blocks) : t.clock = s.clock := by
  obtain ⟨-, hclock, -⟩ := h
  exact hclock.resolve_left hb

theorem not_expired_of_neg {now d : Time} (h : (now - d).toInt < 0) : expired now d = false := by
  rw [← Bool.not_eq_true, expired_iff]
  omega

/-! ### Writes confirmed -/

section
variable {s : State} {p : Profile} {w : DocketWrite}

theorem tagWriteEnd_of_unpolled (hc : s.closing = .write w) (hw : w.poll = none) :
    s.tagWriteEnd = (s.tagUndetermined w).setClosing (.write { w with poll := some (timeAfter s.clock 10) }) := by
  simp [State.tagWriteEnd, hc, hw]

/-- The tag with the bytes of a confirmed write (R173). -/
def tagConfirmed (w : DocketWrite) (s : State) : State := (s.setTag (Memory.writeBytes s.tag w.target w.data)).setOpenMarker none

theorem pollAcknowledge_of_polled {d : Time} (hc : s.closing = .write w) (hp : s.profile = some p) (hw : w.poll = some d) :
    s.pollAcknowledge =
      if w.number < 6 then (tagConfirmed w s).setClosing (.write { w with number := w.number + 1, poll := none })
      else (tagConfirmed w s).announce p w.summary true .done := by
  simp [State.pollAcknowledge, hc, hp, hw, tagConfirmed]

theorem pollTimeout_of_polled {d : Time} (hc : s.closing = .write w) (hp : s.profile = some p) (hw : w.poll = some d) :
    s.pollTimeout = if expired s.clock d then (s.setCondition .tagFailed).announce p w.summary false .done else s := by
  simp [State.pollTimeout, hc, hp, hw, expiredOpt]

end

/-- Settles O44: what the end of a write leaves open an acknowledge determines; after write 6 the VERDICT is handed over by a state that differs
from the one before in the tag alone. -/
theorem tagWriteConfirmed : Obligations.TagWriteConfirmed := by
  unfold Obligations.TagWriteConfirmed
  intro s p w hc hp
  refine ⟨fun hw => ⟨_, rfl, ?_⟩, fun d hw => ⟨_, rfl, ?_⟩⟩
  · rw [tagWriteEnd_of_unpolled hc hw]
    exact ⟨rfl, cutOff_congr (State.tagUndetermined_spec w s) rfl rfl rfl rfl, by simp [SameBut]⟩
  · have hcases := pollAcknowledge_of_polled hc hp hw
    have htag : s.pollAcknowledge.tag = Memory.writeBytes s.tag w.target w.data ∧ s.pollAcknowledge.openMarker = none := by
      rw [hcases]
      split <;> simp [tagConfirmed]
    obtain ⟨htag, hmarker⟩ := htag
    refine ⟨hmarker, fun i hi => ?_, fun a ha => ?_, fun hlt => ?_, fun hge => ?_⟩
    · rw [htag]
      exact Memory.read_writeBytes_same _ _ _ i hi
    · rw [htag]
      exact Memory.read_writeBytes_other a _ _ _ ha
    · rw [hcases, if_pos hlt]
      simp [tagConfirmed, SameBut]
    · rw [hcases, if_neg (by omega)]
      refine ⟨rfl, by simp [SameBut, tagConfirmed], _, _, State.handNotice_handed _ s, ?_⟩
      obtain ⟨hport, hconds, halert⟩ := handNotice_agree (s := s) (u := tagConfirmed w s) (verdictNotice p w.summary true s) rfl rfl rfl
      have hn : verdictNotice p w.summary true (tagConfirmed w s) = verdictNotice p w.summary true s := rfl
      refine ⟨hport, ?_⟩
      rw [announce_run, hn, hconds, halert]
      change _ = { (s.handNotice (verdictNotice p w.summary true s)).1.run with state := .done }
      rw [handNotice_run]
      rfl

/-! ### Failures (R12) -/

/-- A failure is announced by a state that has set TAG_FAILED, whatever has become of its verdict and its tag. -/
theorem announce_failureAnnounced {s u : State} (p : Profile) (m : Summary)
    (hrun : u.run = { (s.setCondition .tagFailed).run with verdict := u.run.verdict }) (hport : u.port = (s.setCondition .tagFailed).port)
    (hsame : SameBut [.run, .port, .closing, .tag, .openMarker] s u) :
    FailureAnnounced (u.verdictPayload p m false) s (u.announce p m false .done) := by
  have hclock : u.clock = s.clock := sameBut_clock hsame (by simp)
  have hn : verdictNotice p m false u = handedAs (.verdict (u.verdictPayload p m false)) 0#8 s := by simp [verdictNotice, handedAs, hclock]
  obtain ⟨hp, hc, ha⟩ := handNotice_agree (s := s.setCondition .tagFailed) (u := u) (handedAs (.verdict (u.verdictPayload p m false)) 0#8 s)
    hport (by rw [hrun]) (by rw [hrun])
  refine ⟨_, _, _, State.setCondition_set _ _, State.handNotice_handed _ _, ?_, ?_, rfl, ?_⟩
  · rw [handNotice_run, announce_run, hn, hc, ha, hrun]
  · rw [announce_port, hn, hp]
  · simpa [SameBut] using hsame

theorem verdictPayload_setCondition (c : Condition) (p : Profile) (m : Summary) (written : Bool) (s : State) :
    (s.setCondition c).verdictPayload p m written = s.verdictPayload p m written :=
  verdictPayload_congr p m written (by simp) (by simp)

/-- TAG_FAILED set in a state that differs from `s` in the tag alone, and announced. -/
theorem announce_setCondition_failureAnnounced {s u : State} (p : Profile) (m : Summary) (hrun : u.run = s.run) (hport : u.port = s.port)
    (hsame : SameBut [.tag, .openMarker] s u) :
    FailureAnnounced (s.verdictPayload p m false) s ((u.setCondition .tagFailed).announce p m false .done)
      ∧ ((u.setCondition .tagFailed).announce p m false .done).run.verdict = s.run.verdict := by
  have hclock : u.clock = s.clock := sameBut_clock hsame (by simp)
  obtain ⟨hr, hpt⟩ := setCondition_agree .tagFailed hrun hport hclock
  have hpay : (u.setCondition .tagFailed).verdictPayload p m false = s.verdictPayload p m false :=
    (verdictPayload_setCondition _ p m false u).trans (verdictPayload_congr p m false (by rw [hrun]) (by rw [hrun]))
  refine ⟨?_, ?_⟩
  · rw [← hpay]
    refine announce_failureAnnounced p m (by rw [hr]) hpt ?_
    simp only [SameBut] at hsame ⊢
    simp_all
  · simp [hrun]

/-! ### The power cut by a tray removal or a fixture change (R76, R77) -/

theorem cutPower_eq (s : State) : s.cutPower = if s.seq.phase = .off then s else (partEnded s).enterOff := by
  unfold State.cutPower partEnded
  cases s.seq.phase <;> rfl

/-- What cutting the power leaves, in every phase (R58, R76, R77). -/
structure PowerCut (s t : State) : Prop where
  phase : t.seq.phase = .off
  cycle : t.seq.cycle = s.seq.cycle
  done : t.seq.done = s.seq.done
  lines : s.seq.phase ≠ .off → t.seq = { s.seq with
    phase := .off, endRequest := .none, rampDeadline := none, onDeadline := none, drainDeadline := none, offDeadline := none, lines := Lines.unpowered }
  roster : t.claim.roster = s.claim.roster
  ring : t.rail.ring = s.rail.ring
  sag : t.rail.sag = s.rail.sag
  values : t.rail.values = s.rail.values
  trace : t.lis.trace = s.lis.trace
  standing : s.seq.phase = .ramp → StandingEnded 3#8 s t
  onWire : s.seq.phase = .waiting → s.claim.state = .queued → s.port.claimOnWire = true →
    t.claim.state = .cancellingEnd ∧ t.port = { s.port with cancelAsked := true }

theorem cutPower_powerCut (s : State) : PowerCut s s.cutPower := by
  rw [cutPower_eq]
  by_cases hoff : s.seq.phase = .off
  · rw [if_pos hoff]
    constructor <;> simp [hoff]
  · rw [if_neg hoff]
    obtain ⟨x, c, h, hroster, hramp, -⟩ := partEnded_eq s
    have hwire : s.seq.phase = .waiting → s.claim.state = .queued → s.port.claimOnWire = true →
        (partEnded s).claim.state = .cancellingEnd ∧ (partEnded s).port = { s.port with cancelAsked := true } := fun hw hc ho => by
      simp [partEnded, hw, claimRunEnding_of_onWire hc ho]
    rw [h] at hwire ⊢
    constructor
    case standing => exact fun hr => by simpa [StandingEnded] using hramp hr
    case onWire => exact fun hw hc ho => by simpa using hwire hw hc ho
    all_goals simp [enterOff_seq, hroster]

/-! ### A tray removal -/

theorem seatOpen_eq (s : State) :
    s.seatOpen = s.setPanel { s.panel with seat := { s.panel.seat with level := false, differing := 0 } } := rfl

/-- A removal in CLOSING announces the VERDICT from a state that differs from `s` in its verdict, table, judge and tag at most (R14). -/
theorem announce_removal {s u : State} (p : Profile) (m : Summary) (hrun : u.run = { s.run with verdict := u.run.verdict })
    (hport : u.port = s.port) (hclock : u.clock = s.clock) :
    ∀ t, t = u.announce p m false .ready → t.closing = .none
      ∧ t.run = { s.run with state := .ready, verdict := t.run.verdict, conds := t.run.conds, alert := t.run.alert }
      ∧ ∃ v taken, Handed (handedAs (.verdict (t.verdictPayload p m false)) 0#8 s) s v taken
          ∧ t.port = v.port ∧ t.run.conds = v.run.conds ∧ t.run.alert = v.run.alert := by
  rintro t rfl
  have hpay : (u.announce p m false .ready).verdictPayload p m false = u.verdictPayload p m false :=
    verdictPayload_congr p m false (by simp) (by simp)
  have hn : verdictNotice p m false u = handedAs (.verdict (u.verdictPayload p m false)) 0#8 s := by simp [verdictNotice, handedAs, hclock]
  have hagree := handNotice_agree (s := s) (u := u) (handedAs (.verdict (u.verdictPayload p m false)) 0#8 s) hport (by rw [hrun]) (by rw [hrun])
  rw [hpay]
  refine ⟨rfl, by rw [announce_run, hrun], _, _, State.handNotice_handed _ s, ?_⟩
  rw [announce_run, announce_port, hn]
  exact hagree

/-- A verdict computed as its VERDICT is announced is one of R166's, and the summary announced is that of the state left. -/
theorem announce_computed (p : Profile) (next : RunState) (u : State) :
    ((u.computeVerdict p).announce p (u.computeVerdict p).summary false next).run.verdict ≠ .none
      ∧ (u.computeVerdict p).summary = ((u.computeVerdict p).announce p (u.computeVerdict p).summary false next).summary :=
  ⟨by simpa using verdictOf_ne_none p u, (summary_congr (by simp) (by simp) (by simp) (by simp)).symm⟩

/-- Settles O48: by the run state, and in CLOSING by the step reached; the power is cut and the occurrences dropped before the run is abandoned. -/
theorem trayRemoval : Obligations.TrayRemoval := by
  unfold Obligations.TrayRemoval
  refine ⟨fun s hdue => ⟨fun hst => ?_, fun hst => ?_, fun hst => ⟨_, exec_trayRemoval_of_due hdue, ?_⟩⟩, fun s p hdue hp hst hc => ?_⟩
  · rw [exec_trayRemoval_of_due hdue, seatOpen_eq]
    rcases hst with h | h <;> simp [State.trayGone, h]
  · rw [exec_trayRemoval_of_due hdue, seatOpen_eq]
    simp [State.trayGone, hst, State.setRun]
  · have hgone : s.seatOpen.trayGone = s.seatOpen.abandonRun := by
      have h : s.seatOpen.run.state = .running := hst
      simp [State.trayGone, h]
    have cut := cutPower_powerCut s.seatOpen
    rw [hgone, State.abandonRun, State.dropOccurrences_spec]
    refine ⟨by simp [State.seatOpen], cut.phase, cut.cycle, cut.done, fun hph => ?_, by simp [State.seatOpen], by simp [State.seatOpen, State.openOf],
      fun hph hcl => ?_, cut.roster, cut.ring, cut.sag, cut.trace, by simp [SameBut]⟩
    · exact congrArg Sequencer.lines (cut.lines hph)
    · obtain ⟨hend, -⟩ := cut.standing hph
      exact hend hcl
  · rw [exec_trayRemoval_of_due hdue, trayGone_of_closing (s := s.seatOpen) hst]
    cases hstep : s.closing with
    | none => exact absurd hstep hc
    | drain =>
      rw [closingRemoval_of_drain (s := s.seatOpen) hstep hp]
      obtain ⟨hclosing, hrun, hhanded⟩ := announce_removal (s := s) (u := s.seatOpen.dropOccurrences.computeVerdict p) p
        (s.seatOpen.dropOccurrences.computeVerdict p).summary (by simp [State.seatOpen]) (by simp [State.seatOpen]) (by simp [State.seatOpen]) _ rfl
      obtain ⟨hv, hm⟩ := announce_computed p .ready s.seatOpen.dropOccurrences
      refine ⟨_, _, rfl, hclosing, hrun, hhanded, fun _ => ⟨hv, hm, by simp [State.seatOpen]⟩, fun _ => ?_, ?_, ?_, ?_⟩
      · simp [State.dropOccurrences_spec, State.seatOpen, State.openOf]
      · simp
      · simp
      · simp [SameBut]
    | headers =>
      rw [closingRemoval_of_headers (s := s.seatOpen) hstep hp]
      obtain ⟨hclosing, hrun, hhanded⟩ := announce_removal (s := s) (u := s.seatOpen.computeVerdict p) p (s.seatOpen.computeVerdict p).summary
        (by simp [State.seatOpen]) (by simp [State.seatOpen]) (by simp [State.seatOpen]) _ rfl
      obtain ⟨hv, hm⟩ := announce_computed p .ready s.seatOpen
      refine ⟨_, _, rfl, hclosing, hrun, hhanded, fun _ => ⟨hv, hm, by simp [State.seatOpen]⟩, ?_, ?_, ?_, ?_⟩
      · simp
      · simp [State.seatOpen]
      · simp
      · simp [SameBut]
    | write w =>
      rw [closingRemoval_of_write (s := s.seatOpen) hstep hp]
      obtain ⟨hclosing, hrun, hhanded⟩ := announce_removal (s := s) (u := s.seatOpen.tagUndetermined w) p w.summary (by simp [State.seatOpen])
        (by simp [State.seatOpen]) (by simp [State.seatOpen]) _ rfl
      refine ⟨_, _, rfl, hclosing, hrun, hhanded, by simp, by simp, ?_, ?_, ?_⟩
      · simp [State.seatOpen]
      · rintro w' ⟨⟩
        exact ⟨by simp [State.seatOpen], rfl, cutOff_congr (State.tagUndetermined_spec w s.seatOpen) rfl rfl (by simp) (by simp)⟩
      · simp [SameBut]

/-! ### A fixture change -/

/-- The state of a fixture change with its power cut and its closing work abandoned, before the blocks are cleared (R16). -/
def fixtureStopped (s : State) : State := (s.cutPower.setLoad .idle).closingAbandoned

theorem closingAbandoned_spec (s : State) :
    s.closingAbandoned.closing = .none ∧ (∀ w, s.closing = .write w → CutOff w s s.closingAbandoned)
      ∧ ((∀ w, s.closing ≠ .write w) → s.closingAbandoned.tag = s.tag ∧ s.closingAbandoned.openMarker = s.openMarker) := by
  unfold State.closingAbandoned
  cases hc : s.closing with
  | none | drain | headers => simp
  | write w =>
    refine ⟨rfl, ?_, fun h => absurd rfl (h w)⟩
    rintro w' ⟨⟩
    exact cutOff_congr (State.tagUndetermined_spec w s) rfl rfl rfl rfl

/-- A fixture change keeps of the tag what an abandoned closing work leaves of it, and its closing work is at its end. -/
theorem fixtureGone_tag (s : State) :
    s.fixtureGone.closing = .none ∧ s.fixtureGone.tag = (fixtureStopped s).tag ∧ s.fixtureGone.openMarker = (fixtureStopped s).openMarker := by
  obtain ⟨h, -⟩ := closingAbandoned_spec (s.cutPower.setLoad .idle)
  simp [State.fixtureGone, fixtureStopped, h]

/-- Settles O45: each failure by the step it meets; the header read's verdict is computed by the rows that its end would have used. -/
theorem tagFailure : Obligations.TagFailure := by
  unfold Obligations.TagFailure
  refine ⟨fun s p hp => ⟨fun w d hc hw hdue => ⟨_, rfl, ?_⟩, fun w d hc hw hdue => ?_, fun w atStart hc hw => ⟨_, rfl, ?_⟩,
    fun atStart h hc => ⟨_, _, rfl, rfl, ?_⟩⟩, fun s hdue => ⟨_, exec_fixtureChange_of_due hdue, ?_⟩⟩
  · rw [pollTimeout_of_polled hc hp hw, if_pos ((expired_iff _ _).2 hdue)]
    obtain ⟨hfail, hv⟩ := announce_setCondition_failureAnnounced (s := s) (u := s) p w.summary rfl rfl (by simp [SameBut])
    exact ⟨hfail, hv, by simp, by simp⟩
  · simp [exec, execPollTimeout, pollTimeout_of_polled hc hp hw, not_expired_of_neg hdue]
  · rw [tagNoAcknowledge_of_write atStart hc hp hw]
    obtain ⟨hfail, hv⟩ := announce_setCondition_failureAnnounced (s := s) (u := if atStart then s else s.tagUndetermined w) p w.summary
      (by split <;> simp) (by split <;> simp) (by split <;> simp [SameBut])
    refine ⟨hfail, hv, fun hs => by simp [hs], fun hs => ?_⟩
    exact cutOff_congr (State.tagUndetermined_spec w s) rfl rfl (by simp [hs]) (by simp [hs])
  · obtain ⟨w, hw⟩ := slotHeaderReadEnd_of_headers h hc hp
    rw [tagNoAcknowledge_of_headers atStart hc hp, hw]
    have hverdict : (s.setCondition .tagFailed).verdictOf p = (s.learnSlots h).verdictOf p :=
      verdictOf_congr p (by simp) ((setCondition_conds_get .tagFailed s (d := .aborted) (by simp) (by simp)).trans (by simp [Conditions.get]))
        ((setCondition_conds_get .tagFailed s (d := .tableFull) (by simp) (by simp)).trans (by simp [Conditions.get]))
    have hsum : ((s.setCondition .tagFailed).computeVerdict p).summary = s.summary :=
      summary_congr (by simp) (by simp) (by simp) (by simp)
    have hpay : ∀ m, (((s.learnSlots h).computeVerdict p).setClosing (.write w)).verdictPayload p m false
        = ((s.setCondition .tagFailed).computeVerdict p).verdictPayload p m false := fun m =>
      verdictPayload_congr p m false (by simp [hverdict]) (by simp)
    rw [hsum, hpay]
    refine ⟨announce_failureAnnounced p s.summary rfl rfl (by simp [SameBut]), ?_, by simp [hverdict], by simp, by simp⟩
    simpa using verdictOf_ne_none _ _
  · obtain ⟨hclosing, htag, hmarker⟩ := fixtureGone_tag s.flipFixture
    obtain ⟨-, hcut, hkeep⟩ := closingAbandoned_spec (s.flipFixture.cutPower.setLoad .idle)
    refine ⟨hclosing, fun w hw => ?_, fun hw => ?_⟩
    · exact cutOff_congr (hcut w (by simpa using hw)) (by simp) (by simp) htag hmarker
    · rw [htag, hmarker]
      simpa [fixtureStopped] using hkeep (by simpa using hw)

/-- Settles O49: the power is cut and the closing work abandoned before every block that depends on the fixture is cleared. -/
theorem fixtureChange : Obligations.FixtureChange := by
  unfold Obligations.FixtureChange
  intro s hdue
  have cut := cutPower_powerCut s.flipFixture
  have hseq : s.flipFixture.fixtureGone.seq = { s.flipFixture.cutPower.seq with cycle := 0#8, done := 0#8, endRequest := .none } := by
    simp [State.fixtureGone]
  obtain ⟨hclosing, -⟩ := fixtureGone_tag s.flipFixture
  refine ⟨_, exec_fixtureChange_of_due hdue, ?_⟩
  rw [hseq]
  refine ⟨?_, ?_, hclosing, ?_, cut.phase, rfl, rfl, rfl, fun hph => ?_, ?_, ?_, ?_, ?_, ?_, ?_, ?_, ?_, ?_, ?_, ?_, fun hph hst hid => ?_,
    fun hph hst hw => ?_, ?_, ?_⟩
  · simp [State.fixtureGone]
  · simp [State.fixtureGone]
  · simp [State.fixtureGone, RunControl.unconfigure, Conditions.runCleared, Conditions.clear]
  · rw [cut.lines (by simpa using hph)]
    rfl
  · simp [State.fixtureGone]
  · simp [State.fixtureGone]
  · simp [State.fixtureGone, SnapshotStore.cleared]
  · simp [State.fixtureGone, RailMonitor.cleared]
  · simp [State.fixtureGone, RailMonitor.cleared, RailMonitor.armed]
  · simp [State.fixtureGone, RailMonitor.cleared, RailMonitor.armed, cut.values]
  · simp [State.fixtureGone, Listener.cleared]
  · simp [State.fixtureGone, Listener.cleared]
  · simp [State.fixtureGone, Listener.cleared]
  · simp [State.fixtureGone, Listener.cleared]
  · simpa [State.fixtureGone] using cut.roster
  · obtain ⟨hend, -⟩ := cut.standing (by simpa using hph)
    simpa [State.fixtureGone] using (hend (by simpa using hst)).2 (by simpa using hid)
  · simpa [State.fixtureGone] using cut.onWire (by simpa using hph) (by simpa using hst) (by simpa using hw)
  · simp [State.fixtureGone, flipFixture_of_edge hdue]
  · simp [SameBut]

end Sys2Proof.Proofs
end

section
/-! # Scope: removals by time, and the profile load (R17, R47, R139, R178 to R180) -/

namespace Sys2Proof.Proofs

open Sys2Proof.Machine

/-! ### Roster entries and echoes (R47, R139) -/

theorem rosterRemove_eq (b : Byte) (s : State) : rosterRemove b s.claim.roster = s.rosterWithout b := by
  refine List.filter_congr fun e _ => ?_
  by_cases h : e.source = b <;> simp [h]

theorem entryExpiry_of_expired {source : Byte} {s : State} (h : ∃ e ∈ s.claim.roster, e.source = source ∧ 0 ≤ (s.clock - e.expiry).toInt) :
    s.entryExpiry source = s.rosterChanged (s.rosterWithout source) := by
  obtain ⟨e, he, hs, hdue⟩ := h
  rw [← rosterRemove_eq]
  refine if_pos (List.any_eq_true.2 ⟨e, he, ?_⟩)
  simp [hs, (expired_iff _ _).2 hdue]

theorem entryExpiry_of_not_expired {source : Byte} {s : State}
    (h : ∀ e ∈ s.claim.roster, e.source = source → (s.clock - e.expiry).toInt < 0) : s.entryExpiry source = s := by
  refine if_neg fun hany => ?_
  obtain ⟨e, he, hdue⟩ := List.any_eq_true.1 hany
  simp only [Bool.and_eq_true, beq_iff_eq, expired_iff] at hdue
  have := h e he hdue.1
  omega

theorem retained_iff (p : Profile) (now : Time) (e : Echo) :
    e.retained p now = true ↔ (now - e.eventTime).toInt ≤ p.window + e.allowance := by
  simp [Echo.retained, signedDiff]

/-- The retained echoes ahead of the first stale one stay, and those behind it. -/
theorem dropStale_append (p : Profile) (now : Time) (x : Echo) (r : List Echo) (hx : x.retained p now = false) :
    ∀ l : List Echo, (∀ y ∈ l, y.retained p now = true) → dropStale p now (l ++ x :: r) = l ++ r
  | [], _ => by simp [dropStale, hx]
  | y :: l, h => by
    have ih := dropStale_append p now x r hx l (fun z hz => h z (List.mem_cons_of_mem _ hz))
    simp [dropStale, h y List.mem_cons_self, ih]

theorem dropStale_of_retained (p : Profile) (now : Time) :
    ∀ l : List Echo, (∀ y ∈ l, y.retained p now = true) → dropStale p now l = l
  | [], _ => rfl
  | y :: l, h => by
    have ih := dropStale_of_retained p now l (fun z hz => h z (List.mem_cons_of_mem _ hz))
    simp [dropStale, h y List.mem_cons_self, ih]

theorem echoRemoval_eq {p : Profile} {s : State} (hp : s.profile = some p) :
    s.echoRemoval = s.setJudge { s.judge with echoes := dropStale p s.clock s.judge.echoes } := by
  simp [State.echoRemoval, hp]

/-- Settles O15: an expiry and a WITHDRAW make the same roster change; the echo list is walked up to its first stale member. -/
theorem removalsByTime : Obligations.RemovalsByTime := by
  unfold Obligations.RemovalsByTime
  refine ⟨fun source s => ⟨fun h => ⟨⟨_, rfl, ?_⟩, fun hd hr hs => ?_⟩, fun h => ?_⟩, fun s p l r x hp he hl hx => ?_, fun s p hp hl => ?_⟩
  · rw [entryExpiry_of_expired h]
    simp [SameBut]
  · simp only [exec, execEntryExpiry, execWithdraw, State.received_reaches _ _ _ hr, State.takeRelease, entryExpiry_of_expired h, hs,
      rosterRemove_eq]
  · simp [exec, execEntryExpiry, entryExpiry_of_not_expired h]
  · have hstale : x.retained p s.clock = false := by
      rw [← Bool.not_eq_true, retained_iff]
      omega
    have hdrop := dropStale_append p s.clock x r hstale l (fun y hy => (retained_iff p _ y).2 (hl y hy))
    simp only [exec, execEchoRemoval, echoRemoval_eq hp, he, hdrop]
    rfl
  · have hdrop := dropStale_of_retained p s.clock _ (fun y hy => (retained_iff p _ y).2 (hl y hy))
    simp only [exec, execEchoRemoval, echoRemoval_eq hp, hdrop]
    rfl

/-! ### The profile load -/

theorem word16_toNat (hi lo : Byte) : (word16 hi lo).toNat = hi.toNat * 256 + lo.toNat := by
  have hlo := lo.isLt
  rw [word16, BitVec.toNat_append, Nat.shiftLeft_eq, Nat.mul_comm, ← Nat.two_pow_add_eq_or_of_lt hlo, Nat.mul_comm]

/-- What a refused load leaves (R17, R179). -/
def LoadRefused (s t : State) : Prop :=
  t.load = .idle ∧ t.run.state = s.run.state ∧ t.run.conds.profileBad = true ∧ t.run.conds.profileClamped = false
    ∧ SameBut [.load, .run, .port] s t

theorem loadRefused_spec (s : State) : LoadRefused s s.loadRefused := by
  obtain ⟨hbad, -⟩ := State.setCondition_spec .profileBad ((s.setLoad .idle).putCondition .profileClamped false)
  have hclamped := setCondition_conds_get .profileBad ((s.setLoad .idle).putCondition .profileClamped false) (d := .profileClamped)
    (by simp) (by simp)
  refine ⟨by simp [State.loadRefused], ?_, hbad, hclamped, by simp [SameBut]⟩
  rw [State.loadRefused, setCondition_run]
  rfl

theorem imageGood_iff (l : List Byte) :
    imageGood l = true ↔
      crc16 (l.take (l.length - 2)) = wordAt l (l.length - 2) ∧ nat8At l 2 = 1 ∧ 187 + 4 * min (nat8At l 184) 16 ≤ l.length := by
  simp only [imageGood, Bool.and_eq_true, decide_eq_true_eq, and_assoc]
  rfl

/-- What an accepted load leaves: the conditions by whether a field was clamped (R17, R95, R98, R180). -/
theorem loadAccepted_spec (raw : Profile) (s : State) :
    (s.loadAccepted raw).profile = some raw.clamp ∧ (s.loadAccepted raw).run.state = .ready ∧ (s.loadAccepted raw).load = .idle
      ∧ (s.loadAccepted raw).run.conds.profileBad = false
      ∧ (s.loadAccepted raw).run.conds.profileClamped = decide (raw.clamp ≠ raw) ∧ (s.loadAccepted raw).rail = s.rail.armed := by
  unfold State.loadAccepted
  by_cases hsame : raw.clamp = raw
  · simp [hsame, State.profileApplied, State.putCondition, Conditions.put]
  · obtain ⟨hset, -⟩ := State.setCondition_spec .profileClamped ((s.profileApplied raw.clamp).putCondition .profileBad false)
    have hbad := setCondition_conds_get .profileClamped ((s.profileApplied raw.clamp).putCondition .profileBad false) (d := .profileBad)
      (by simp) (by simp)
    simp only [hsame, if_false]
    refine ⟨by simp [State.profileApplied], ?_, by simp [State.profileApplied], hbad, ?_, by simp [State.profileApplied]⟩
    · rw [setCondition_run]
      rfl
    · exact hset.trans (by simp [hsame])

theorem imageReadEnd_of_length {l : List Byte} {s : State} (h : s.load = .image l.length) :
    s.imageReadEnd l = if imageGood l then s.loadAccepted (rawProfile l) else s.loadRefused := by
  simp [State.imageReadEnd, h]

/-- Settles O46: by how far the load has come, and then by the range check of the length or the three checks of the image. -/
theorem profileLoadOutcomes : Obligations.ProfileLoadOutcomes := by
  unfold Obligations.ProfileLoadOutcomes
  refine ⟨fun s hi lo => ⟨fun hload h64 h512 => ?_, fun hload hout => ⟨_, rfl, ?_⟩, fun hload => ⟨_, rfl, ?_⟩, fun hload => ?_⟩,
    fun s l hload => ⟨fun hgood => ⟨_, rfl, ?_⟩, fun hbad => ⟨_, rfl, ?_⟩⟩⟩
  · simp [exec, execProfileHeaderReadEnd, State.profileHeaderReadEnd, hload, word16_toNat, h64, h512, State.setLoad]
  · have hrange : ¬(64 ≤ hi.toNat * 256 + lo.toNat ∧ hi.toNat * 256 + lo.toNat ≤ 512) := by omega
    have hr : s.profileHeaderReadEnd hi lo = s.loadRefused := by
      simp only [State.profileHeaderReadEnd, hload, word16_toNat, hrange, if_false]
    rw [hr]
    exact loadRefused_spec s
  · have hr : s.promNoAcknowledge = s.loadRefused := by
      unfold State.promNoAcknowledge
      cases hl : s.load with
      | idle => exact absurd hl hload
      | header | image => rfl
    rw [hr]
    exact loadRefused_spec s
  · simp [exec, execPromNoAcknowledge, execProfileHeaderReadEnd, State.promNoAcknowledge, State.profileHeaderReadEnd, hload]
  · have hr : s.imageReadEnd l = s.loadAccepted (rawProfile l) := by
      rw [imageReadEnd_of_length hload, if_pos ((imageGood_iff l).2 hgood)]
    obtain ⟨hprofile, hstate, hidle, hbad, hclamped, hrail⟩ := loadAccepted_spec (rawProfile l) s
    rw [hr, hrail]
    exact ⟨hprofile, hstate, hidle, hbad, hclamped, rfl, rfl, rfl, rfl, by simp [SameBut]⟩
  · have hr : s.imageReadEnd l = s.loadRefused := by
      rw [imageReadEnd_of_length hload, if_neg (mt (imageGood_iff l).1 hbad)]
    rw [hr]
    exact loadRefused_spec s

end Sys2Proof.Proofs
end

section
/-! # Scope: what one round converts, scales and records, in every phase (R5, R80, R81, R96, R155) -/

namespace Sys2Proof.Proofs

open Sys2Proof.Machine

/-! ### What the checks of a round keep -/

/-- The checks of a round keep the values and the history ring, and a capture engine at work with the store port as it stands. -/
structure ChecksKeep (s t : State) : Prop where
  values : t.rail.values = s.rail.values
  ring : t.rail.ring = s.rail.ring
  engine : s.store.engine ≠ .idle → t.store.engine = s.store.engine
  port : s.store.engine ≠ .idle → t.store.port = s.store.port

theorem ChecksKeep.refl (s : State) : ChecksKeep s s := ⟨rfl, rfl, fun _ => rfl, fun _ => rfl⟩

theorem ChecksKeep.trans {s t u : State} (h : ChecksKeep s t) (k : ChecksKeep t u) : ChecksKeep s u := by
  have hbusy : s.store.engine ≠ .idle → t.store.engine ≠ .idle := fun hs => by rw [h.engine hs]; exact hs
  exact ⟨k.values.trans h.values, k.ring.trans h.ring, fun hs => (k.engine (hbusy hs)).trans (h.engine hs),
    fun hs => (k.port (hbusy hs)).trans (h.port hs)⟩

/-- An operation that leaves the store alone. -/
theorem ChecksKeep.of_store {s t : State} (hv : t.rail.values = s.rail.values) (hr : t.rail.ring = s.rail.ring) (hs : t.store = s.store) :
    ChecksKeep s t := ⟨hv, hr, fun _ => by rw [hs], fun _ => by rw [hs]⟩

/-- An operation made or left out by a test. -/
theorem ChecksKeep.ite {s t : State} (b : Bool) (h : ChecksKeep s t) : ChecksKeep s (if b then t else s) := by
  cases b
  · exact ChecksKeep.refl s
  · exact h

/-- A trigger that finds the engine at work is answered MISSED, which touches neither engine nor port (R152, R153). -/
theorem triggerSnapshot_checksKeep (p : Profile) (g : Sig) (t : Time) (s : State) : ChecksKeep s (s.triggerSnapshot p g t) := by
  refine ⟨by simp, by simp, fun hb => ?_, fun hb => ?_⟩ <;>
  · unfold State.triggerSnapshot
    split
    · cases he : s.store.engine with
      | idle => exact absurd he hb
      | pre | post => simp [State.trigger, he, State.snapshotMissed]
    · rfl

theorem faultReport_checksKeep (p : Profile) (g : Sig) (t : Time) (s : State) : ChecksKeep s (s.faultReport p g t) := by
  unfold State.faultReport
  split
  · split
    · exact (ChecksKeep.of_store (by simp) (by simp) (by simp)).trans (triggerSnapshot_checksKeep p g t _)
    · exact ChecksKeep.of_store (by simp) (by simp) (by simp)
  · split <;> exact ChecksKeep.of_store (by simp) (by simp) (by simp)

theorem setWatch_checksKeep (i : Nat) (w : ChannelWatch) (s : State) : ChecksKeep s (s.setWatch i w) :=
  ChecksKeep.of_store rfl rfl rfl

theorem windowStep_checksKeep (p : Profile) (i : Nat) (s : State) : ChecksKeep s (s.windowStep p i) := by
  unfold State.windowStep
  dsimp only
  split
  · split
    · exact (setWatch_checksKeep _ _ s).trans (faultReport_checksKeep _ _ _ _)
    · exact setWatch_checksKeep _ _ s
  · exact ChecksKeep.refl s

theorem restStep_checksKeep (p : Profile) (i : Nat) (s : State) : ChecksKeep s (s.restStep p i) := by
  unfold State.restStep
  dsimp only
  split
  · split
    · exact (setWatch_checksKeep _ _ s).trans (faultReport_checksKeep _ _ _ _)
    · exact setWatch_checksKeep _ _ s
  · exact ChecksKeep.refl s

/-- A check made channel by channel keeps what its step for one channel keeps. -/
theorem foldl_checksKeep {step : State → Nat → State} (h : ∀ s i, ChecksKeep s (step s i)) :
    ∀ (l : List Nat) (s : State), ChecksKeep s (l.foldl step s)
  | [], s => ChecksKeep.refl s
  | i :: l, s => (h s i).trans (foldl_checksKeep h l (step s i))

theorem windowCheck_checksKeep (p : Profile) (s : State) : ChecksKeep s (s.windowCheck p) :=
  foldl_checksKeep (fun s i => windowStep_checksKeep p i s) _ s

theorem restCheck_checksKeep (p : Profile) (s : State) : ChecksKeep s (s.restCheck p) :=
  foldl_checksKeep (fun s i => restStep_checksKeep p i s) _ s

theorem enterStress_checksKeep (p : Profile) (s : State) : ChecksKeep s (s.enterStress p) := by
  unfold State.enterStress
  dsimp only
  split <;> exact ChecksKeep.of_store (by simp) (by simp) (by simp)

theorem railsSettled_checksKeep (p : Profile) (s : State) : ChecksKeep s (s.railsSettled p) := by
  unfold State.railsSettled
  split
  · unfold State.enterBoot
    dsimp only
    split
    · exact (ChecksKeep.of_store (by simp) (by simp) (by simp)).trans (enterStress_checksKeep p _)
    · exact ChecksKeep.of_store (by simp) (by simp) (by simp)
  · exact ChecksKeep.refl s

theorem takeTrip_checksKeep (p : Profile) (s : State) : ChecksKeep s (s.takeTrip p) := by
  unfold State.takeTrip
  split
  · have hreport := faultReport_checksKeep p (signature 5 s.seq.phase.code.toNat) s.clock s.openSwitch
    have hopen : ChecksKeep s s.openSwitch := ChecksKeep.of_store (by simp) (by simp) (by simp)
    exact (hopen.trans hreport).trans (ChecksKeep.of_store (by simp [State.enterDrain]) (by simp [State.enterDrain]) (by simp))
  · exact ChecksKeep.refl s

theorem drainComplete_checksKeep (p : Profile) (s : State) : ChecksKeep s (s.drainComplete p) := by
  refine ChecksKeep.of_store ?_ ?_ (by simp) <;>
  · unfold State.drainComplete State.endDrain
    dsimp only
    (repeat' split) <;> simp [State.endRun, State.enterRest]

theorem tripCounted_checksKeep (p : Profile) (s : State) : ChecksKeep s (s.tripCounted p) := ChecksKeep.of_store rfl rfl rfl

theorem poweredChecks_checksKeep (p : Profile) (tripFirst : Bool) (s : State) : ChecksKeep s (s.poweredChecks p tripFirst) := by
  have hflags : ChecksKeep s (if s.seq.phase == .ramp then s.rampFlags p else s) := ChecksKeep.ite _ (ChecksKeep.of_store rfl rfl rfl)
  have hcounted := hflags.trans (tripCounted_checksKeep p _)
  unfold State.poweredChecks
  dsimp only
  split
  · exact (hcounted.trans (ChecksKeep.ite _ (takeTrip_checksKeep p _))).trans (ChecksKeep.ite _ (railsSettled_checksKeep p _))
  · exact (hcounted.trans (ChecksKeep.ite _ (railsSettled_checksKeep p _))).trans (ChecksKeep.ite _ (takeTrip_checksKeep p _))

theorem phaseChecks_checksKeep (p : Profile) (tripFirst : Bool) (s : State) : ChecksKeep s (s.phaseChecks p tripFirst) := by
  have hdrain : ChecksKeep s (s.drainFlags p) := ChecksKeep.of_store rfl rfl rfl
  unfold State.phaseChecks
  cases s.seq.phase with
  | off | waiting => exact ChecksKeep.refl s
  | ramp => exact poweredChecks_checksKeep p tripFirst s
  | boot | stress => exact (windowCheck_checksKeep p s).trans (poweredChecks_checksKeep p tripFirst _)
  | rest => exact restCheck_checksKeep p s
  | drain =>
    dsimp only
    split
    · exact hdrain.trans (drainComplete_checksKeep p _)
    · exact hdrain

theorem sagCheck_checksKeep (p : Profile) (s : State) : ChecksKeep s (s.sagCheck p) := by
  refine ChecksKeep.of_store ?_ ?_ (by simp) <;>
  · unfold State.sagCheck
    (repeat' split) <;> simp [State.sagConfirmed]

/-! ### The round itself -/

theorem convert_toNat (x : Int) : ((convert x).toNat : Int) = max 0 (min 4095 x) := by
  unfold convert
  split
  · change (0 : Int) = _
    omega
  · split
    · change (4095 : Int) = _
      omega
    · rw [BitVec.toNat_ofNat]
      omega

theorem pushRound_eq (r : Round) (ring : List Round) : pushRound r ring = (ring ++ [r]).drop (ring.length + 1 - 256) := by
  simp [pushRound, newest]

@[simp] theorem captureRequest_port (s : State) : s.captureRequest.store.port = .capture := by
  unfold State.captureRequest
  (repeat' split) <;> rfl

/-- A capture in POST takes the round, and the port with it (R155, R157). -/
theorem offerRound_of_post {k : Nat} {s : State} (r : Round) (h : s.store.engine = .post k none) :
    (s.offerRound r).store.engine = .post k (some r) ∧ (s.offerRound r).store.port = .capture := by
  simp [State.offerRound, h]

theorem writesEnded_of_waiting {st : SnapshotStore} (h : st.engine = .idle ∨ ∃ k, st.engine = .post k none) : st.writesEnded = st := by
  rcases h with h | ⟨k, h⟩ <;> simp [SnapshotStore.writesEnded, SnapshotStore.preWriteEnd, SnapshotStore.postWriteEnd, h]

theorem sample_differing (raw : Bool) (d : Debounce) : (d.sample true raw).differing = if raw = d.level then 0 else d.differing + 1 := by
  cases raw <;> cases hl : d.level <;> simp [Debounce.sample, hl]

/-- Settles O24: without a profile a round ends after the panel sample; with one, the checks of every phase keep the values, the ring and the
capture that the round's own writes have left. -/
theorem roundConverts : Obligations.RoundConverts := by
  unfold Obligations.RoundConverts
  refine ⟨fun inputs i tripFirst s hp hround he => ?_, fun inputs i tripFirst s p hp hround => ?_, fun inputs i tripFirst s hround => ?_⟩
  · refine ⟨s.panel.sample i, ?_, rfl, rfl, ⟨rfl, rfl, rfl⟩, ⟨rfl, rfl, rfl⟩, fun hf => ?_⟩
    · rw [exec_round _ _ _ _ hround]
      simp [State.roundHandled, hp, State.roundBegun, writesEnded_of_waiting (.inl he), State.setPanel, State.setStore, State.setRoundTaken]
    · simp only [Panel.sample, hf]
      exact ⟨sample_differing _ _, sample_differing _ _, sample_differing _ _⟩
  · obtain ⟨u, hu⟩ : ∃ u, u = ((s.roundBegun i).writeHistory (inputs.map convert)).scaleValues p (inputs.map convert) := ⟨_, rfl⟩
    have keeps : ChecksKeep u ((u.phaseChecks p tripFirst).sagCheck p) :=
      (phaseChecks_checksKeep p tripFirst u).trans (sagCheck_checksKeep p _)
    have hhandled : (s.roundBegun i).roundHandled (inputs.map convert) tripFirst = (u.phaseChecks p tripFirst).sagCheck p := by
      simp [State.roundHandled, hp, hu]
    refine ⟨_, inputs.map convert, by rw [exec_round _ _ _ _ hround, hhandled], fun k hk => ?_, fun k hk => ?_, ?_, fun k he => ?_,
      by simp [hu], by simp [hu, State.roundBegun]⟩
    · rw [Eight.get_map convert inputs k hk]
      exact convert_toNat _
    · rw [keeps.values, hu]
      simp only [State.scaleValues, State.setRail_rail]
      rw [Eight.get_zip _ _ _ k hk]
      rfl
    · rw [keeps.ring, hu, ← pushRound_eq]
      simp [State.scaleValues, State.writeHistory]
    · have hstore : (s.roundBegun i).store = s.store := by
        simp [State.roundBegun, writesEnded_of_waiting (.inr ⟨k, he⟩)]
      obtain ⟨hengine, hport⟩ := offerRound_of_post (k := k) (s := (s.roundBegun i).setRail
        { (s.roundBegun i).rail with ring := pushRound (inputs.map convert) (s.roundBegun i).rail.ring }) (inputs.map convert)
        (by simp [hstore, he])
      have hu' : u.store.engine = .post k (some (inputs.map convert)) ∧ u.store.port = .capture := by
        rw [hu]
        exact ⟨hengine, hport⟩
      obtain ⟨hengine, hport⟩ := hu'
      have hbusy : u.store.engine ≠ .idle := by simp [hengine]
      exact ⟨(keeps.engine hbusy).trans hengine, (keeps.port hbusy).trans hport⟩
  · refine ⟨?_, by simp, by simp, by simp, fun hpend => ?_⟩
    · simp [exec, execRound, State.takeRound, State.countForRound, hround]
    · simp [step_of_pending_nil hpend, State.idleStep, hround]

end Sys2Proof.Proofs
end

section
/-! # Scope: what every operation keeps of the capacities, the generator, the tag, the peers and the queue's shape (R28, R34, R44, R135, R140, R174) -/

namespace Sys2Proof.Proofs

open Sys2Proof.Machine

/-! ### The blocks that the invariants speak of -/

/-- What every operation but a power-on reset keeps: the straps, and each invariant that one block meets by itself. -/
structure BlocksKept (s t : State) : Prop where
  stationId : t.port.stationId = s.port.stationId
  generator : s.GeneratorAlive → t.GeneratorAlive
  capacity : s.WithinCapacity → t.WithinCapacity
  roster : s.RosterOfPeers → t.RosterOfPeers
  matched : s.MatchesOfPeers → t.MatchesOfPeers
  tag : s.TagCanonical → t.TagCanonical

theorem BlocksKept.refl (s : State) : BlocksKept s s := ⟨rfl, id, id, id, id, id⟩

theorem BlocksKept.trans {s t u : State} (h : BlocksKept s t) (k : BlocksKept t u) : BlocksKept s u :=
  ⟨k.stationId.trans h.stationId, k.generator ∘ h.generator, k.capacity ∘ h.capacity, k.roster ∘ h.roster, k.matched ∘ h.matched, k.tag ∘ h.tag⟩

theorem isPeer_congr {s t : State} (h : t.port.stationId = s.port.stationId) (b : Byte) : t.isPeer b ↔ s.isPeer b := by
  simp [State.isPeer, State.ownId, h]

theorem matchesOfPeers_congr {s t : State} (hid : t.port.stationId = s.port.stationId) (hj : t.judge = s.judge) :
    s.MatchesOfPeers → t.MatchesOfPeers := by
  simp only [State.MatchesOfPeers, hj, isPeer_congr hid]
  exact id

theorem rosterOfPeers_congr {s t : State} (hid : t.port.stationId = s.port.stationId) (hr : t.claim.roster = s.claim.roster) :
    s.RosterOfPeers → t.RosterOfPeers := by
  simp only [State.RosterOfPeers, hr, isPeer_congr hid]
  exact id

/-- An operation on none of the blocks that these invariants read. -/
theorem BlocksKept.of_eq {s t : State} (hport : t.port = s.port) (hroster : t.claim.roster = s.claim.roster) (htable : t.table = s.table)
    (hjudge : t.judge = s.judge) (hring : t.rail.ring = s.rail.ring) (htrace : t.lis.trace = s.lis.trace) (htag : t.tag = s.tag)
    (hmarker : t.openMarker = s.openMarker) : BlocksKept s t := by
  have hid : t.port.stationId = s.port.stationId := by rw [hport]
  refine ⟨hid, ?_, ?_, rosterOfPeers_congr hid hroster, matchesOfPeers_congr hid hjudge, ?_⟩
  · simp [State.GeneratorAlive, hport]
  · simp only [State.WithinCapacity, hport, htable, hjudge, hring, htrace]; exact id
  · simp only [State.TagCanonical, htag, hmarker]; exact id

section
variable (s : State)

theorem setRun_blocksKept (x : RunControl) : BlocksKept s (s.setRun x) := .of_eq rfl rfl rfl rfl rfl rfl rfl rfl
theorem setPanel_blocksKept (x : Panel) : BlocksKept s (s.setPanel x) := .of_eq rfl rfl rfl rfl rfl rfl rfl rfl
theorem setStore_blocksKept (x : SnapshotStore) : BlocksKept s (s.setStore x) := .of_eq rfl rfl rfl rfl rfl rfl rfl rfl
theorem setClosing_blocksKept (x : Closing) : BlocksKept s (s.setClosing x) := .of_eq rfl rfl rfl rfl rfl rfl rfl rfl
theorem setSeq_blocksKept (x : Sequencer) : BlocksKept s (s.setSeq x) := .of_eq rfl rfl rfl rfl rfl rfl rfl rfl

/-- The port changed: the straps as they are, the generator alive, and no more non-step notices than may stand. -/
theorem setPort_blocksKept {s : State} {x : LinePort} (hid : x.stationId = s.port.stationId) (hg : s.port.generator ≠ 0#16 → x.generator ≠ 0#16)
    (hq : nonStepCount s.port.queue ≤ 14 → nonStepCount x.queue ≤ 14) : BlocksKept s (s.setPort x) := by
  refine ⟨hid, hg, ?_, rosterOfPeers_congr hid rfl, matchesOfPeers_congr hid rfl, id⟩
  rintro ⟨hqueue, hrest⟩
  exact ⟨hq hqueue, hrest⟩

theorem setClaim_blocksKept {s : State} {x : ClaimLogic} (h : x.roster = s.claim.roster) : BlocksKept s (s.setClaim x) :=
  .of_eq rfl h rfl rfl rfl rfl rfl rfl

theorem setClaimState_blocksKept (c : ClaimState) : BlocksKept s (s.setClaimState c) := setClaim_blocksKept rfl

theorem setRoster_blocksKept {s : State} {r : List RosterEntry} (h : s.RosterOfPeers → (s.setRoster r).RosterOfPeers) :
    BlocksKept s (s.setRoster r) := ⟨rfl, id, id, h, id, id⟩

theorem setTable_blocksKept {s : State} {x : SightingTable} (h : s.table.records.length ≤ 48 → x.records.length ≤ 48) :
    BlocksKept s (s.setTable x) := by
  refine ⟨rfl, id, ?_, id, id, id⟩
  rintro ⟨hq, ht, hrest⟩
  exact ⟨hq, h ht, hrest⟩

theorem setJudge_blocksKept {s : State} {x : Judge} (he : s.judge.echoes.length ≤ 32 → x.echoes.length ≤ 32)
    (ho : s.judge.occurrences.length ≤ 8 → x.occurrences.length ≤ 8) (hm : s.MatchesOfPeers → (s.setJudge x).MatchesOfPeers) :
    BlocksKept s (s.setJudge x) := by
  refine ⟨rfl, id, ?_, id, hm, id⟩
  rintro ⟨hq, ht, hechoes, hocc, hrest⟩
  exact ⟨hq, ht, he hechoes, ho hocc, hrest⟩

theorem setRail_blocksKept {s : State} {x : RailMonitor} (h : s.rail.ring.length ≤ 256 → x.ring.length ≤ 256) :
    BlocksKept s (s.setRail x) := by
  refine ⟨rfl, id, ?_, id, id, id⟩
  rintro ⟨hq, ht, he, ho, hring, htrace⟩
  exact ⟨hq, ht, he, ho, h hring, htrace⟩

theorem setLis_blocksKept {s : State} {x : Listener} (h : s.lis.trace.length ≤ 512 → x.trace.length ≤ 512) :
    BlocksKept s (s.setLis x) := by
  refine ⟨rfl, id, ?_, id, id, id⟩
  rintro ⟨hq, ht, he, ho, hring, htrace⟩
  exact ⟨hq, ht, he, ho, hring, h htrace⟩

theorem setTag_setOpenMarker_blocksKept {s : State} {m : List Host.Cell} {o : Option OpenMarker}
    (h : s.TagCanonical → ((s.setTag m).setOpenMarker o).TagCanonical) : BlocksKept s ((s.setTag m).setOpenMarker o) :=
  ⟨rfl, id, id, id, id, h⟩

end

/-! ### The queue's shape -/

/-- At most so many DETAILs, CLAIMs and other step notices in a queue, with no step notice behind a CLAIM (R34, R36, R159). -/
structure QueueShape (claims steps details : Nat) (q : List Notice) : Prop where
  details : q.countP Notice.isDetail ≤ details
  claims : q.countP Notice.isClaim ≤ claims
  steps : q.countP (fun n => n.isStep && !n.isClaim) ≤ steps
  ahead : q.Pairwise (fun a b => a.isClaim = true → b.isStep = false)

/-- The CLAIMs that the claim logic waits for (section 3.2). -/
def claimsOf : ClaimState → Nat
  | .queued => 1
  | .cancellingSag _ => 1
  | .cancellingEnd => 1
  | .idle => 0
  | .blocked => 0
  | .held _ => 0
  | .standing => 0

/-- The step notices other than the CLAIM that may stand in the queue (section 3.2). -/
def stepsOf : ClaimState → Nat
  | .standing => 0
  | .idle => 1
  | .blocked => 1
  | .held _ => 1
  | .queued => 1
  | .cancellingSag _ => 1
  | .cancellingEnd => 1

theorem queueKept_iff (s : State) : s.QueueKept ↔ QueueShape (claimsOf s.claim.state) (stepsOf s.claim.state) 1 s.port.queue := by
  unfold State.QueueKept
  cases s.claim.state <;> exact ⟨fun ⟨hd, hc, hs, ha⟩ => ⟨hd, hc, hs, ha⟩, fun ⟨hd, hc, hs, ha⟩ => ⟨hd, hc, hs, ha⟩⟩

theorem isStep_of_isClaim {n : Notice} (h : n.isClaim = true) : n.isStep = true := by
  obtain ⟨content, _, _, _⟩ := n
  cases content with
  | claim | withdraw | settled => rfl
  | sighting | sag | verdict | status | detail => nomatch h

theorem not_isStep_of_isDetail {n : Notice} (h : n.isDetail = true) : n.isStep = false := by
  obtain ⟨content, _, _, _⟩ := n
  cases content with
  | detail => rfl
  | claim | withdraw | settled | sighting | sag | verdict | status => nomatch h

section
variable {a b d : Nat} {q : List Notice} {n : Notice}

theorem QueueShape.mono {a' b' d' : Nat} (h : QueueShape a b d q) (ha : a ≤ a') (hb : b ≤ b') (hd : d ≤ d') : QueueShape a' b' d' q :=
  ⟨h.details.trans hd, h.claims.trans ha, h.steps.trans hb, h.ahead⟩

theorem QueueShape.sublist {q' : List Notice} (h : QueueShape a b d q) (hs : q'.Sublist q) : QueueShape a b d q' :=
  ⟨(hs.countP_le).trans h.details, (hs.countP_le).trans h.claims, (hs.countP_le).trans h.steps, h.ahead.sublist hs⟩

theorem QueueShape.tail (h : QueueShape a b d q) : QueueShape a b d q.tail := h.sublist q.tail_sublist

/-- A non-step notice at the tail. -/
theorem QueueShape.append (h : QueueShape a b d q) (hn : n.isStep = false) :
    QueueShape a b (d + if n.isDetail then 1 else 0) (q ++ [n]) := by
  have hc : n.isClaim = false := by
    rw [← Bool.not_eq_true]; exact fun hc => by simp [isStep_of_isClaim hc] at hn
  obtain ⟨hd, hcl, hs, ha⟩ := h
  refine ⟨?_, by simpa [hc] using hcl, by simpa [hn] using hs, ?_⟩
  · simp only [List.countP_append, List.countP_singleton]
    omega
  · refine List.pairwise_append.2 ⟨ha, List.pairwise_singleton _ _, fun x _ y hy _ => ?_⟩
    rw [List.mem_singleton.1 hy]
    exact hn

/-- The head replaced by a notice of its kind. -/
theorem QueueShape.head {m : Notice} (h : QueueShape a b d (n :: q)) (hs : m.isStep = n.isStep) (hc : m.isClaim = n.isClaim)
    (hd : m.isDetail = n.isDetail) : QueueShape a b d (m :: q) := by
  obtain ⟨hdet, hcl, hst, ha⟩ := h
  exact ⟨by simpa [List.countP_cons, hd] using hdet, by simpa [List.countP_cons, hc] using hcl,
    by simpa [List.countP_cons, hc, hs] using hst, by simpa [List.pairwise_cons, hc] using ha⟩

/-- Behind a CLAIM at the head there is no step notice. -/
theorem QueueShape.behind_claim (h : QueueShape 1 b d (n :: q)) (hn : n.isClaim = true) : QueueShape 0 0 d q := by
  obtain ⟨hd, hc, -, ha⟩ := h
  rw [List.pairwise_cons] at ha
  obtain ⟨hhead, ha⟩ := ha
  refine ⟨?_, ?_, ?_, ha⟩
  · exact ((List.sublist_cons_self n q).countP_le).trans hd
  · rw [List.countP_cons_of_pos hn] at hc; omega
  · rw [Nat.le_zero, List.countP_eq_zero]
    intro m hm
    simp [hhead m hm hn]

/-- Behind a DETAIL at the head there is none. -/
theorem QueueShape.behind_detail (h : QueueShape a b 1 (n :: q)) (hn : n.isDetail = true) : QueueShape a b 0 q := by
  obtain ⟨hd, hc, hs, ha⟩ := h.tail
  have := h.details
  rw [List.countP_cons_of_pos hn] at this
  exact ⟨by omega, hc, hs, ha⟩

/-- The CLAIMs taken out of the queue. -/
theorem QueueShape.withoutClaims (h : QueueShape a b d q) : QueueShape 0 b d (q.filter (fun n => !n.isClaim)) := by
  obtain ⟨hd, -, hs, ha⟩ := h.sublist (q' := q.filter (fun n => !n.isClaim)) List.filter_sublist
  exact ⟨hd, by simp [List.countP_filter], hs, ha⟩

theorem countP_insertStep (f : Notice → Bool) (n : Notice) (q : List Notice) :
    (insertStep n q).countP f = q.countP f + if f n then 1 else 0 := by
  induction q with
  | nil => simp [insertStep, List.countP_cons]
  | cons m q ih =>
    unfold insertStep
    split
    · simp only [List.countP_cons, ih]; omega
    · simp only [List.countP_cons]

theorem countP_withStep (f : Notice → Bool) (n : Notice) (p : LinePort) :
    (p.withStep n).countP f = p.queue.countP f + if f n then 1 else 0 := by
  unfold LinePort.withStep
  split
  · rename_i hq
    simp only [hq, List.countP_cons, countP_insertStep]; omega
  · exact countP_insertStep f n _

theorem claim_free_ahead (q : List Notice) (h0 : ∀ m ∈ q, m.isClaim = false) :
    q.Pairwise (fun a b => a.isClaim = true → b.isStep = false) :=
  List.pairwise_iff_forall_sublist.2 fun {x _} hs hc => by simp [h0 x (hs.subset List.mem_cons_self)] at hc

/-- A step notice stands behind every other, so that one put in where no CLAIM is has no step notice behind it. -/
theorem insertStep_ahead (n : Notice) (q : List Notice) (h0 : ∀ m ∈ q, m.isClaim = false) :
    (insertStep n q).Pairwise (fun a b => a.isClaim = true → b.isStep = false) := by
  induction q with
  | nil => simp [insertStep]
  | cons m q ih =>
    have hq : ∀ x ∈ q, x.isClaim = false := fun x hx => h0 x (List.mem_cons_of_mem _ hx)
    unfold insertStep
    split
    · exact List.pairwise_cons.2 ⟨fun x _ hm => by simp [h0 m List.mem_cons_self] at hm, ih hq⟩
    · rename_i hany
      simp only [List.any_eq_true, not_exists, not_and, Bool.not_eq_true] at hany
      exact List.pairwise_cons.2 ⟨fun x hx _ => hany x hx, claim_free_ahead _ h0⟩

theorem withStep_ahead (n : Notice) (p : LinePort) (h0 : ∀ m ∈ p.queue, m.isClaim = false) :
    (p.withStep n).Pairwise (fun a b => a.isClaim = true → b.isStep = false) := by
  unfold LinePort.withStep
  split
  · rename_i c q hc hq
    rw [hq] at h0
    exact List.pairwise_cons.2 ⟨fun x _ hm => by simp [h0 c List.mem_cons_self] at hm,
      insertStep_ahead n q (fun x hx => h0 x (List.mem_cons_of_mem _ hx))⟩
  · exact insertStep_ahead n _ h0

theorem QueueShape.claim_free (h : QueueShape 0 b d q) : ∀ m ∈ q, m.isClaim = false := by
  have := h.claims
  rw [Nat.le_zero, List.countP_eq_zero] at this
  exact fun m hm => by simpa using this m hm

/-- A step notice put into a queue with no CLAIM: a CLAIM, or one of the others. -/
theorem QueueShape.withStep {p : LinePort} {a' b' : Nat} (h : QueueShape 0 b d p.queue) (hn : n.isStep = true)
    (h' : (n.isClaim = true ∧ a' = 1 ∧ b' = b) ∨ (n.isClaim = false ∧ a' = 0 ∧ b' = b + 1)) : QueueShape a' b' d (p.withStep n) := by
  have hd : n.isDetail = false := by
    rw [← Bool.not_eq_true]; exact fun hd => by simp [not_isStep_of_isDetail hd] at hn
  have hfree := h.claim_free
  obtain ⟨hdet, hc, hs, -⟩ := h
  refine ⟨?_, ?_, ?_, withStep_ahead n p hfree⟩
  · simpa [countP_withStep, hd] using hdet
  · rw [countP_withStep]
    rcases h' with ⟨hcl, rfl, rfl⟩ | ⟨hcl, rfl, rfl⟩ <;> simp [hcl] <;> omega
  · rw [countP_withStep]
    rcases h' with ⟨hcl, rfl, rfl⟩ | ⟨hcl, rfl, rfl⟩ <;> simp [hn, hcl] <;> omega

end

/-! ### Quiet operations -/

/-- An operation that the run controller, the sequencer, the claim logic, the profile load and the closing work do not notice, whatever it does to the
queue. -/
structure Still (s t : State) : Prop extends BlocksKept s t where
  phase : t.seq.phase = s.seq.phase
  lines : t.seq.lines = s.seq.lines
  claim : t.claim.state = s.claim.state
  state : t.run.state = s.run.state
  profile : t.profile = s.profile
  load : t.load = s.load
  firstTaken : t.panel.firstTaken = s.panel.firstTaken
  closing : t.closing = s.closing

theorem Still.refl (s : State) : Still s s := ⟨.refl s, rfl, rfl, rfl, rfl, rfl, rfl, rfl, rfl⟩

theorem Still.trans {s t u : State} (h : Still s t) (k : Still t u) : Still s u :=
  ⟨h.toBlocksKept.trans k.toBlocksKept, k.phase.trans h.phase, k.lines.trans h.lines, k.claim.trans h.claim, k.state.trans h.state,
    k.profile.trans h.profile, k.load.trans h.load, k.firstTaken.trans h.firstTaken, k.closing.trans h.closing⟩

/-- One that takes no step notice and no DETAIL into the queue either. -/
structure Quiet (s t : State) : Prop extends Still s t where
  queue : ∀ a b d, QueueShape a b d s.port.queue → QueueShape a b d t.port.queue

theorem Quiet.refl (s : State) : Quiet s s := ⟨.refl s, fun _ _ _ => id⟩

theorem Quiet.trans {s t u : State} (h : Quiet s t) (k : Quiet t u) : Quiet s u :=
  ⟨h.toStill.trans k.toStill, fun a b d hq => k.queue a b d (h.queue a b d hq)⟩

/-- A quiet operation made or left out by a test. -/
theorem Quiet.ite {s t : State} (b : Bool) (h : Quiet s t) : Quiet s (if b then t else s) := by
  cases b
  · exact .refl s
  · exact h

/-- An operation that leaves the queue as it is. -/
theorem Still.quiet {s t : State} (h : Still s t) (hq : t.port.queue = s.port.queue) : Quiet s t := ⟨h, fun _ _ _ hs => by rwa [hq]⟩

section
variable {s : State}

theorem setStore_quiet (s : State) (x : SnapshotStore) : Quiet s (s.setStore x) :=
  ⟨⟨setStore_blocksKept s x, rfl, rfl, rfl, rfl, rfl, rfl, rfl, rfl⟩, fun _ _ _ => id⟩

theorem setRun_quiet {x : RunControl} (h : x.state = s.run.state) : Quiet s (s.setRun x) :=
  ⟨⟨setRun_blocksKept s x, rfl, rfl, rfl, h, rfl, rfl, rfl, rfl⟩, fun _ _ _ => id⟩

theorem setPanel_quiet {x : Panel} (h : x.firstTaken = s.panel.firstTaken) : Quiet s (s.setPanel x) :=
  ⟨⟨setPanel_blocksKept s x, rfl, rfl, rfl, rfl, rfl, rfl, h, rfl⟩, fun _ _ _ => id⟩

theorem setSeq_quiet {x : Sequencer} (hp : x.phase = s.seq.phase) (hl : x.lines = s.seq.lines) : Quiet s (s.setSeq x) :=
  ⟨⟨setSeq_blocksKept s x, hp, hl, rfl, rfl, rfl, rfl, rfl, rfl⟩, fun _ _ _ => id⟩

theorem setTable_quiet {x : SightingTable} (h : s.table.records.length ≤ 48 → x.records.length ≤ 48) : Quiet s (s.setTable x) :=
  ⟨⟨setTable_blocksKept h, rfl, rfl, rfl, rfl, rfl, rfl, rfl, rfl⟩, fun _ _ _ => id⟩

theorem setJudge_quiet {x : Judge} (he : s.judge.echoes.length ≤ 32 → x.echoes.length ≤ 32)
    (ho : s.judge.occurrences.length ≤ 8 → x.occurrences.length ≤ 8) (hm : s.MatchesOfPeers → (s.setJudge x).MatchesOfPeers) :
    Quiet s (s.setJudge x) :=
  ⟨⟨setJudge_blocksKept he ho hm, rfl, rfl, rfl, rfl, rfl, rfl, rfl, rfl⟩, fun _ _ _ => id⟩

theorem setRail_quiet {x : RailMonitor} (h : s.rail.ring.length ≤ 256 → x.ring.length ≤ 256) : Quiet s (s.setRail x) :=
  ⟨⟨setRail_blocksKept h, rfl, rfl, rfl, rfl, rfl, rfl, rfl, rfl⟩, fun _ _ _ => id⟩

theorem setLis_quiet {x : Listener} (h : s.lis.trace.length ≤ 512 → x.trace.length ≤ 512) : Quiet s (s.setLis x) :=
  ⟨⟨setLis_blocksKept h, rfl, rfl, rfl, rfl, rfl, rfl, rfl, rfl⟩, fun _ _ _ => id⟩

theorem setTag_setOpenMarker_quiet {m : List Host.Cell} {o : Option OpenMarker}
    (h : s.TagCanonical → ((s.setTag m).setOpenMarker o).TagCanonical) : Quiet s ((s.setTag m).setOpenMarker o) :=
  ⟨⟨setTag_setOpenMarker_blocksKept h, rfl, rfl, rfl, rfl, rfl, rfl, rfl, rfl⟩, fun _ _ _ => id⟩

/-- The port changed without a new notice: straps as they are, the generator alive, and a queue of a shape that allows no more. -/
theorem setPort_quiet {x : LinePort} (hid : x.stationId = s.port.stationId) (hg : s.port.generator ≠ 0#16 → x.generator ≠ 0#16)
    (hn : nonStepCount x.queue ≤ nonStepCount s.port.queue) (hq : ∀ a b d, QueueShape a b d s.port.queue → QueueShape a b d x.queue) :
    Quiet s (s.setPort x) :=
  ⟨⟨setPort_blocksKept hid hg hn.trans, rfl, rfl, rfl, rfl, rfl, rfl, rfl, rfl⟩, hq⟩

/-- The port changed apart from queue, straps and generator. -/
theorem setPort_quiet_of_eq {x : LinePort} (hid : x.stationId = s.port.stationId) (hg : x.generator = s.port.generator)
    (hq : x.queue = s.port.queue) : Quiet s (s.setPort x) :=
  setPort_quiet hid (by rw [hg]; exact id) (by rw [hq]) (by rw [hq]; exact fun _ _ _ => id)

end

end Sys2Proof.Proofs
end

section
/-! # Scope: the operations that are quiet: hand-overs, fault reports, echoes, captures, line events of the port alone -/

namespace Sys2Proof.Proofs

open Sys2Proof.Machine

section
variable (s : State)

/-! ### Hand-over, conditions and the alert -/

/-- A notice accepted is at the tail, and a non-step notice finds fewer than 14. -/
theorem setPort_accepting_still {n : Notice} {s : State} (hr : Room s) : Still s (s.setPort (s.port.accepting n)) := by
  refine ⟨setPort_blocksKept rfl id (fun _ => ?_), rfl, rfl, rfl, rfl, rfl, rfl, rfl, rfl⟩
  have hone : [n].countP (fun n => !n.isStep) ≤ 1 := List.countP_le_length
  unfold Room nonStepCount at hr
  simp only [LinePort.accepting, nonStepCount, List.countP_append]
  omega

/-- A non-step notice taken, or discarded in standalone. -/
theorem enqueue_still {n : Notice} {s t : State} (h : s.enqueue n = some t) : Still s t := by
  rcases State.enqueue_spec n s t h with ⟨-, rfl⟩ | ⟨hs, hr, -⟩
  · exact .refl t
  · have hid : s.port.stationId ≠ 0#5 := by simpa [State.standalone] using hs
    have hroom : Room s := by simpa [Room, nonStepLimit] using hr
    rw [State.enqueue_room n s hid hroom] at h
    obtain rfl := Option.some.inj h
    exact setPort_accepting_still hroom

/-- The queue's shape allows one DETAIL more where the notice taken is one. -/
theorem enqueue_shape {n : Notice} {s t : State} (h : s.enqueue n = some t) (hn : n.isStep = false) {a b d : Nat}
    (hq : QueueShape a b d s.port.queue) : QueueShape a b (d + if n.isDetail then 1 else 0) t.port.queue := by
  rcases State.enqueue_spec n s t h with ⟨-, rfl⟩ | ⟨-, -, rfl⟩
  · exact hq.mono le_rfl le_rfl (Nat.le_add_right _ _)
  · simpa [LinePort.wake_spec] using hq.append hn

theorem enqueue_quiet {n : Notice} {s t : State} (h : s.enqueue n = some t) (hn : n.isStep = false) (hd : n.isDetail = false) : Quiet s t :=
  ⟨enqueue_still h, fun a b d hq => by simpa [hd] using enqueue_shape h hn hq⟩

theorem putCondition_quiet (c : Condition) (b : Bool) : Quiet s (s.putCondition c b) := setRun_quiet rfl

theorem setAlert_quiet (a : Alert) : Quiet s (s.setAlert a) := setRun_quiet rfl

theorem setLastOrder_quiet (r : OrderResult) : Quiet s (s.setLastOrder r) := setRun_quiet rfl

theorem handAlert_quiet : Quiet s s.handAlert := by
  unfold State.handAlert
  split
  · next t h => exact (enqueue_quiet h rfl rfl).trans (setAlert_quiet t _)
  · exact (putCondition_quiet s _ _).trans (setAlert_quiet _ _)

theorem setCondition_quiet (c : Condition) : Quiet s (s.setCondition c) := by
  unfold State.setCondition
  split
  · exact .refl s
  · split
    · exact (putCondition_quiet s c true).trans (handAlert_quiet _)
    · exact putCondition_quiet s c true

theorem alertOnDeparture_quiet : Quiet s s.alertOnDeparture := by
  unfold State.alertOnDeparture
  split
  · exact handAlert_quiet s
  · exact .refl s

theorem handNotice_still (n : Notice) : Still s (s.handNotice n).1 := by
  unfold State.handNotice
  split
  · next t h => exact enqueue_still h
  · exact (setCondition_quiet s _).toStill

theorem handNotice_shape {n : Notice} {s : State} (hn : n.isStep = false) {a b d : Nat} (hq : QueueShape a b d s.port.queue) :
    QueueShape a b (d + if n.isDetail then 1 else 0) (s.handNotice n).1.port.queue := by
  unfold State.handNotice
  cases h : s.enqueue n with
  | some t => exact enqueue_shape h hn hq
  | none => exact ((setCondition_quiet s _).queue a b d hq).mono le_rfl le_rfl (Nat.le_add_right _ _)

theorem handNotice_quiet {n : Notice} (hn : n.isStep = false) (hd : n.isDetail = false) : Quiet s (s.handNotice n).1 :=
  ⟨handNotice_still s n, fun a b d hq => by simpa [hd] using handNotice_shape hn hq⟩

theorem reply_quiet (source : Byte) : Quiet s (s.reply source) := handNotice_quiet s rfl rfl

/-! ### The snapshot store -/

theorem captureRequest_quiet : Quiet s s.captureRequest := by
  have hfree : ∀ x, Quiet s (s.setFreeIndex x) := fun x =>
    ⟨⟨.of_eq rfl rfl rfl rfl rfl rfl rfl rfl, rfl, rfl, rfl, rfl, rfl, rfl, rfl, rfl⟩, fun _ _ _ => id⟩
  unfold State.captureRequest
  split
  · split
    · exact (hfree _).trans (setStore_quiet _ _)
    · exact setStore_quiet s _
  · exact setStore_quiet s _

theorem snapshotMissed_quiet (g : Sig) : Quiet s (s.snapshotMissed g) := (setStore_quiet s _).trans (setCondition_quiet _ _)

theorem trigger_quiet (p : Profile) (g : Sig) (t : Time) : Quiet s (s.trigger p g t).1 := by
  unfold State.trigger
  split
  · exact (captureRequest_quiet s).trans (setStore_quiet _ _)
  · exact snapshotMissed_quiet s g

theorem offerRound_quiet (r : Round) : Quiet s (s.offerRound r) := by
  unfold State.offerRound
  split
  · exact (captureRequest_quiet s).trans (setStore_quiet _ _)
  · exact .refl s

/-! ### The sighting table -/

theorem updateRecord_quiet (g : Sig) (f : Record → Record) : Quiet s (s.updateRecord g f) :=
  setTable_quiet (by simp [SightingTable.update])

/-! ### Echoes and open occurrences -/

theorem addMember_nodup {b : Byte} {l : List Byte} (h : l.Nodup) : (addMember b l).Nodup := by
  unfold addMember
  split
  · exact h
  · next hb => exact List.nodup_append.2 ⟨h, List.nodup_singleton b, fun x hx y hy => by simp_all [ne_of_mem_of_not_mem hx]⟩

theorem mem_addMember {b x : Byte} {l : List Byte} : x ∈ addMember b l ↔ x ∈ l ∨ x = b := by
  unfold addMember
  split
  · next hb => exact ⟨.inl, fun h => h.elim id (fun hx => hx ▸ hb)⟩
  · simp

/-- The matched set of an occurrence names peers, each once (R140). -/
def MatchedPeers (s : State) (o : Occurrence) : Prop := o.matched.Nodup ∧ ∀ b ∈ o.matched, s.isPeer b

/-- The sender of a sighting echo is a peer (R135). -/
def EchoOfPeer (s : State) (e : Echo) : Prop := ∀ g, e.kind = .sighting g → s.isPeer e.source

theorem matchesOfPeers_iff : s.MatchesOfPeers ↔ (∀ e ∈ s.judge.echoes, EchoOfPeer s e) ∧ ∀ o ∈ s.judge.occurrences, MatchedPeers s o := Iff.rfl

theorem matchedBy_matchedPeers {s : State} {p : Profile} {e : Echo} {o : Occurrence} (he : EchoOfPeer s e) (ho : MatchedPeers s o) :
    MatchedPeers s (o.matchedBy p e) := by
  unfold Occurrence.matchedBy
  split
  · cases hk : e.kind with
    | sighting g =>
      obtain ⟨hnodup, hpeers⟩ := ho
      refine ⟨addMember_nodup hnodup, fun b hb => ?_⟩
      rcases mem_addMember.1 hb with hb | rfl
      · exact hpeers b hb
      · exact he g hk
    | sag => exact ho
  · exact ho

theorem foldl_matchedBy_matchedPeers {s : State} {p : Profile} :
    ∀ (l : List Echo) (o : Occurrence), (∀ e ∈ l, EchoOfPeer s e) → MatchedPeers s o → MatchedPeers s (l.foldl (fun o e => o.matchedBy p e) o)
  | [], _, _, ho => ho
  | e :: l, _, hl, ho =>
    foldl_matchedBy_matchedPeers l _ (fun x hx => hl x (List.mem_cons_of_mem _ hx)) (matchedBy_matchedPeers (hl e List.mem_cons_self) ho)

theorem matchEcho_quiet (p : Profile) {e : Echo} {s : State} (he : EchoOfPeer s e) : Quiet s (s.matchEcho p e) := by
  refine setJudge_quiet id (by simp) fun h => ?_
  rw [matchesOfPeers_iff] at h ⊢
  obtain ⟨hechoes, hocc⟩ := h
  refine ⟨hechoes, fun o ho => ?_⟩
  obtain ⟨x, hx, rfl⟩ := List.mem_map.1 ho
  exact matchedBy_matchedPeers he (hocc x hx)

theorem storeEcho_quiet (p : Profile) {e : Echo} {s : State} (he : EchoOfPeer s e) : Quiet s (s.storeEcho p e) := by
  unfold State.storeEcho
  split
  · split
    · next hl =>
      refine setJudge_quiet (fun _ => ?_) id fun h => ?_
      · simpa [echoLimit] using hl
      · rw [matchesOfPeers_iff] at h ⊢
        obtain ⟨hechoes, hocc⟩ := h
        refine ⟨fun x hx => ?_, hocc⟩
        rcases List.mem_append.1 hx with hx | hx
        · exact hechoes x hx
        · rw [List.mem_singleton.1 hx]; exact he
    · refine (setJudge_quiet ?_ ?_ ?_).trans (setCondition_quiet _ _) <;> exact id
  · exact .refl s

theorem echoOfPeer_congr {s t : State} {e : Echo} (h : t.port.stationId = s.port.stationId) (he : EchoOfPeer s e) : EchoOfPeer t e :=
  fun g hg => (isPeer_congr h _).2 (he g hg)

theorem echoOfPeer_sag {e : Echo} (h : e.kind = .sag) : EchoOfPeer s e := fun g hg => by simp [h] at hg

theorem sagEcho_quiet (p : Profile) {e : Echo} {s : State} (he : EchoOfPeer s e) : Quiet s (s.sagEcho p e) :=
  (matchEcho_quiet p he).trans (storeEcho_quiet p (echoOfPeer_congr rfl he))

theorem lateTest_quiet (p : Profile) (g : Sig) (e : Echo) : Quiet s (s.lateTest p g e) := by
  unfold State.lateTest
  (repeat' split) <;> first | exact .refl s | exact updateRecord_quiet s g _

theorem sightingEcho_quiet (p : Profile) (g : Sig) {e : Echo} {s : State} (he : EchoOfPeer s e) : Quiet s (s.sightingEcho p g e) := by
  unfold State.sightingEcho
  split
  · exact sagEcho_quiet p he
  · have h := lateTest_quiet s p g e
    exact h.trans (storeEcho_quiet p (echoOfPeer_congr h.stationId he))

theorem takeSighting_quiet {h : Header} {s : State} (hp : s.isPeer h.source) (g : Sig) : Quiet s (s.takeSighting h g) := by
  unfold State.takeSighting
  split
  · exact .refl s
  · split
    · exact sightingEcho_quiet _ g (fun _ _ => hp)
    · exact .refl s

theorem judgeSag_quiet (h : Header) : Quiet s (s.judgeSag h) := by
  unfold State.judgeSag
  split
  · exact .refl s
  · split
    · exact sagEcho_quiet _ (echoOfPeer_sag s rfl)
    · exact .refl s

theorem ownSagMark_quiet (p : Profile) : Quiet s (s.ownSagMark p) := sagEcho_quiet p (echoOfPeer_sag s rfl)

theorem dropStale_sublist (p : Profile) (now : Time) : ∀ l : List Echo, (dropStale p now l).Sublist l
  | [] => .slnil
  | e :: l => by
    unfold dropStale
    split
    · exact (dropStale_sublist p now l).cons_cons e
    · exact List.sublist_cons_self e l

/-- Echoes and occurrences taken out of the judge's lists. -/
theorem setJudge_sublist_quiet {s : State} {x : Judge} (he : x.echoes.Sublist s.judge.echoes) (ho : x.occurrences.Sublist s.judge.occurrences) :
    Quiet s (s.setJudge x) := by
  refine setJudge_quiet he.length_le.trans ho.length_le.trans fun h => ?_
  rw [matchesOfPeers_iff] at h ⊢
  obtain ⟨hechoes, hocc⟩ := h
  exact ⟨fun e hx => hechoes e (he.subset hx), fun o hx => hocc o (ho.subset hx)⟩

theorem echoRemoval_quiet : Quiet s s.echoRemoval := by
  unfold State.echoRemoval
  split
  · exact .refl s
  · exact setJudge_sublist_quiet (dropStale_sublist _ _ _) (.refl _)

theorem dropOccurrences_quiet : Quiet s s.dropOccurrences := by
  rw [State.dropOccurrences_spec]
  exact (setTable_quiet (by simp)).trans (setJudge_sublist_quiet (.refl _) (List.nil_sublist _))

theorem closeOccurrence_quiet {p : Profile} {o : Occurrence} {rest : List Occurrence} {s : State} (h : s.judge.occurrences = o :: rest) :
    Quiet s (s.closeOccurrence p o rest) :=
  (updateRecord_quiet s o.sig (o.judge p)).trans
    (setJudge_sublist_quiet (.refl _) (by rw [State.updateRecord, State.setTable_judge, h]; exact List.sublist_cons_self o rest))

/-! ### Fault reports -/

theorem offerOccurrence_quiet (p : Profile) (g : Sig) (t : Time) : Quiet s (s.offerOccurrence p g t) := by
  unfold State.offerOccurrence
  split
  · next hl =>
    refine setJudge_quiet id (fun _ => ?_) fun h => ?_
    · simpa [occurrenceLimit] using hl
    · rw [matchesOfPeers_iff] at h ⊢
      obtain ⟨hechoes, hocc⟩ := h
      refine ⟨hechoes, fun o ho => ?_⟩
      rcases List.mem_append.1 ho with ho | ho
      · exact hocc o ho
      · rw [List.mem_singleton.1 ho]
        exact foldl_matchedBy_matchedPeers _ _ hechoes ⟨List.nodup_nil, by simp⟩
  · exact (updateRecord_quiet s g _).trans (setCondition_quiet _ _)

theorem announceOccurrence_quiet (p : Profile) (g : Sig) (t : Time) : Quiet s (s.announceOccurrence p g t) :=
  ((offerOccurrence_quiet s p g t).trans (handNotice_quiet _ rfl rfl)).trans (setTable_quiet id)

theorem triggerSnapshot_quiet (p : Profile) (g : Sig) (t : Time) : Quiet s (s.triggerSnapshot p g t) := by
  unfold State.triggerSnapshot
  split
  · exact (trigger_quiet s p g t).trans (updateRecord_quiet _ g _)
  · exact .refl s

theorem faultReport_quiet (p : Profile) (g : Sig) (t : Time) : Quiet s (s.faultReport p g t) := by
  unfold State.faultReport
  split
  · split
    · next hl =>
      refine ((setTable_quiet (fun _ => ?_)).trans (announceOccurrence_quiet _ p g t)).trans (triggerSnapshot_quiet _ p g t)
      simpa [recordLimit] using hl
    · refine (setTable_quiet ?_).trans (setCondition_quiet _ _)
      exact id
  · split
    · exact updateRecord_quiet s g _
    · exact (updateRecord_quiet s g _).trans (announceOccurrence_quiet _ p g t)

/-- A sequence of operations, one for each member of a list, keeps what its step keeps. -/
theorem foldl_quiet {α : Type} {f : State → α → State} (h : ∀ s i, Quiet s (f s i)) : ∀ (l : List α) (s : State), Quiet s (l.foldl f s)
  | [], s => .refl s
  | i :: l, s => (h s i).trans (foldl_quiet h l (f s i))

theorem faultReports_quiet (p : Profile) (cls : Nat) (l : List Nat) (t : Time) : Quiet s (s.faultReports p cls l t) :=
  foldl_quiet (fun s d => faultReport_quiet s p (signature cls d) t) l s

/-! ### The rail monitor's checks but for the sequencer's reports -/

theorem newest_length_le {α : Type} (n : Nat) (l : List α) : (newest n l).length ≤ n := by
  simp only [newest, List.length_drop]; omega

theorem setWatch_quiet (i : Nat) (w : ChannelWatch) : Quiet s (s.setWatch i w) := setRail_quiet id

theorem windowCheck_quiet (p : Profile) : Quiet s (s.windowCheck p) := by
  refine foldl_quiet (fun s i => ?_) _ s
  unfold State.windowStep
  dsimp only
  split
  · split
    · exact (setWatch_quiet s i _).trans (faultReport_quiet _ _ _ _)
    · exact setWatch_quiet s i _
  · exact .refl s

theorem restCheck_quiet (p : Profile) : Quiet s (s.restCheck p) := by
  refine foldl_quiet (fun s i => ?_) _ s
  unfold State.restStep
  dsimp only
  split
  · split
    · exact (setWatch_quiet s i _).trans (faultReport_quiet _ _ _ _)
    · exact setWatch_quiet s i _
  · exact .refl s

theorem rampFlags_quiet (p : Profile) : Quiet s (s.rampFlags p) := setRail_quiet id

theorem drainFlags_quiet (p : Profile) : Quiet s (s.drainFlags p) := setRail_quiet id

theorem tripCounted_quiet (p : Profile) : Quiet s (s.tripCounted p) := setRail_quiet id

theorem scaleValues_quiet (p : Profile) (r : Round) : Quiet s (s.scaleValues p r) := setRail_quiet id

theorem writeHistory_quiet (r : Round) : Quiet s (s.writeHistory r) :=
  (setRail_quiet (fun _ => newest_length_le _ _)).trans (offerRound_quiet _ r)

theorem roundBegun_quiet (i : PanelSample) : Quiet s (s.roundBegun i) := by
  have hround : ∀ t : State, Quiet t (t.setRoundTaken true) := fun t =>
    ⟨⟨.of_eq rfl rfl rfl rfl rfl rfl rfl rfl, rfl, rfl, rfl, rfl, rfl, rfl, rfl, rfl⟩, fun _ _ _ => id⟩
  refine ((setPanel_quiet ?_).trans (setStore_quiet _ _)).trans (hround _)
  rfl

/-! ### The line port alone -/

theorem onLine_quiet {f : LinePort → LinePort} (hid : ∀ p, (f p).stationId = p.stationId) (hg : ∀ p, (f p).generator = p.generator)
    (hq : ∀ p, (f p).queue = p.queue) : Quiet s (s.onLine f) := by
  unfold State.onLine
  split
  · exact .refl s
  · exact setPort_quiet_of_eq (hid _) (hg _) (hq _)

theorem carrierAppears_quiet (bt : Nat) : Quiet s (s.onLine (LinePort.carrierAppears bt)) := by
  refine onLine_quiet s ?_ ?_ ?_ <;>
  · intro p
    unfold LinePort.carrierAppears
    (repeat' split) <;> rfl

theorem endOfCarrier_quiet (bt : Nat) : Quiet s (s.onLine (LinePort.endOfCarrier bt)) := by
  refine onLine_quiet s ?_ ?_ ?_ <;>
  · intro p
    unfold LinePort.endOfCarrier
    (repeat' split) <;> rfl

theorem collision_quiet (bt : Nat) : Quiet s (s.collision bt) := by
  unfold State.collision
  split
  · split
    · exact setPort_quiet_of_eq rfl rfl rfl
    · exact .refl s
  · exact .refl s

theorem backoffEnd_quiet (bt : Nat) : Quiet s (s.backoffEnd bt) := by
  unfold State.backoffEnd
  split
  · split
    · exact setPort_quiet_of_eq rfl rfl rfl
    · exact .refl s
  · exact .refl s

theorem generatorNext_getLsbD_zero (g : BitVec 16) :
    (generatorNext g).getLsbD 0 = (g.getLsbD 15 ^^ g.getLsbD 13 ^^ g.getLsbD 12 ^^ g.getLsbD 10) := by
  simp [generatorNext]

theorem generatorNext_getLsbD_succ (g : BitVec 16) {i : Nat} (h : i < 15) : (generatorNext g).getLsbD (i + 1) = g.getLsbD i := by
  have hlt : i + 1 < 16 := by omega
  rw [BitVec.getLsbD_eq_getElem (by omega : i < 16)]
  simp [generatorNext, hlt]

/-- Of a register whose next state is 0 every bit but the top one is 0, and then the bit that enters is the top one (R28). -/
theorem generatorNext_ne_zero {g : BitVec 16} (h : g ≠ 0#16) : generatorNext g ≠ 0#16 := by
  intro h0
  have hlow : ∀ i, i < 15 → g.getLsbD i = false := fun i hi => by rw [← generatorNext_getLsbD_succ g hi, h0]; simp
  have htop : g.getLsbD 15 = false := by
    have := generatorNext_getLsbD_zero g
    rw [h0, hlow 13 (by omega), hlow 12 (by omega), hlow 10 (by omega)] at this
    simpa using this.symm
  refine h (BitVec.eq_of_getLsbD_eq fun i hi => ?_)
  rcases Nat.lt_succ_iff_lt_or_eq.1 hi with hi | rfl
  · simpa using hlow i hi
  · simpa using htop

theorem advanceGenerator_quiet (bt : Nat) : Quiet s (s.advanceGenerator bt) := by
  unfold State.advanceGenerator
  split
  · exact setPort_quiet rfl generatorNext_ne_zero le_rfl (fun _ _ _ => id)
  · exact .refl s

theorem resume_eq (p : LinePort) :
    p.resume = { p with tx := if p.queue.isEmpty then .idle else .defer, gap := if p.queue.isEmpty then p.gapNow else p.gap } := by
  unfold LinePort.resume
  split <;> simp_all

/-- A notice as its attempt begins is of the same kind. -/
theorem begun_kind (content : List Byte) (n : Notice) :
    (n.begun content).isStep = n.isStep ∧ (n.begun content).isClaim = n.isClaim ∧ (n.begun content).isDetail = n.isDetail := by
  obtain ⟨c, target, e, k⟩ := n
  cases c with
  | status a taken => cases taken <;> exact ⟨rfl, rfl, rfl⟩
  | claim | withdraw | settled | sighting | sag | verdict | detail => exact ⟨rfl, rfl, rfl⟩

theorem beginAttempt_quiet (bt : Nat) {n : Notice} {rest : List Notice} {s : State} (h : s.port.queue = n :: rest) :
    Quiet s (s.beginAttempt bt n rest) := by
  obtain ⟨hstep, hclaim, hdetail⟩ := begun_kind s.statusContent n
  have hport : Quiet s (s.setPort { s.port with
      queue := n.begun s.statusContent :: rest, current := true
      tx := .send bt (frameBytes s.ownId s.clock (n.begun s.statusContent)), framer := .notFed }) := by
    refine setPort_quiet rfl id ?_ fun a b d hq => ?_
    · simp [h, nonStepCount, List.countP_cons, hstep]
    · rw [h] at hq
      exact hq.head hstep hclaim hdetail
  unfold State.beginAttempt
  dsimp only
  split
  · exact hport.trans (setAlert_quiet _ _)
  · exact hport

theorem quietGapEnd_quiet (bt : Nat) : Quiet s (s.quietGapEnd bt) := by
  unfold State.quietGapEnd
  split
  · split
    · split
      · exact setPort_quiet_of_eq (by rw [resume_eq]) (by rw [resume_eq]) (by rw [resume_eq])
      · next h => exact beginAttempt_quiet bt h
    · exact .refl s
  · exact .refl s

theorem ownCarrierEnds_quiet (bt : Nat) : Quiet s (s.setPort (s.port.ownCarrierEnds bt)) := setPort_quiet_of_eq rfl rfl rfl

@[simp] theorem headLeaves_queue : s.headLeaves.port.queue = s.port.queue.tail := by
  simp [State.headLeaves, resume_eq, LinePort.leave]

theorem headLeaves_quiet : Quiet s s.headLeaves := by
  unfold State.headLeaves
  refine setPort_quiet (by simp [resume_eq, LinePort.leave]) (by simp [resume_eq, LinePort.leave]) ?_ fun a b d hq => ?_
  · simpa [resume_eq, LinePort.leave, nonStepCount] using s.port.queue.tail_sublist.countP_le
  · simpa [resume_eq, LinePort.leave] using hq.tail

theorem frameDiscarded_quiet (f : ReceivedFrame) : Quiet s (s.frameDiscarded f) := by
  unfold State.frameDiscarded
  split
  · exact setCondition_quiet s _
  · exact .refl s

/-! ### Readout -/

theorem handPiece_still (r : Readout) (payload : List Byte) (next : ReadStage) : Still s (s.handPiece r payload next) := by
  unfold State.handPiece
  have h := handNotice_still s (Notice.fresh (.detail payload) r.target s.clock)
  split <;> rename_i hn <;> rw [hn] at h <;> exact h.trans (setStore_quiet _ _).toStill

/-- A piece handed while no DETAIL is queued is the one DETAIL in the queue. -/
theorem handPiece_shape (r : Readout) (payload : List Byte) (next : ReadStage) {s : State} {a b : Nat} (hq : QueueShape a b 0 s.port.queue) :
    QueueShape a b 1 (s.handPiece r payload next).port.queue := by
  have h := handNotice_shape (n := Notice.fresh (.detail payload) r.target s.clock) rfl hq
  unfold State.handPiece
  split <;> rename_i hn <;> rw [hn] at h <;> exact h

theorem detailDeparted_still : Still s s.detailDeparted := by
  unfold State.detailDeparted State.handData State.handFinal
  (repeat' split) <;> first | exact .refl s | exact handPiece_still s _ _ _ | exact (setStore_quiet s _).toStill

theorem detailDeparted_shape {s : State} {a b : Nat} (hq : QueueShape a b 0 s.port.queue) : QueueShape a b 1 s.detailDeparted.port.queue := by
  have hsame := hq.mono (le_refl a) (le_refl b) (Nat.zero_le 1)
  unfold State.detailDeparted State.handData State.handFinal
  (repeat' split) <;> first | exact hsame | exact handPiece_shape _ _ _ hq

theorem detailQueued_iff : s.detailQueued = true ↔ ¬∀ n ∈ s.port.queue, n.isDetail = false := by
  simp [State.detailQueued]

/-- A piece read is handed only where no DETAIL is queued. -/
theorem pieceReadEnd_still : Still s s.pieceReadEnd := by
  unfold State.pieceReadEnd
  split
  · split
    · dsimp only
      split
      · exact ((setStore_quiet s _).trans (setStore_quiet _ _)).toStill
      · exact (setStore_quiet s _).toStill.trans (handPiece_still _ _ _ _)
    · exact .refl s
  · exact .refl s

theorem pieceReadEnd_shape {s : State} {a b : Nat} (hq : QueueShape a b 1 s.port.queue) : QueueShape a b 1 s.pieceReadEnd.port.queue := by
  unfold State.pieceReadEnd
  split
  · split
    · dsimp only
      split
      · exact hq
      · next hd =>
        refine handPiece_shape _ _ _ ⟨?_, hq.claims, hq.steps, hq.ahead⟩
        rw [detailQueued_iff, not_not] at hd
        rw [Nat.le_zero, List.countP_eq_zero]
        exact fun n hn => by simpa using hd n hn
    · exact hq
  · exact hq

theorem departed_still (n : Notice) (alertFirst : Bool) : Still s (s.departed n alertFirst) := by
  unfold State.departed
  split
  · exact .refl s
  · split
    · split
      · exact (alertOnDeparture_quiet s).toStill.trans (detailDeparted_still _)
      · exact (detailDeparted_still s).trans (alertOnDeparture_quiet _).toStill
    · exact (alertOnDeparture_quiet s).toStill

/-- The notice that has departed leaves room for one DETAIL where it was one. -/
theorem departed_shape {n : Notice} (alertFirst : Bool) {s : State} {a b : Nat}
    (hq : QueueShape a b (if n.isDetail then 0 else 1) s.port.queue) : QueueShape a b 1 (s.departed n alertFirst).port.queue := by
  have hsame : QueueShape a b 1 s.port.queue := hq.mono le_rfl le_rfl (by split <;> omega)
  unfold State.departed
  split
  · exact hsame
  · split
    · next hd =>
      rw [if_pos hd] at hq
      split
      · exact detailDeparted_shape ((alertOnDeparture_quiet s).queue _ _ _ hq)
      · exact (alertOnDeparture_quiet _).queue _ _ _ (detailDeparted_shape hq)
    · exact (alertOnDeparture_quiet s).queue _ _ _ hsame

theorem dropReported_still (n : Notice) (alertFirst : Bool) : Still s (s.dropReported n alertFirst) := by
  unfold State.dropReported
  split
  · exact ((detailDeparted_still s).trans (setCondition_quiet _ _).toStill).trans (alertOnDeparture_quiet _).toStill
  · exact (setCondition_quiet s _).toStill.trans (departed_still _ n alertFirst)

theorem dropReported_shape {n : Notice} (alertFirst : Bool) {s : State} {a b : Nat}
    (hq : QueueShape a b (if n.isDetail then 0 else 1) s.port.queue) : QueueShape a b 1 (s.dropReported n alertFirst).port.queue := by
  unfold State.dropReported
  split
  · next h =>
    rw [if_pos (by simp_all)] at hq
    exact (alertOnDeparture_quiet _).queue _ _ _ ((setCondition_quiet _ _).queue _ _ _ (detailDeparted_shape hq))
  · exact departed_shape alertFirst ((setCondition_quiet s _).queue _ _ _ hq)

/-! ### The tray tag -/

theorem learnSlot_wf (i : Nat) (h : SlotHeader) (agreed : Bool) (m : List Host.Cell) (hm : Memory.wf m) : Memory.wf (learnSlot i h agreed m) := by
  unfold learnSlot
  refine Memory.writeBytes_wf _ _ _ ?_
  cases agreed
  · exact Memory.forgetBytes_wf _ _ _ hm
  · exact hm

theorem learnSlots_quiet (h : SlotHeaders) : Quiet s (s.learnSlots h) := by
  refine setTag_setOpenMarker_quiet fun ht => ⟨?_, by simp⟩
  obtain ⟨hwf, -⟩ := ht
  exact learnSlot_wf _ _ _ _ (learnSlot_wf _ _ _ _ (learnSlot_wf _ _ _ _ (learnSlot_wf _ _ _ _ hwf)))

theorem ofMarker_target {w : DocketWrite} (h : w.ofMarker = true) : w.target = 64 * w.slot := by
  unfold DocketWrite.ofMarker at h
  unfold DocketWrite.target writeData
  split <;> simp_all

/-- A marker that a write leaves open may be 0x00, and is of a slot whose marker is not determined (R174). -/
theorem markerLeft_canonical {w : DocketWrite} {s : State} (h : s.TagCanonical) {m : OpenMarker} (hm : w.markerLeft s = some m) :
    (m.slot = w.slot ∨ Memory.read s.tag (64 * m.slot) = none) ∧ 0x00#8 ∈ m.values := by
  obtain ⟨-, hopen⟩ := h
  unfold DocketWrite.markerLeft at hm
  split at hm
  · split at hm
    · exact ⟨.inr (hopen m hm).1, (hopen m hm).2⟩
    · obtain rfl := Option.some.inj hm
      refine ⟨.inl rfl, ?_⟩
      dsimp only
      split
      · next hc => simpa using hc
      · simp
  · obtain rfl := Option.some.inj hm
    exact ⟨.inl rfl, by simp⟩

theorem tagUndetermined_quiet (w : DocketWrite) : Quiet s (s.tagUndetermined w) := by
  unfold State.tagUndetermined
  split
  · next hw =>
    split
    · exact .refl s
    · refine setTag_setOpenMarker_quiet fun ht => ⟨Memory.forgetBytes_wf _ _ _ ht.1, fun m hm => ?_⟩
      obtain ⟨hread, hzero⟩ := markerLeft_canonical ht hm
      refine ⟨?_, hzero⟩
      simp only [State.setOpenMarker_tag, State.setTag_tag, Memory.read_forgetBytes, ofMarker_target hw]
      rcases hread with hslot | hread
      · simp [hslot]
      · simp [hread]
  · have heq : s.setTag (Memory.forgetBytes s.tag w.target w.data.length) =
        (s.setTag (Memory.forgetBytes s.tag w.target w.data.length)).setOpenMarker s.openMarker := rfl
    rw [heq]
    refine setTag_setOpenMarker_quiet fun ⟨hwf, hopen⟩ => ⟨Memory.forgetBytes_wf _ _ _ hwf, fun m hm => ?_⟩
    obtain ⟨hread, hzero⟩ := hopen m hm
    exact ⟨by simp [Memory.read_forgetBytes, hread], hzero⟩

theorem tagConfirmed_quiet (w : DocketWrite) : Quiet s (tagConfirmed w s) :=
  setTag_setOpenMarker_quiet fun ⟨hwf, _⟩ => ⟨Memory.writeBytes_wf _ _ _ hwf, by simp⟩

theorem computeVerdict_quiet (p : Profile) : Quiet s (s.computeVerdict p) := setRun_quiet rfl

/-! ### The listener but for the sequencer's signals -/

theorem moveStage_quiet (p : Profile) (j : Nat) : Quiet s (s.moveStage p j) := setLis_quiet id

theorem pulseCode_quiet (p : Profile) : Quiet s (s.pulseCode p) := by
  unfold State.pulseCode
  split
  · split
    · exact .refl s
    · exact setLis_quiet id
  · exact .refl s

theorem framingError_quiet : Quiet s s.framingError := by
  unfold State.framingError
  split
  · split
    · refine (setLis_quiet ?_).trans (faultReport_quiet _ _ _ _)
      exact id
    · exact .refl s
  · exact .refl s

theorem awaitedStageOut_quiet : Quiet s s.awaitedStageOut := by
  unfold State.awaitedStageOut
  split
  · split
    · dsimp only
      split
      · exact setLis_quiet id
      · refine ((setLis_quiet ?_).trans (setLis_quiet ?_)).trans (faultReport_quiet _ _ _ _) <;> exact id
    · exact .refl s
  · exact .refl s

theorem gapDeadlineOut_quiet : Quiet s s.gapDeadlineOut := by
  unfold State.gapDeadlineOut
  split
  · exact setLis_quiet id
  · exact .refl s

theorem idleFlagSet_quiet : Quiet s s.idleFlagSet := by
  unfold State.idleFlagSet
  split
  · exact setLis_quiet id
  · exact .refl s

/-! ### Orders that touch neither run nor load -/

theorem takeFetch_quiet (source arg : Byte) : Quiet s (s.takeFetch source arg) := by
  have hrefused : ∀ (t : State) (r : FetchResult), Quiet t (t.fetchRefused r source) := fun t r =>
    ((setStore_quiet t _).trans (setLastOrder_quiet _ _)).trans (reply_quiet _ _)
  unfold State.takeFetch State.fetchSlot
  dsimp only
  split
  · split
    · exact (setStore_quiet s _).trans (hrefused _ _)
    · split
      · exact ((setStore_quiet s _).trans (setStore_quiet _ _)).trans (setLastOrder_quiet _ _)
      · exact (setStore_quiet s _).trans (hrefused _ _)
  · exact (setLastOrder_quiet s _).trans (reply_quiet _ _)

theorem takeUnknown_quiet (op : Byte) : Quiet s (s.takeUnknown op) := by
  unfold State.takeUnknown
  split
  · exact setLastOrder_quiet s _
  · exact .refl s

end

end Sys2Proof.Proofs
end

section
/-! # Scope: the claim logic, the sequencer and the run controller: what every operation keeps of the agreement of run state, phase, claim and queue -/

namespace Sys2Proof.Proofs

open Sys2Proof.Machine

/-! ### Agreement of the blocks -/

/-- Run state, profile, load, phase, closing work and claim state agree (sections 1.2 and 3.2). -/
def Agree (s : State) : Prop := s.RunConsistent ∧ s.ClaimOfPhase

/-- The claim states that a phase allows (section 3.2). -/
def ClaimFits (ph : Phase) : ClaimState → Prop
  | .idle => True
  | .cancellingEnd => True
  | .standing => ph = .ramp
  | .blocked => ph = .waiting
  | .held _ => ph = .waiting
  | .queued => ph = .waiting
  | .cancellingSag _ => ph = .waiting

theorem claimOfPhase_iff (s : State) : s.ClaimOfPhase ↔ ClaimFits s.seq.phase s.claim.state := by
  unfold State.ClaimOfPhase ClaimFits
  cases s.claim.state <;> rfl

/-- The claim states that every phase allows. -/
def AtRest (c : ClaimState) : Prop := c = .idle ∨ c = .cancellingEnd

theorem AtRest.fits {c : ClaimState} (h : AtRest c) (ph : Phase) : ClaimFits ph c := by
  rcases h with rfl | rfl <;> trivial

theorem ClaimFits.atRest {ph : Phase} {c : ClaimState} (h : ClaimFits ph c) (hw : ph ≠ .waiting) (hr : ph ≠ .ramp ∨ c ≠ .standing) :
    AtRest c := by
  cases c with
  | idle => exact .inl rfl
  | cancellingEnd => exact .inr rfl
  | standing => exact absurd h (hr.resolve_right (by simp))
  | blocked | held | queued | cancellingSag => exact absurd h hw

/-- What every operation keeps: the invariants of the single blocks, the lines of the phase, the agreement of the blocks, and with it the shape of the
queue. -/
structure Kept (s t : State) : Prop extends BlocksKept s t where
  lines : s.LinesOfPhase → t.LinesOfPhase
  agree : Agree s → Agree t
  queue : Agree s → s.QueueKept → t.QueueKept

theorem Kept.refl (s : State) : Kept s s := ⟨.refl s, id, id, fun _ => id⟩

theorem Kept.trans {s t u : State} (h : Kept s t) (k : Kept t u) : Kept s u :=
  ⟨h.toBlocksKept.trans k.toBlocksKept, k.lines ∘ h.lines, k.agree ∘ h.agree, fun ha hq => k.queue (h.agree ha) (h.queue ha hq)⟩

theorem Kept.ite {s t : State} (b : Bool) (h : Kept s t) : Kept s (if b then t else s) := by
  cases b
  · exact .refl s
  · exact h

/-- An operation that leaves run state, profile, load, first states and closing work as they are. -/
structure Moves (s t : State) : Prop extends BlocksKept s t where
  state : t.run.state = s.run.state
  profile : t.profile = s.profile
  load : t.load = s.load
  firstTaken : t.panel.firstTaken = s.panel.firstTaken
  closing : t.closing = s.closing

theorem Moves.refl (s : State) : Moves s s := ⟨.refl s, rfl, rfl, rfl, rfl, rfl⟩

theorem Moves.trans {s t u : State} (h : Moves s t) (k : Moves t u) : Moves s u :=
  ⟨h.toBlocksKept.trans k.toBlocksKept, k.state.trans h.state, k.profile.trans h.profile, k.load.trans h.load,
    k.firstTaken.trans h.firstTaken, k.closing.trans h.closing⟩

theorem Still.moves {s t : State} (h : Still s t) : Moves s t := ⟨h.toBlocksKept, h.state, h.profile, h.load, h.firstTaken, h.closing⟩

/-- The blocks agree after such an operation where the phase is OFF just as before and allows the claim state. -/
theorem Moves.agree {s t : State} (h : Moves s t) (hoff : t.seq.phase = .off ↔ s.seq.phase = .off) (hc : ClaimFits t.seq.phase t.claim.state)
    (ha : Agree s) : Agree t := by
  obtain ⟨⟨hprofile, hload, hfirst, hrun, hclosing⟩, -⟩ := ha
  refine ⟨?_, (claimOfPhase_iff t).2 hc⟩
  unfold State.RunConsistent
  rw [h.state, h.profile, h.load, h.firstTaken, h.closing]
  exact ⟨hprofile, hload, hfirst, hrun.trans (not_congr hoff.symm), hclosing⟩

theorem linesOfPhase_congr {s t : State} (hp : t.seq.phase = s.seq.phase) (hl : t.seq.lines = s.seq.lines) (h : s.LinesOfPhase) :
    t.LinesOfPhase := by
  unfold State.LinesOfPhase
  rw [hp, hl]
  exact h

theorem Still.agree {s t : State} (h : Still s t) (ha : Agree s) : Agree t := by
  refine h.moves.agree (by rw [h.phase]) ?_ ha
  rw [h.phase, h.claim]
  exact (claimOfPhase_iff s).1 ha.2

theorem Still.kept {s t : State} (h : Still s t) (hq : s.QueueKept → t.QueueKept) : Kept s t :=
  ⟨h.toBlocksKept, linesOfPhase_congr h.phase h.lines, h.agree, fun _ => hq⟩

theorem Quiet.kept {s t : State} (h : Quiet s t) : Kept s t :=
  h.toStill.kept fun hq => by
    rw [queueKept_iff] at hq ⊢
    rw [h.claim]
    exact h.queue _ _ _ hq

/-! ### The sequencer's entries -/

/-- A phase change and what goes with it: the lines of the new phase, and nothing else that the blocks agree on. -/
structure PhaseMoved (ph : Phase) (s t : State) : Prop extends Moves s t where
  phase : t.seq.phase = ph
  lines : t.seq.lines = ph.lines
  claim : t.claim = s.claim
  port : t.port = s.port

section
variable (s : State)

theorem changePhase_moved (ph : Phase) : PhaseMoved ph s (s.changePhase ph) := by
  refine ⟨⟨.of_eq ?_ ?_ ?_ ?_ ?_ ?_ ?_ ?_, ?_, ?_, ?_, ?_, ?_⟩, ?_, ?_, ?_, ?_⟩ <;> simp

/-- A later change of the sequencer that keeps phase and lines, or of the listener that keeps its trace. -/
theorem PhaseMoved.quiet {ph : Phase} {s t u : State} (h : PhaseMoved ph s t) (k : Quiet t u) (hc : u.claim = t.claim) (hp : u.port = t.port) :
    PhaseMoved ph s u :=
  ⟨h.toMoves.trans k.toStill.moves, k.phase.trans h.phase, k.lines.trans h.lines, hc.trans h.claim, hp.trans h.port⟩

theorem enterRamp_moved (p : Profile) : PhaseMoved .ramp s (s.enterRamp p) := (changePhase_moved s _).quiet (setSeq_quiet rfl rfl) rfl rfl

theorem enterDrain_moved (p : Profile) : PhaseMoved .drain s (s.enterDrain p) := (changePhase_moved s _).quiet (setSeq_quiet rfl rfl) rfl rfl

theorem enterOff_moved : PhaseMoved .off s s.enterOff := (changePhase_moved s _).quiet (setSeq_quiet rfl rfl) rfl rfl

theorem enterRest_moved (p : Profile) : PhaseMoved .rest s (s.enterRest p) := (changePhase_moved s _).quiet (setSeq_quiet rfl rfl) rfl rfl

theorem enterStress_moved (p : Profile) : PhaseMoved .stress s (s.enterStress p) := by
  unfold State.enterStress
  dsimp only
  split
  · exact changePhase_moved s _
  · exact (changePhase_moved s _).quiet (setLis_quiet id) rfl rfl

theorem PhaseMoved.trans {ph ph' : Phase} {s t u : State} (h : PhaseMoved ph s t) (k : PhaseMoved ph' t u) : PhaseMoved ph' s u :=
  ⟨h.toMoves.trans k.toMoves, k.phase, k.lines, k.claim.trans h.claim, k.port.trans h.port⟩

theorem enterBoot_moved (p : Profile) : PhaseMoved .boot s (s.enterBoot p) ∨ PhaseMoved .stress s (s.enterBoot p) := by
  have hboot : ∀ (q : Sequencer) (l : Listener), q.phase = .boot → q.lines = Phase.lines .boot → l.trace = s.lis.trace →
      PhaseMoved .boot s (((s.changePhase .boot).setSeq q).setLis l) := fun q l hq hl ht =>
    ((changePhase_moved s .boot).quiet (setSeq_quiet (hq.trans (by simp)) (hl.trans (by simp))) rfl rfl).quiet
      (setLis_quiet (by simp [ht])) rfl rfl
  unfold State.enterBoot
  dsimp only
  split
  · exact .inr ((hboot _ _ (by simp) (by simp) (by simp [Listener.bootEntered])).trans (enterStress_moved _ p))
  · exact .inl (hboot _ _ (by simp) (by simp) (by simp [Listener.bootEntered]))

theorem PhaseMoved.linesOfPhase {ph : Phase} {s t : State} (h : PhaseMoved ph s t) : t.LinesOfPhase := by
  unfold State.LinesOfPhase
  rw [h.phase, h.lines]
  exact Phase.lines_of ph

theorem PhaseMoved.queueKept {ph : Phase} {s t : State} (h : PhaseMoved ph s t) (hq : s.QueueKept) : t.QueueKept := by
  rw [queueKept_iff] at hq ⊢
  rwa [h.claim, h.port]

/-- A phase other than OFF after another, with a claim that the new phase allows. -/
theorem PhaseMoved.kept {ph : Phase} {s t : State} (h : PhaseMoved ph s t) (hs : s.seq.phase ≠ .off) (hph : ph ≠ .off)
    (hc : Agree s → ClaimFits ph s.claim.state) : Kept s t :=
  ⟨h.toBlocksKept, fun _ => h.linesOfPhase,
    fun ha => h.toMoves.agree (by rw [h.phase]; exact iff_of_false hph hs) (by rw [h.phase, h.claim]; exact hc ha) ha, fun _ => h.queueKept⟩

theorem atRest_of_agree {s : State} (ha : Agree s) (hw : s.seq.phase ≠ .waiting) (hr : s.seq.phase ≠ .ramp ∨ s.claim.state ≠ .standing) :
    AtRest s.claim.state := ((claimOfPhase_iff s).1 ha.2).atRest hw hr

/-- From a phase without a claim of its own to another. -/
theorem PhaseMoved.kept_of_atRest {ph : Phase} {s t : State} (h : PhaseMoved ph s t) (hs : s.seq.phase ≠ .off) (hph : ph ≠ .off)
    (hw : s.seq.phase ≠ .waiting) (hr : s.seq.phase ≠ .ramp ∨ s.claim.state ≠ .standing) : Kept s t :=
  h.kept hs hph (fun ha => (atRest_of_agree ha hw hr).fits ph)

/-! ### Step notices -/

theorem handStep_still {n : Notice} (hn : n.isStep = true) : Still s (s.handStep n) := by
  rcases State.handStep_spec n s with ⟨-, h⟩ | ⟨-, q, -, hcount, h⟩ <;> rw [h]
  · exact .refl s
  · exact ⟨setPort_blocksKept rfl id (by rw [hcount hn]; exact id), rfl, rfl, rfl, rfl, rfl, rfl, rfl, rfl⟩

theorem handStep_shape {n : Notice} (hn : n.isStep = true) (hc : n.isClaim = false) {s : State} {b d : Nat}
    (hq : QueueShape 0 b d s.port.queue) : QueueShape 0 (b + 1) d (s.handStep n).port.queue := by
  rw [handStep_port]
  split
  · exact hq.mono le_rfl (Nat.le_succ b) le_rfl
  · exact hq.withStep hn (.inr ⟨hc, rfl, rfl⟩)

theorem handStep_claim_shape {n : Notice} (hc : n.isClaim = true) {s : State} {b d : Nat} (hq : QueueShape 0 b d s.port.queue) :
    QueueShape 1 b d (s.handStep n).port.queue := by
  rw [handStep_port]
  split
  · exact hq.mono (Nat.zero_le _) le_rfl le_rfl
  · exact hq.withStep (isStep_of_isClaim hc) (.inl ⟨hc, rfl, rfl⟩)

theorem withoutClaim_eq (p : LinePort) : p.withoutClaim.stationId = p.stationId ∧ p.withoutClaim.generator = p.generator
    ∧ p.withoutClaim.queue = p.queue.filter (fun n => !n.isClaim) := by
  unfold LinePort.withoutClaim
  dsimp only
  (repeat' split) <;> simp [resume_eq]

theorem cancelClaim_quiet : Quiet s s.cancelClaim := by
  unfold State.cancelClaim
  split
  · exact setPort_quiet_of_eq rfl rfl rfl
  · obtain ⟨hid, hg, hq⟩ := withoutClaim_eq s.port
    refine setPort_quiet hid (by rw [hg]; exact id) ?_ fun a b d h => ?_
    · rw [hq]; exact List.filter_sublist.countP_le
    · rw [hq]; exact h.sublist List.filter_sublist

theorem cancelClaim_shape {s : State} (hw : s.port.claimOnWire = false) {a b d : Nat} (hq : QueueShape a b d s.port.queue) :
    QueueShape 0 b d s.cancelClaim.port.queue := by
  obtain ⟨-, -, h⟩ := withoutClaim_eq s.port
  simp only [State.cancelClaim, hw, Bool.false_eq_true, if_false, State.setPort_port, h]
  exact hq.withoutClaims

theorem setClaimState_moves (c : ClaimState) : Moves s (s.setClaimState c) := ⟨setClaimState_blocksKept s c, rfl, rfl, rfl, rfl, rfl⟩

/-- A change of the claim state alone, to one that the phase allows and that the queue has room for. -/
theorem setClaimState_kept {c : ClaimState} (hc : Agree s → ClaimFits s.seq.phase c)
    (hq : ∀ b, QueueShape (claimsOf s.claim.state) (stepsOf s.claim.state) b s.port.queue → QueueShape (claimsOf c) (stepsOf c) b s.port.queue) :
    Kept s (s.setClaimState c) := by
  refine ⟨setClaimState_blocksKept s c, id, fun ha => (setClaimState_moves s c).agree Iff.rfl (hc ha) ha, fun _ h => ?_⟩
  rw [queueKept_iff] at h ⊢
  exact hq 1 h

/-! ### Claiming in WAITING -/

/-- What the claim logic may do in WAITING with no CLAIM in the queue: the lines stay those of the phase, the phase is OFF just as before and allows the
claim state, and the queue has the notices that it waits for. -/
structure Contest (s t : State) : Prop extends Moves s t where
  lines : s.LinesOfPhase → t.LinesOfPhase
  off : t.seq.phase = .off ↔ s.seq.phase = .off
  fits : s.seq.phase = .waiting → ClaimFits t.seq.phase t.claim.state
  queue : QueueShape 0 1 1 s.port.queue → t.QueueKept

theorem stepsOf_le (c : ClaimState) : stepsOf c ≤ 1 := by
  unfold stepsOf
  split <;> omega

/-- A state of the claim logic that needs no CLAIM. -/
theorem setClaimState_contest {c : ClaimState} (hfits : ClaimFits .waiting c) (hs : stepsOf c = 1) : Contest s (s.setClaimState c) := by
  refine ⟨setClaimState_moves s c, id, Iff.rfl, fun hw => ?_, fun hq => ?_⟩
  · change ClaimFits s.seq.phase c
    rw [hw]
    exact hfits
  · rw [queueKept_iff]
    exact hq.mono (Nat.zero_le _) hs.ge le_rfl

theorem startHold_contest : Contest s s.startHold := setClaimState_contest s rfl rfl

theorem tryClaim_contest (p : Profile) : Contest s (s.tryClaim p) := by
  rcases State.tryClaim_spec p s with ⟨-, h⟩ | ⟨-, h⟩ <;> rw [h]
  · have hstill := handStep_still s (n := s.ownClaim p) rfl
    have hmoves : Moves s ((s.handStep (s.ownClaim p)).setClaim { s.claim with state := .queued }) :=
      hstill.moves.trans ⟨setClaim_blocksKept (by simp), rfl, rfl, rfl, rfl, rfl⟩
    refine ⟨hmoves, linesOfPhase_congr hstill.phase hstill.lines, by rw [← hstill.phase]; exact Iff.rfl, fun hw => ?_, fun hq => ?_⟩
    · exact hstill.phase.trans hw
    · rw [queueKept_iff]
      exact handStep_claim_shape (n := s.ownClaim p) rfl hq
  · exact setClaimState_contest s rfl rfl

/-- A standalone station needs no claim, and ramps from WAITING (R60). -/
theorem standaloneRamp_contest (p : Profile) : Contest s ((s.setClaimState .idle).rampIfWaiting p) := by
  unfold State.rampIfWaiting
  split
  · next hw =>
    have hmoved := enterRamp_moved (s.setClaimState .idle) p
    refine ⟨(setClaimState_moves s _).trans hmoved.toMoves, fun _ => hmoved.linesOfPhase, ?_, fun _ => ?_, fun hq => ?_⟩
    · rw [hmoved.phase, ← State.setClaim_seq s { s.claim with state := .idle }]
      change _ ↔ (s.setClaimState .idle).seq.phase = .off
      rw [hw]
      simp
    · rw [hmoved.claim]; trivial
    · exact hmoved.queueKept ((queueKept_iff _).2 (hq.mono le_rfl le_rfl le_rfl))
  · exact setClaimState_contest s trivial rfl

theorem beginContest_contest (p : Profile) : Contest s (s.beginContest p) := by
  unfold State.beginContest
  split
  · exact startHold_contest s
  · split
    · exact standaloneRamp_contest s p
    · exact tryClaim_contest s p

/-- A contest begun in WAITING by a claim logic that waits for no CLAIM. -/
theorem Contest.kept {s t : State} (h : Contest s t) (hw : Agree s → s.seq.phase = .waiting) (h0 : claimsOf s.claim.state = 0) : Kept s t := by
  refine ⟨h.toBlocksKept, h.lines, fun ha => h.toMoves.agree h.off (h.fits (hw ha)) ha, fun _ hq => h.queue ?_⟩
  rw [queueKept_iff, h0] at hq
  exact hq.mono le_rfl (stepsOf_le _) le_rfl

/-- The phase that a claim state stands for. -/
theorem phase_of_claim {s : State} {c : ClaimState} (hc : s.claim.state = c) (hfits : ∀ ph, ClaimFits ph c → ph = .waiting) (ha : Agree s) :
    s.seq.phase = .waiting := hfits _ (hc ▸ (claimOfPhase_iff s).1 ha.2)

theorem sumFell_kept : Kept s s.sumFell := by
  unfold State.sumFell
  split
  · next hc _ => exact (tryClaim_contest s _).kept (phase_of_claim hc fun _ => id) (by rw [hc]; rfl)
  · exact .refl s

/-- The own CLAIM taken out of the queue, and the claim logic in a state that needs none. -/
theorem cancelClaim_setClaimState_kept {c : ClaimState} (hc : s.claim.state = .queued) (hw : s.port.claimOnWire = false)
    (hfits : ClaimFits .waiting c) (hs : stepsOf c = 1) : Kept s (s.cancelClaim.setClaimState c) := by
  have hcancel := cancelClaim_quiet s
  refine ⟨hcancel.toBlocksKept.trans (setClaimState_blocksKept _ c), linesOfPhase_congr hcancel.phase hcancel.lines, fun ha => ?_, fun _ hq => ?_⟩
  · refine (setClaimState_moves _ c).agree Iff.rfl ?_ (hcancel.agree ha)
    have hwait := phase_of_claim hc (fun _ => id) ha
    change ClaimFits s.cancelClaim.seq.phase c
    rw [hcancel.phase, hwait]
    exact hfits
  · rw [queueKept_iff, hc] at hq
    rw [queueKept_iff]
    exact (cancelClaim_shape hw hq).mono (Nat.zero_le _) hs.ge le_rfl

theorem claimOnWire_of_not_current {p : LinePort} (h : p.claimCurrent = false) : p.claimOnWire = false := by
  simp [LinePort.claimOnWire, h]

theorem sumRose_kept : Kept s s.sumRose := by
  unfold State.sumRose
  split
  · next hc _ =>
    split
    · exact .refl s
    · next hn =>
      simp only [Bool.or_eq_true, not_or, Bool.not_eq_true] at hn
      exact cancelClaim_setClaimState_kept s hc (claimOnWire_of_not_current hn.1) rfl rfl
  · exact .refl s

theorem setRoster_kept {r : List RosterEntry} (h : s.RosterOfPeers → (s.setRoster r).RosterOfPeers) : Kept s (s.setRoster r) :=
  ⟨setRoster_blocksKept h, id, id, fun _ => id⟩

theorem rosterChanged_kept {r : List RosterEntry} (h : s.RosterOfPeers → (s.setRoster r).RosterOfPeers) : Kept s (s.rosterChanged r) := by
  unfold State.rosterChanged
  split
  · exact (setRoster_kept s h).trans (sumRose_kept _)
  · split
    · exact (setRoster_kept s h).trans (sumFell_kept _)
    · exact setRoster_kept s h

theorem rosterRemove_kept (b : Byte) : Kept s (s.rosterChanged (rosterRemove b s.claim.roster)) := by
  refine rosterChanged_kept s fun ⟨hnodup, hpeers⟩ => ⟨?_, fun e he => hpeers e (List.mem_of_mem_filter he)⟩
  exact hnodup.sublist (List.filter_sublist.map _)

theorem rosterPut_sources (e : RosterEntry) (r : List RosterEntry) :
    (rosterPut e r).map RosterEntry.source = if e.source ∈ r.map RosterEntry.source then r.map RosterEntry.source
      else r.map RosterEntry.source ++ [e.source] := by
  have hany : r.any (fun x => x.source == e.source) = true ↔ e.source ∈ r.map RosterEntry.source := by simp
  unfold rosterPut
  by_cases h : e.source ∈ r.map RosterEntry.source
  · rw [if_pos (hany.2 h), if_pos h, List.map_map]
    refine List.map_congr_left fun x _ => ?_
    simp only [Function.comp_apply]
    split
    · next hx => exact hx.symm
    · rfl
  · rw [if_neg (mt hany.1 h), if_neg h]
    simp

theorem takeClaim_kept {h : Header} {s : State} (hp : s.isPeer h.source) (weight : Byte) (duration : BitVec 16) :
    Kept s (s.takeClaim h weight duration) := by
  refine rosterChanged_kept s fun ⟨hnodup, hpeers⟩ => ?_
  rw [State.RosterOfPeers]
  have hsource : ∀ b ∈ s.claim.roster.map RosterEntry.source, s.isPeer b := by
    intro b hb
    obtain ⟨e, he, rfl⟩ := List.mem_map.1 hb
    exact hpeers e he
  have hall : ∀ b ∈ ((s.setRoster (rosterPut ⟨h.source, weight, duration, s.clock, timeAfter s.clock (duration.toNat + 200)⟩ s.claim.roster)).claim.roster).map
      RosterEntry.source, s.isPeer b := by
    intro b hb
    rw [State.setRoster, State.setClaim_claim, rosterPut_sources] at hb
    split at hb
    · exact hsource b hb
    · rcases List.mem_append.1 hb with hb | hb
      · exact hsource b hb
      · rw [List.mem_singleton.1 hb]; exact hp
  refine ⟨?_, fun e he => hall e.source (List.mem_map_of_mem he)⟩
  rw [State.setRoster, State.setClaim_claim, rosterPut_sources]
  split
  · exact hnodup
  · next hn => exact List.nodup_append.2 ⟨hnodup, List.nodup_singleton _, fun x hx y hy => by
      rw [List.mem_singleton.1 hy]; exact ne_of_mem_of_not_mem hx hn⟩

theorem takeRelease_kept (h : Header) : Kept s (s.takeRelease h) := rosterRemove_kept s h.source

theorem entryExpiry_kept (b : Byte) : Kept s (s.entryExpiry b) := by
  unfold State.entryExpiry
  split
  · exact rosterRemove_kept s b
  · exact .refl s

theorem holdEnd_kept : Kept s s.holdEnd := by
  unfold State.holdEnd
  split
  · next hc _ =>
    have hw : Agree s → s.seq.phase = .waiting := phase_of_claim hc fun _ => id
    have h0 : claimsOf s.claim.state = 0 := by rw [hc]; rfl
    split
    · split
      · exact (standaloneRamp_contest s _).kept hw h0
      · exact (tryClaim_contest s _).kept hw h0
    · exact .refl s
  · exact .refl s

/-- The own CLAIM on the wire marked for cancelling (R37). -/
theorem cancelClaim_mark_kept {c : ClaimState} (hc : s.claim.state = .queued) (hfits : ClaimFits .waiting c) (ha : claimsOf c = 1)
    (hb : stepsOf c = 1) : Kept s (s.cancelClaim.setClaimState c) := by
  have hcl : s.cancelClaim.claim.state = .queued := by simpa using hc
  refine (cancelClaim_quiet s).kept.trans (setClaimState_kept _ (fun h => ?_) fun b hq => ?_)
  · rw [phase_of_claim hcl (fun _ => id) h]
    exact hfits
  · rw [hcl] at hq
    rwa [ha, hb]

theorem claimSag_kept : Kept s s.claimSag := by
  unfold State.claimSag
  cases hc : s.claim.state with
  | idle | standing | cancellingEnd => exact .refl s
  | blocked => exact (startHold_contest s).kept (phase_of_claim hc fun _ => id) (by rw [hc]; rfl)
  | held => exact (startHold_contest s).kept (phase_of_claim hc fun _ => id) (by rw [hc]; rfl)
  | queued =>
    dsimp only
    split
    · exact cancelClaim_mark_kept s hc rfl rfl rfl
    · next hn => exact cancelClaim_setClaimState_kept s hc (by simpa using hn) rfl rfl
  | cancellingSag =>
    refine setClaimState_kept s (phase_of_claim hc fun _ => id) fun b hq => ?_
    rwa [hc] at hq

theorem claimRunEnding_kept : Kept s s.claimRunEnding := by
  unfold State.claimRunEnding
  cases hc : s.claim.state with
  | idle | standing | cancellingEnd => exact .refl s
  | blocked | held | cancellingSag => exact setClaimState_kept s (fun _ => trivial) fun b hq => by rwa [hc] at hq
  | queued =>
    dsimp only
    split
    · exact cancelClaim_mark_kept s hc trivial rfl rfl
    · next hn => exact cancelClaim_setClaimState_kept s hc (by simpa using hn) trivial rfl

theorem claimRunEnding_claim : AtRest s.claimRunEnding.claim.state ∨ s.claimRunEnding.claim.state = .standing := by
  unfold State.claimRunEnding
  cases hc : s.claim.state with
  | idle => exact .inl (.inl hc)
  | standing => exact .inr hc
  | cancellingEnd => exact .inl (.inr hc)
  | blocked | held => exact .inl (.inl rfl)
  | cancellingSag => exact .inl (.inr rfl)
  | queued =>
    dsimp only
    split
    · exact .inl (.inr rfl)
    · exact .inl (.inl rfl)

theorem endStanding_kept (o : Byte) : Kept s (s.endStanding o) := by
  rcases State.endStanding_spec o s with ⟨hst, h⟩ | ⟨-, h⟩ <;> rw [h]
  · have hstill := handStep_still s (n := Notice.fresh (.settled o) 0#8 s.clock) rfl
    have hmoves : Moves s ((s.handStep (Notice.fresh (.settled o) 0#8 s.clock)).setClaim { s.claim with state := .idle }) :=
      hstill.moves.trans ⟨setClaim_blocksKept (by simp), rfl, rfl, rfl, rfl, rfl⟩
    refine ⟨hmoves.toBlocksKept, linesOfPhase_congr hstill.phase hstill.lines, hmoves.agree (by rw [← hstill.phase]; exact Iff.rfl) trivial,
      fun _ hq => ?_⟩
    rw [queueKept_iff, hst] at hq
    rw [queueKept_iff]
    exact handStep_shape (n := Notice.fresh (.settled o) 0#8 s.clock) rfl rfl hq
  · exact .refl s

theorem endStanding_claim (o : Byte) : (s.endStanding o).claim.state ≠ .standing := by
  rcases State.endStanding_spec o s with ⟨-, h⟩ | ⟨hst, h⟩ <;> rw [h]
  · simp
  · exact hst

theorem partEnded_kept : Kept s (partEnded s) := by
  unfold partEnded
  split
  · exact claimRunEnding_kept s
  · exact endStanding_kept s 3#8
  · exact .refl s

@[simp] theorem partEnded_seq : (partEnded s).seq = s.seq := by
  obtain ⟨x, c, h, -⟩ := partEnded_eq s
  rw [h]
  simp

/-- With the station's part in the run ended nothing stands in the way of OFF or DRAIN (R58, R59). -/
theorem partEnded_atRest (hag : Agree (partEnded s)) : AtRest (partEnded s).claim.state := by
  have hfits := (claimOfPhase_iff _).1 hag.2
  rw [partEnded_seq] at hfits
  by_cases hw : s.seq.phase = .waiting
  · rcases claimRunEnding_claim s with h | h
    · simpa [partEnded, hw] using h
    · rw [hw] at hfits
      simp [partEnded, hw, h, ClaimFits] at hfits
  · refine hfits.atRest hw ?_
    by_cases hr : s.seq.phase = .ramp
    · exact .inr (by simpa [partEnded, hr] using endStanding_claim s 3#8)
    · exact .inl hr

/-! ### The own CLAIM completed or cancelled -/

theorem handWithdraw_still : Still s s.handWithdraw := handStep_still s rfl

theorem handWithdraw_shape {s : State} {b d : Nat} (hq : QueueShape 0 b d s.port.queue) : QueueShape 0 (b + 1) d s.handWithdraw.port.queue :=
  handStep_shape (n := Notice.fresh .withdraw 0#8 s.clock) rfl rfl hq

theorem cancellingSagEnds_contest (d : Time) : Contest s (s.cancellingSagEnds d) := by
  unfold State.cancellingSagEnds
  split
  · split
    · exact tryClaim_contest s _
    · exact setClaimState_contest s rfl rfl
  · exact setClaimState_contest s rfl rfl

/-- What the end of the own CLAIM does, with the CLAIM gone from the head of the queue and so many step notices left in it: the blocks agree, and the
queue has what it should have. -/
structure ClaimEnded (steps : Nat) (s t : State) : Prop extends Moves s t where
  lines : s.LinesOfPhase → t.LinesOfPhase
  agree : Agree s → Agree t
  queue : QueueShape 0 steps 1 s.port.queue → t.QueueKept

theorem Contest.claimEnded {s t : State} (h : Contest s t) (hw : Agree s → s.seq.phase = .waiting) : ClaimEnded 1 s t :=
  ⟨h.toMoves, h.lines, fun ha => h.toMoves.agree h.off (h.fits (hw ha)) ha, h.queue⟩

theorem ClaimEnded.of_one {s t : State} (h : ClaimEnded 1 s t) : ClaimEnded 0 s t :=
  ⟨h.toMoves, h.lines, h.agree, fun hq => h.queue (hq.mono le_rfl (Nat.zero_le _) le_rfl)⟩

/-- With the CLAIM gone a claim logic that stays as it is has what it waits for. -/
theorem claimEnded_refl : ClaimEnded 0 s s :=
  ⟨.refl s, id, id, fun hq => (queueKept_iff _).2 (hq.mono (Nat.zero_le _) (Nat.zero_le _) le_rfl)⟩

/-- The WITHDRAW first, then an end that leaves room for it. -/
theorem ClaimEnded.of_handWithdraw {s t : State} (h : ClaimEnded 1 s.handWithdraw t) : ClaimEnded 0 s t := by
  have hstill := handWithdraw_still s
  exact ⟨hstill.moves.trans h.toMoves, h.lines ∘ linesOfPhase_congr hstill.phase hstill.lines, h.agree ∘ hstill.agree,
    fun hq => h.queue (handWithdraw_shape hq)⟩

theorem setClaimState_idle_ended : ClaimEnded 1 s (s.setClaimState .idle) :=
  ⟨setClaimState_moves s _, id, (setClaimState_moves s _).agree Iff.rfl trivial, fun hq => (queueKept_iff _).2 hq⟩

theorem cancellingEndEnds_ended : ClaimEnded 1 s s.cancellingEndEnds := by
  have hidle := setClaimState_idle_ended s
  unfold State.cancellingEndEnds
  cases hp : s.profile with
  | none => cases s.seq.phase <;> exact hidle
  | some p =>
    cases hw : s.seq.phase with
    | waiting =>
      have h := (beginContest_contest (s.setClaimState .idle) p).claimEnded fun _ => hw
      exact ⟨hidle.toMoves.trans h.toMoves, h.lines ∘ hidle.lines, h.agree ∘ hidle.agree, h.queue⟩
    | off | ramp | boot | stress | drain | rest => exact hidle

theorem claimCancelled_ended : ClaimEnded 0 s s.claimCancelled := by
  unfold State.claimCancelled
  cases hc : s.claim.state with
  | cancellingSag d => exact ((cancellingSagEnds_contest s d).claimEnded (phase_of_claim hc fun _ => id)).of_one
  | cancellingEnd => exact (cancellingEndEnds_ended s).of_one
  | idle | blocked | held | queued | standing => exact claimEnded_refl s

/-- The completed CLAIM stands, and the station ramps in the same instant (R53, R65). -/
theorem standingRamp_ended (p : Profile) (hw : Agree s → s.seq.phase = .waiting) :
    ClaimEnded 0 s ((s.setClaimState .standing).rampIfWaiting p) := by
  have hset := setClaimState_moves s .standing
  have hqueue : QueueShape 0 0 1 s.port.queue → (s.setClaimState .standing).QueueKept := fun hq => (queueKept_iff _).2 hq
  unfold State.rampIfWaiting
  by_cases hph : s.seq.phase = .waiting
  · have hmoved := enterRamp_moved (s.setClaimState .standing) p
    rw [show (s.setClaimState .standing).seq.phase = .waiting from hph]
    refine ⟨hset.trans hmoved.toMoves, fun _ => hmoved.linesOfPhase, (hset.trans hmoved.toMoves).agree ?_ ?_, fun hq => hmoved.queueKept (hqueue hq)⟩
    · rw [hmoved.phase, hph]; simp
    · rw [hmoved.phase, hmoved.claim]; rfl
  · split
    · next h => exact absurd h hph
    · exact ⟨hset, id, fun ha => absurd (hw ha) hph, hqueue⟩

theorem claimCompleted_ended : ClaimEnded 0 s s.claimCompleted := by
  unfold State.claimCompleted
  cases hc : s.claim.state with
  | idle | blocked | held | standing => exact claimEnded_refl s
  | cancellingSag d =>
    refine ((cancellingSagEnds_contest _ d).claimEnded fun ha => ?_).of_handWithdraw
    exact phase_of_claim (by simpa [State.handWithdraw] using hc) (fun _ => id) ha
  | cancellingEnd => exact (cancellingEndEnds_ended _).of_handWithdraw
  | queued =>
    cases hp : s.profile with
    | none => exact claimEnded_refl s
    | some p =>
      dsimp only
      split
      · exact standingRamp_ended s p (phase_of_claim hc fun _ => id)
      · refine ((startHold_contest _).claimEnded fun ha => ?_).of_handWithdraw
        exact phase_of_claim (by simpa [State.handWithdraw] using hc) (fun _ => id) ha

end

end Sys2Proof.Proofs
end

section
/-! # Scope: every step keeps the invariants of the single blocks and the agreement of the blocks (R28, R34, R44, R62, R135, R140, R174) -/

namespace Sys2Proof.Proofs

open Sys2Proof.Machine

section
variable (s : State)

/-! ### The end of an attempt or of a jam -/

theorem claimsOf_le (c : ClaimState) : claimsOf c ≤ 1 := by cases c <;> simp [claimsOf]

section
variable {s : State} {n : Notice} {q : List Notice} {m t : State}

/-- The CLAIM has left the head of the queue, and the claim logic acts on its end. -/
theorem ClaimEnded.kept (h : ClaimEnded 0 m t) (hm : Quiet s m) (hs : s.port.queue = n :: q) (hmq : m.port.queue = q) (hn : n.isClaim = true) :
    Kept s t := by
  refine ⟨hm.toBlocksKept.trans h.toBlocksKept, h.lines ∘ linesOfPhase_congr hm.phase hm.lines, h.agree ∘ hm.agree, fun _ hq => h.queue ?_⟩
  rw [queueKept_iff, hs] at hq
  rw [hmq]
  exact (hq.mono (claimsOf_le _) le_rfl le_rfl).behind_claim hn

/-- Another notice has left the head of the queue, and its departure is told. -/
theorem Still.kept_of_departed (h : Still m t) (hm : Quiet s m) (hs : s.port.queue = n :: q) (hmq : m.port.queue = q)
    (hshape : ∀ a b, QueueShape a b (if n.isDetail then 0 else 1) m.port.queue → QueueShape a b 1 t.port.queue) : Kept s t := by
  refine (hm.toStill.trans h).kept fun hq => ?_
  rw [queueKept_iff] at hq ⊢
  rw [h.claim, hm.claim]
  refine hshape _ _ ?_
  rw [hmq]
  rw [hs] at hq
  split
  · next hd => exact hq.behind_detail hd
  · exact hq.tail

end

theorem sent_kept {n : Notice} {q : List Notice} {s : State} (hs : s.port.queue = n :: q) (endAt : Nat) (alertFirst : Bool) :
    Kept s (s.sent endAt n alertFirst) := by
  have hm : Quiet s (s.setPort (s.port.ownCarrierEnds endAt)).headLeaves := (ownCarrierEnds_quiet s endAt).trans (headLeaves_quiet _)
  have hmq : (s.setPort (s.port.ownCarrierEnds endAt)).headLeaves.port.queue = q := by
    simp [LinePort.ownCarrierEnds, hs]
  unfold State.sent
  dsimp only
  split
  · next hn => exact (claimCompleted_ended _).kept hm hs hmq hn
  · exact (departed_still _ n alertFirst).kept_of_departed hm hs hmq fun a b => departed_shape alertFirst

theorem attemptCompletion_kept (bt : Nat) (alertFirst : Bool) : Kept s (s.attemptCompletion bt alertFirst) := by
  unfold State.attemptCompletion
  split
  · next hq =>
    split
    · exact sent_kept hq _ alertFirst
    · exact .refl s
  · exact .refl s

/-- The current notice keeps its place, its attempts counted anew, and the port backs off. -/
theorem setAttempts_quiet {n : Notice} {q : List Notice} {s : State} (hs : s.port.queue = n :: q) (count endAt k : Nat) :
    Quiet s (s.setPort ((s.port.setAttempts n q count).backOff endAt k)) := by
  refine setPort_quiet rfl id ?_ fun a b d hq => ?_
  · rw [hs]; exact le_rfl
  · rw [hs] at hq
    exact hq.head rfl rfl rfl

theorem jamOver_kept {n : Notice} {q : List Notice} {s : State} (hs : s.port.queue = n :: q) (endAt : Nat) (alertFirst : Bool) :
    Kept s (s.jamOver endAt n q alertFirst) := by
  have hend := ownCarrierEnds_quiet s endAt
  have hm : Quiet s (s.setPort (s.port.ownCarrierEnds endAt)).headLeaves := hend.trans (headLeaves_quiet _)
  have hmq : (s.setPort (s.port.ownCarrierEnds endAt)).headLeaves.port.queue = q := by
    simp [LinePort.ownCarrierEnds, hs]
  have hback : ∀ count k, Quiet s ((s.setPort (s.port.ownCarrierEnds endAt)).setPort
      (((s.setPort (s.port.ownCarrierEnds endAt)).port.setAttempts n q count).backOff endAt k)) := fun count k =>
    hend.trans (setAttempts_quiet (s := s.setPort (s.port.ownCarrierEnds endAt)) hs count endAt k)
  unfold State.jamOver
  dsimp only
  split
  · next h =>
    simp only [Bool.and_eq_true] at h
    exact (claimCancelled_ended _).kept hm hs hmq h.1
  · split
    · split
      · exact (hback _ _).kept
      · exact (dropReported_still _ n alertFirst).kept_of_departed hm hs hmq fun a b => dropReported_shape alertFirst
    · exact (hback _ _).kept

theorem jamEnd_kept (bt : Nat) (alertFirst : Bool) : Kept s (s.jamEnd bt alertFirst) := by
  unfold State.jamEnd
  split
  · next hq =>
    split
    · exact jamOver_kept hq _ alertFirst
    · exact .refl s
  · exact .refl s

theorem pieceReadEnd_kept : Kept s s.pieceReadEnd :=
  (pieceReadEnd_still s).kept fun hq => by
    rw [queueKept_iff] at hq ⊢
    rw [(pieceReadEnd_still s).claim]
    exact pieceReadEnd_shape hq

/-! ### Entry to CLOSING, and the closing work -/

/-- What a station in a run, or in closing work, has: its first states, a valid profile and no load (section 1.2). -/
theorem configured_of_agree {s : State} (ha : Agree s) (h : s.run.state ≠ .unconfigured) :
    s.profile ≠ none ∧ s.load = .idle ∧ s.panel.firstTaken = true := by
  obtain ⟨⟨hprofile, hload, hfirst, -⟩, -⟩ := ha
  refine ⟨fun hp => h (hprofile.2 hp), by_contra fun hl => h (hload hl), ?_⟩
  rw [← Bool.not_eq_false]
  exact fun hf => h (hfirst hf).1

/-- The run state changed among those of a configured station, with the closing work and the phase that go with it. -/
theorem agree_of_configured {s t : State} (ha : Agree s) (hs : s.run.state ≠ .unconfigured) (ht : t.run.state ≠ .unconfigured)
    (hprofile : t.profile = s.profile) (hload : t.load = s.load) (hfirst : t.panel.firstTaken = s.panel.firstTaken)
    (hrun : t.run.state = .running ↔ t.seq.phase ≠ .off) (hclosing : t.run.state = .closing ↔ t.closing ≠ .none)
    (hc : ClaimFits t.seq.phase t.claim.state) : Agree t := by
  obtain ⟨hp, hl, hf⟩ := configured_of_agree ha hs
  refine ⟨⟨?_, ?_, ?_, hrun, hclosing⟩, (claimOfPhase_iff t).2 hc⟩
  · rw [hprofile]; exact iff_of_false ht hp
  · rw [hload]; exact fun h => absurd hl h
  · rw [hfirst, hf]; exact fun h => by simp at h

theorem enterClosing_blocks (reason : EndReason) : BlocksKept s (s.enterClosing reason) := by
  have hadvance : ∀ t : State, BlocksKept t t.closingAdvance := fun t => by
    rw [closingAdvance_eq]; exact setClosing_blocksKept t _
  unfold State.enterClosing
  dsimp only
  split
  · exact (((setRun_blocksKept s _).trans (dropOccurrences_quiet _).toBlocksKept).trans (setClosing_blocksKept _ _)).trans (hadvance _)
  · exact ((setRun_blocksKept s _).trans (setClosing_blocksKept _ _)).trans (hadvance _)

theorem enterClosing_closing (reason : EndReason) : (s.enterClosing reason).closing ≠ .none := by
  unfold State.enterClosing
  dsimp only
  rw [closingAdvance_eq]
  simp only [State.setClosing_closing]
  (repeat' split) <;> simp

@[simp] theorem enterClosing_state (reason : EndReason) : (s.enterClosing reason).run.state = .closing := by
  unfold State.enterClosing
  dsimp only
  split <;> simp [State.dropOccurrences_spec]

/-- The end of a run: OFF and the closing work (R10). -/
theorem endRun_kept (reason : EndReason) (hs : s.seq.phase ≠ .off) (hc : Agree s → AtRest s.claim.state) : Kept s (s.endRun reason) := by
  have hoff := enterOff_moved s
  have hseq : (s.endRun reason).seq = s.enterOff.seq := by simp [State.endRun]
  have hclaim : (s.endRun reason).claim = s.claim := by simp
  refine ⟨hoff.toBlocksKept.trans (enterClosing_blocks _ reason), fun _ => ?_, fun ha => ?_, fun _ hq => ?_⟩
  · exact linesOfPhase_congr (by rw [hseq]) (by rw [hseq]) hoff.linesOfPhase
  · have hrun : s.run.state = .running := ha.1.2.2.2.1.2 hs
    refine agree_of_configured ha (by simp [hrun]) (by simp [State.endRun]) (by simp) (by simp) (by simp) ?_ ?_ ?_
    · rw [hseq, hoff.phase]; simp [State.endRun]
    · exact iff_of_true (by simp [State.endRun]) (enterClosing_closing _ reason)
    · rw [hclaim]; exact (hc ha).fits _
  · rw [queueKept_iff] at hq ⊢
    simpa using hq

theorem closingAdvance_kept : Kept s s.closingAdvance := by
  rw [closingAdvance_eq]
  refine ⟨setClosing_blocksKept s _, id, fun ⟨⟨hp, hl, hf, hr, hclosing⟩, hc⟩ => ⟨⟨hp, hl, hf, hr, ?_⟩, hc⟩, fun _ => id⟩
  change s.run.state = .closing ↔ _
  rw [hclosing, State.setClosing_closing]
  split
  · next h => simp [h.1]
  · rfl

/-- The step that the closing work has reached changed to another. -/
theorem setClosing_kept {x : Closing} (hs : s.closing ≠ .none) (hx : x ≠ .none) : Kept s (s.setClosing x) :=
  ⟨setClosing_blocksKept s x, id, fun ⟨⟨hp, hl, hf, hr, hclosing⟩, hc⟩ => ⟨⟨hp, hl, hf, hr, hclosing.trans (iff_of_true hs hx)⟩, hc⟩, fun _ => id⟩

/-- The closing work ends, and the station is READY or DONE (R11, R14). -/
theorem announce_kept (p : Profile) (m : Summary) (written : Bool) {next : RunState} (hnext : next = .ready ∨ next = .done)
    (hs : s.closing ≠ .none) : Kept s (s.announce p m written next) := by
  have hn := handNotice_quiet s (n := verdictNotice p m written s) rfl rfl
  rw [announce_eq]
  refine ⟨(hn.toBlocksKept.trans (setClosing_blocksKept _ _)).trans (setRun_blocksKept _ _), linesOfPhase_congr hn.phase hn.lines, fun ha => ?_,
    fun ha hq => (queueKept_iff _).2 ?_⟩
  · have ⟨⟨_, _, _, hrun, hclosing⟩, hfits⟩ := ha
    have hst : s.run.state = .closing := hclosing.2 hs
    have hph : s.seq.phase = .off := by rw [← not_not (a := s.seq.phase = .off), ← ne_eq, ← hrun]; simp [hst]
    refine agree_of_configured ha (by simp [hst]) (by rcases hnext with rfl | rfl <;> simp) (by simp) (by simp) (by simp) ?_ ?_ ?_
    · rcases hnext with rfl | rfl <;> simp [hph]
    · rcases hnext with rfl | rfl <;> simp
    · simpa using (claimOfPhase_iff s).1 hfits
  · have := (hn.kept.queue ha hq)
    rwa [queueKept_iff] at this

theorem slotHeaderReadEnd_kept (h : SlotHeaders) : Kept s (s.slotHeaderReadEnd h) := by
  unfold State.slotHeaderReadEnd
  split
  · next hc _ =>
    exact ((learnSlots_quiet s h).trans (computeVerdict_quiet _ _)).kept.trans (setClosing_kept _ (by simp [hc]) (by simp))
  · exact .refl s

theorem tagWriteEnd_kept : Kept s s.tagWriteEnd := by
  unfold State.tagWriteEnd
  split
  · next hc =>
    split
    · exact (tagUndetermined_quiet s _).kept.trans (setClosing_kept _ (by simp [hc]) (by simp))
    · exact .refl s
  · exact .refl s

theorem pollAcknowledge_kept : Kept s s.pollAcknowledge := by
  unfold State.pollAcknowledge
  split
  · next w p hc hp =>
    split
    · have hwritten := (tagConfirmed_quiet s w).kept
      have hwriting : (tagConfirmed w s).closing ≠ .none := by simp [tagConfirmed, hc]
      dsimp only
      split
      · exact hwritten.trans (setClosing_kept _ hwriting (by simp))
      · exact hwritten.trans (announce_kept _ p _ _ (.inr rfl) hwriting)
    · exact .refl s
  · exact .refl s

theorem pollTimeout_kept : Kept s s.pollTimeout := by
  unfold State.pollTimeout
  split
  · next hc _ =>
    split
    · exact (setCondition_quiet s _).kept.trans (announce_kept _ _ _ _ (.inr rfl) (by simp [hc]))
    · exact .refl s
  · exact .refl s

theorem tagNoAcknowledge_kept (atStart : Bool) : Kept s (s.tagNoAcknowledge atStart) := by
  unfold State.tagNoAcknowledge
  split
  · next hc _ =>
    exact ((setCondition_quiet s _).trans (computeVerdict_quiet _ _)).kept.trans (announce_kept _ _ _ _ (.inr rfl) (by simp [hc]))
  · next w p hc hp =>
    split
    · have hcut : Quiet s (if atStart then s else s.tagUndetermined w) := by
        split
        · exact .refl s
        · exact tagUndetermined_quiet s w
      refine (hcut.trans (setCondition_quiet _ .tagFailed)).kept.trans (announce_kept _ p _ _ (.inr rfl) ?_)
      rw [((hcut.trans (setCondition_quiet _ .tagFailed))).closing, hc]
      simp
    · exact .refl s
  · exact .refl s

theorem closingRemoval_kept : Kept s s.closingRemoval := by
  unfold State.closingRemoval
  split
  · next hc _ =>
    exact ((dropOccurrences_quiet s).trans (computeVerdict_quiet _ _)).kept.trans
      (announce_kept _ _ _ _ (.inl rfl) (by simp [hc]))
  · next hc _ => exact (computeVerdict_quiet s _).kept.trans (announce_kept _ _ _ _ (.inl rfl) (by simp [hc]))
  · next hc _ => exact (tagUndetermined_quiet s _).kept.trans (announce_kept _ _ _ _ (.inl rfl) (by simp [hc]))
  · exact .refl s

/-! ### The sequencer's reports and deadlines -/

/-- From RAMP, with its claim at an end. -/
theorem PhaseMoved.kept_of_endStanding {ph : Phase} {o : Byte} {s t : State} (h : PhaseMoved ph (s.endStanding o) t) (hs : s.seq.phase ≠ .off)
    (hw : s.seq.phase ≠ .waiting) (hph : ph ≠ .off) : Kept s t := by
  have hseq : (s.endStanding o).seq = s.seq := by simp
  exact (endStanding_kept s o).trans
    (h.kept_of_atRest (by rwa [hseq]) hph (by rwa [hseq]) (.inr (endStanding_claim s o)))

theorem railsSettled_kept (p : Profile) : Kept s (s.railsSettled p) := by
  unfold State.railsSettled
  split
  · next hph =>
    rcases enterBoot_moved (s.endStanding 0#8) p with h | h <;>
      exact h.kept_of_endStanding (by simp [hph]) (by simp [hph]) (by simp)
  · exact .refl s

theorem rampDeadlineOut_kept : Kept s s.rampDeadlineOut := by
  unfold State.rampDeadlineOut
  split
  · next p hp hph =>
    dsimp only
    split
    · refine (faultReports_quiet s p 3 _ s.clock).kept.trans ((enterDrain_moved _ p).kept_of_endStanding ?_ ?_ (by simp)) <;> simp [hph]
    · exact .refl s
  · exact .refl s

theorem onTimeOut_kept : Kept s s.onTimeOut := by
  unfold State.onTimeOut
  split
  · next p hp =>
    split
    · next h =>
      have hph : s.seq.phase = .boot ∨ s.seq.phase = .stress := by
        cases hph : s.seq.phase <;> simp [hph, Phase.runs] at h ⊢
      exact (enterDrain_moved s p).kept_of_atRest (by rcases hph with h | h <;> simp [h]) (by simp) (by rcases hph with h | h <;> simp [h])
        (.inl (by rcases hph with h | h <;> simp [h]))
    · exact .refl s
  · exact .refl s

/-- A trip opens the switch before DRAIN begins; its report and the claim's end come between. -/
theorem takeTrip_kept (p : Profile) : Kept s (s.takeTrip p) := by
  unfold State.takeTrip
  split
  · next h =>
    obtain ⟨hoff, hw⟩ : s.seq.phase ≠ .off ∧ s.seq.phase ≠ .waiting := by
      cases hph : s.seq.phase <;> simp [hph, Phase.powered] at h ⊢
    have hopen : Kept s.openSwitch ((s.openSwitch.faultReport p (signature 5 s.seq.phase.code.toNat) s.clock).endStanding 2#8 |>.enterDrain p) :=
      (faultReport_quiet s.openSwitch p _ _).kept.trans ((enterDrain_moved _ p).kept_of_endStanding (by simpa [State.openSwitch] using hoff)
        (by simpa [State.openSwitch] using hw) (by simp))
    have hblocks : BlocksKept s s.openSwitch := setSeq_blocksKept s _
    exact ⟨hblocks.trans hopen.toBlocksKept, fun _ => (enterDrain_moved _ p).linesOfPhase, hopen.agree, hopen.queue⟩
  · exact .refl s

theorem requestEnd_quiet (e : EndRequest) : Quiet s (s.requestEnd e) := by
  rw [requestEnd_eq]
  exact setSeq_quiet rfl rfl

theorem endDrain_kept (p : Profile) (h : s.seq.phase = .drain) : Kept s (s.endDrain p) := by
  have hdone : Quiet s (s.setSeq { s.seq with done := s.seq.done + 1#8 }) := setSeq_quiet rfl rfl
  have hend : ∀ reason, Kept s ((s.setSeq { s.seq with done := s.seq.done + 1#8 }).endRun reason) := fun reason =>
    hdone.kept.trans (endRun_kept _ reason (by simp [h]) fun ha => atRest_of_agree ha (by simp [h]) (.inl (by simp [h])))
  unfold State.endDrain
  dsimp only
  split
  · exact hend _
  · exact hend _
  · split
    · exact hend _
    · exact hdone.kept.trans ((enterRest_moved _ p).kept_of_atRest (by simp [h]) (by simp) (by simp [h]) (.inl (by simp [h])))

theorem drainComplete_kept (p : Profile) : Kept s (s.drainComplete p) := by
  unfold State.drainComplete
  split
  · next h => exact endDrain_kept s p h
  · exact .refl s

theorem drainDeadlineOut_kept : Kept s s.drainDeadlineOut := by
  unfold State.drainDeadlineOut
  split
  · next p hp hph =>
    dsimp only
    split
    · exact (faultReports_quiet s p 4 _ s.clock).kept.trans (endDrain_kept _ p (by simpa using hph))
    · exact .refl s
  · exact .refl s

/-! ### WAITING entry -/

/-- WAITING entry (R64): the station contests, with no CLAIM in the queue, or the entry waits for the end of CANCELLING. -/
structure WaitingEntered (s t : State) : Prop extends Moves s t where
  lines : t.LinesOfPhase
  powered : t.seq.phase ≠ .off
  fits : ClaimFits t.seq.phase t.claim.state
  queue : s.claim.state ≠ .queued → s.QueueKept → t.QueueKept

theorem enterWaiting_entered (p : Profile) : WaitingEntered s (s.enterWaiting p) := by
  have hmoved := changePhase_moved s .waiting
  have hcontest := beginContest_contest (s.changePhase .waiting) p
  have hbegun : (s.claim.state ≠ .queued → claimsOf s.claim.state = 0) →
      WaitingEntered s ((s.changePhase .waiting).beginContest p) := fun h0 => by
    refine ⟨hmoved.toMoves.trans hcontest.toMoves, hcontest.lines hmoved.linesOfPhase, ?_, hcontest.fits hmoved.phase, fun hc hq => hcontest.queue ?_⟩
    · rw [Ne, hcontest.off, hmoved.phase]; simp
    · rw [hmoved.port]
      exact ((queueKept_iff s).1 hq).mono (h0 hc).le (stepsOf_le _) le_rfl
  have hdeferred : ClaimFits .waiting s.claim.state → WaitingEntered s (s.changePhase .waiting) := fun hfits =>
    ⟨hmoved.toMoves, hmoved.linesOfPhase, by rw [hmoved.phase]; simp, by rw [hmoved.phase, hmoved.claim]; exact hfits, fun _ => hmoved.queueKept⟩
  unfold State.enterWaiting State.claimWaitingEntry
  rw [hmoved.claim]
  cases hc : s.claim.state with
  | cancellingEnd => exact hdeferred (hc ▸ trivial)
  | cancellingSag => exact hdeferred (by rw [hc]; rfl)
  | idle | blocked | held | standing => exact hbegun fun _ => by rw [hc]; rfl
  | queued => exact hbegun fun h => absurd hc h

/-- WAITING entered from another phase in which the claim was at an end. -/
theorem WaitingEntered.kept {s t : State} (h : WaitingEntered s t) (hs : s.seq.phase ≠ .off) (hc : Agree s → AtRest s.claim.state) : Kept s t :=
  ⟨h.toBlocksKept, fun _ => h.lines, h.toMoves.agree (iff_of_false h.powered hs) h.fits,
    fun ha hq => h.queue (fun hqueued => by rcases hc ha with h | h <;> simp [h] at hqueued) hq⟩

theorem offTimeOut_kept : Kept s s.offTimeOut := by
  unfold State.offTimeOut
  split
  · next p _ h =>
    split
    · have hcycle : Quiet s (s.setSeq { s.seq with cycle := s.seq.cycle + 1#8 }) := setSeq_quiet rfl rfl
      refine hcycle.kept.trans ((enterWaiting_entered _ p).kept (by simp [h]) fun ha => ?_)
      exact atRest_of_agree ha (by simp [h]) (.inl (by simp [h]))
    · exact .refl s
  · exact .refl s

/-! ### Run-ending events -/

theorem runEnding_kept (e : EndRequest) (reason : EndReason) (p : Profile) : Kept s (runEnding e reason p s) := by
  have hstop : s.seq.phase ≠ .off → Kept s ((partEnded s).endRun reason) := fun h =>
    (partEnded_kept s).trans (endRun_kept _ reason (by simpa using h) (partEnded_atRest s))
  have hdrain : s.seq.phase ≠ .off → Kept s (((partEnded s).requestEnd e).enterDrain p) := fun h => by
    have hmoved : PhaseMoved .drain (partEnded s) (((partEnded s).requestEnd e).enterDrain p) := by
      have h := enterDrain_moved ((partEnded s).requestEnd e) p
      exact ⟨(requestEnd_quiet _ e).toStill.moves.trans h.toMoves, h.phase, h.lines, by rw [h.claim]; simp, by rw [h.port]; simp⟩
    exact (partEnded_kept s).trans (hmoved.kept (by simpa using h) (by simp) fun ha => (partEnded_atRest s ha).fits _)
  unfold runEnding
  cases hph : s.seq.phase with
  | waiting | rest => exact hstop (by simp [hph])
  | drain => exact (requestEnd_quiet s e).kept
  | off => exact .refl s
  | ramp | boot | stress => exact hdrain (by simp [hph])


theorem takeStop_kept (p : Profile) : Kept s (s.takeStop p) := by
  rw [takeStop_eq]
  exact runEnding_kept s _ _ p

theorem occurrenceClose_kept : Kept s s.occurrenceClose := by
  unfold State.occurrenceClose
  split
  · next ho =>
    split
    · have hclosed := (closeOccurrence_quiet (p := ‹_›) ho).kept
      dsimp only
      split
      · exact (hclosed.trans (takeStop_kept _ _)).trans (closingAdvance_kept _)
      · exact hclosed.trans (closingAdvance_kept _)
    · exact .refl s
  · exact .refl s

/-- What cutting the power keeps, whatever the run state becomes (R76, R77). -/
structure PowerGone (s t : State) : Prop extends Moves s t where
  phase : t.seq.phase = .off
  lines : s.LinesOfPhase → t.LinesOfPhase
  atRest : Agree s → AtRest t.claim.state
  queue : Agree s → s.QueueKept → t.QueueKept

theorem cutPower_gone : PowerGone s s.cutPower := by
  have hmoves : BlocksKept s s.cutPower → Moves s s.cutPower := fun h => ⟨h, by simp, by simp, by simp, by simp, by simp⟩
  rw [cutPower_eq] at hmoves ⊢
  split
  · next hoff =>
    exact ⟨.refl s, hoff, id, fun ha => atRest_of_agree ha (by simp [hoff]) (.inl (by simp [hoff])), fun _ => id⟩
  · next hoff =>
    rw [if_neg hoff] at hmoves
    have hpart := partEnded_kept s
    have hmoved := enterOff_moved (partEnded s)
    exact ⟨hmoves (hpart.toBlocksKept.trans hmoved.toBlocksKept), hmoved.phase, fun _ => hmoved.linesOfPhase,
      fun ha => by rw [hmoved.claim]; exact partEnded_atRest s (hpart.agree ha), fun ha hq => hmoved.queueKept (hpart.queue ha hq)⟩

end
end Sys2Proof.Proofs
end

section
/-! # Scope: the run controller, the profile load, the rounds, the listener and the clock, and the invariants that every step keeps -/

namespace Sys2Proof.Proofs

open Sys2Proof.Machine

section
variable (s : State)

/-! ### START and ABORT -/

theorem runBegun_moved (p : Profile) : BlocksKept s (runBegun p s) := by
  have hjudge : ∀ u : State, BlocksKept u (u.setJudge { u.judge with occurrences := [], firstRefused := none }) := fun u =>
    (setJudge_sublist_quiet (x := { u.judge with occurrences := [], firstRefused := none }) (.refl _) (List.nil_sublist _)).toBlocksKept
  exact (((((setRun_blocksKept s _).trans (setTable_blocksKept fun _ => Nat.zero_le _)).trans (hjudge _)).trans (setStore_blocksKept _ _)).trans
    (setLis_blocksKept fun _ => Nat.zero_le _)).trans (setSeq_blocksKept _ _)

/-- A START accepted by a configured station that runs nothing (R8). -/
theorem acceptStart_kept (p : Profile) (h : s.run.state = .ready ∨ s.run.state = .done) : Kept s (s.acceptStart p) := by
  have hentered := enterWaiting_entered (runBegun p s) p
  rw [acceptStart_eq]
  have hoff : Agree s → s.seq.phase = .off := fun ⟨⟨_, _, _, hrun, _⟩, _⟩ => by
    by_contra hoff
    rcases h with h | h <;> simp [h] at hrun <;> exact hoff hrun
  have hclosing : Agree s → s.closing = .none := fun ⟨⟨_, _, _, _, hclosing⟩, _⟩ => by
    by_contra hc
    rcases h with h | h <;> simp [h] at hclosing <;> exact hc hclosing
  have hstate : ((runBegun p s).enterWaiting p).run.state = .running := hentered.state
  refine ⟨(runBegun_moved s p).trans hentered.toBlocksKept, fun _ => hentered.lines, fun ha => ?_, fun ha hq => hentered.queue ?_ hq⟩
  · refine agree_of_configured ha (by rcases h with h | h <;> simp [h]) (by rw [hstate]; simp) hentered.profile hentered.load hentered.firstTaken ?_ ?_
      hentered.fits
    · exact iff_of_true hstate hentered.powered
    · rw [hstate, hentered.closing]
      exact iff_of_false (by simp) (not_not.2 (hclosing ha))
  · intro hc
    have hrest := atRest_of_agree ha (by simp [hoff ha]) (.inl (by simp [hoff ha]))
    rcases hrest with h | h <;> exact absurd (h.symm.trans hc) (by simp)

theorem takeStart_kept : Kept s s.takeStart := by
  have hlast : ∀ r, Kept s (s.setLastOrder r) := fun r => (setLastOrder_quiet s r).kept
  unfold State.takeStart
  split
  · next h _ =>
    split
    · exact acceptStart_kept s _ (.inl h)
    · exact hlast _
  · next h _ =>
    split
    · exact acceptStart_kept s _ (.inr h)
    · exact hlast _
  · exact hlast _

theorem takeAbortOrder_kept : Kept s s.takeAbortOrder := by
  unfold State.takeAbortOrder
  split
  · rw [acceptAbort_eq]
    exact (((setLastOrder_quiet s _).trans (setCondition_quiet _ _)).trans (dropOccurrences_quiet _)).kept.trans (runEnding_kept _ _ _ _)
  · exact (setLastOrder_quiet s _).kept

/-! ### The panel, the fixture and the profile load -/

theorem setLoad_blocksKept (l : Load) : BlocksKept s (s.setLoad l) := .of_eq rfl rfl rfl rfl rfl rfl rfl rfl

/-- A load begun, gone on with or ended, in UNCONFIGURED with the first states taken. -/
theorem setLoad_kept {l : Load} (h : l = .idle ∨ (Agree s → s.run.state = .unconfigured ∧ s.panel.firstTaken = true)) : Kept s (s.setLoad l) := by
  refine ⟨setLoad_blocksKept s l, id, fun ha => ?_, fun _ => id⟩
  have ⟨⟨hprofile, _, hfirst, hrun, hclosing⟩, hc⟩ := ha
  refine ⟨⟨hprofile, ?_, ?_, hrun, hclosing⟩, hc⟩
  · intro hl
    exact ((h.resolve_left hl) ha).1
  · intro hf
    refine ⟨(hfirst hf).1, ?_⟩
    rcases h with h | h
    · exact h
    · exact absurd (h ha).2 (by simpa using hf)

theorem flipSeat_quiet : Quiet s s.flipSeat := setPanel_quiet rfl
theorem flipButton_quiet : Quiet s s.flipButton := setPanel_quiet rfl
theorem flipFixture_quiet : Quiet s s.flipFixture := setPanel_quiet rfl

theorem firstTaken_of_edgeDue {x : Panel} {d : Debounce} {b : Bool} (h : x.edgeDue d b = true) : x.firstTaken = true := by
  simp only [Panel.edgeDue, Bool.and_eq_true] at h
  exact h.1.1

theorem takeFirst_kept : Kept s (s.setPanel s.panel.takeFirst) := by
  refine ⟨setPanel_blocksKept s _, id, fun ⟨⟨hprofile, hload, _, hrun, hclosing⟩, hc⟩ => ?_, fun _ => id⟩
  exact ⟨⟨hprofile, hload, fun hf => by simp [Panel.takeFirst] at hf, hrun, hclosing⟩, hc⟩

theorem debounceFirstState_kept : Kept s s.debounceFirstState := by
  unfold State.debounceFirstState
  split
  · next h =>
    have hnot : s.panel.firstTaken = false := by
      simp only [Panel.firstDue, Bool.and_eq_true, Bool.not_eq_true'] at h
      exact h.2
    have hfirst := takeFirst_kept s
    dsimp only
    split
    · refine ⟨(hfirst.toBlocksKept.trans (setLoad_blocksKept _ _)), id, fun ha => ?_, fun _ => id⟩
      obtain ⟨⟨hprofile, -, htaken, hrun, hclosing⟩, hc⟩ := ha
      exact ⟨⟨hprofile, fun _ => (htaken hnot).1, fun hf => by simp [State.startLoad, Panel.takeFirst] at hf, hrun, hclosing⟩, hc⟩
    · exact hfirst
  · exact .refl s

theorem pressed_kept (h : s.panel.firstTaken = true) : Kept s s.pressed := by
  unfold State.pressed
  split
  · next hst =>
    split
    · exact setLoad_kept s (.inr fun _ => ⟨hst, h⟩)
    · exact .refl s
  · exact takeStart_kept s
  · exact takeAbortOrder_kept s
  · exact takeStart_kept s
  · exact takeStart_kept s

theorem buttonPress_kept : Kept s s.buttonPress := by
  unfold State.buttonPress
  split
  · next h => exact (flipButton_quiet s).kept.trans (pressed_kept _ (firstTaken_of_edgeDue h))
  · exact .refl s

theorem buttonRelease_kept : Kept s s.buttonRelease := by
  unfold State.buttonRelease
  split
  · exact (flipButton_quiet s).kept
  · exact .refl s

theorem traySeated_kept : Kept s s.traySeated := by
  unfold State.traySeated
  split
  · refine ((flipSeat_quiet s).trans (setTag_setOpenMarker_quiet fun _ => ?_)).kept
    exact ⟨by simp [Memory.wf], by simp⟩
  · exact .refl s

theorem queueKept_congr {s t : State} (hc : t.claim = s.claim) (hp : t.port = s.port) (h : s.QueueKept) : t.QueueKept := by
  rw [queueKept_iff] at h ⊢
  rwa [hc, hp]

theorem abandonRun_kept (h : s.run.state = .running) : Kept s s.abandonRun := by
  have hgone := cutPower_gone s
  have hdrop := dropOccurrences_quiet s.cutPower
  refine ⟨(hgone.toBlocksKept.trans hdrop.toBlocksKept).trans (setRun_blocksKept _ _), linesOfPhase_congr hdrop.phase hdrop.lines ∘ hgone.lines,
    fun ha => ?_, fun ha hq => queueKept_congr (by simp [State.abandonRun]) (by simp [State.abandonRun]) (hgone.queue ha hq)⟩
  have hoff : s.abandonRun.seq.phase = .off := hdrop.phase.trans hgone.phase
  have hclosing : s.closing = .none := by
    have := ha.1.2.2.2.2
    by_contra hc
    simp [h, hc] at this
  refine agree_of_configured ha (by simp [h]) (by simp [State.abandonRun]) (by simp) (by simp) (by simp) ?_ ?_ ?_
  · rw [hoff]; simp [State.abandonRun]
  · simp [State.abandonRun, hclosing]
  · rw [show s.abandonRun.claim = s.cutPower.claim by simp [State.abandonRun]]
    exact (hgone.atRest ha).fits _

/-- From DONE to READY nothing else changes (R14). -/
theorem setReady_kept (h : s.run.state = .done) : Kept s (s.setRun { s.run with state := .ready }) := by
  refine ⟨setRun_blocksKept s _, id, fun ha => ?_, fun _ => id⟩
  have ⟨⟨_, _, _, hrun, hclosing⟩, hc⟩ := ha
  rw [h] at hrun hclosing
  refine agree_of_configured ha (by simp [h]) (by simp) rfl rfl rfl ?_ ?_ ((claimOfPhase_iff s).1 hc)
  · simpa using hrun
  · simpa using hclosing

theorem trayRemoval_kept : Kept s s.trayRemoval := by
  unfold State.trayRemoval
  split
  · refine (flipSeat_quiet s).kept.trans ?_
    generalize s.flipSeat = t
    unfold State.trayGone
    split
    · next h => exact abandonRun_kept t h
    · exact closingRemoval_kept t
    · next h => exact setReady_kept t h
    · exact .refl t
    · exact .refl t
  · exact .refl s

theorem fixtureFitted_kept : Kept s s.fixtureFitted := by
  unfold State.fixtureFitted
  split
  · next h =>
    have hflip := (flipFixture_quiet s).kept
    split
    · next hst => exact hflip.trans (setLoad_kept _ (.inr fun _ => ⟨hst, firstTaken_of_edgeDue h⟩))
    · exact hflip
  · exact .refl s

theorem closingAbandoned_blocks : BlocksKept s s.closingAbandoned := by
  unfold State.closingAbandoned
  split
  · exact (tagUndetermined_quiet s _).toBlocksKept.trans (setClosing_blocksKept _ _)
  · exact setClosing_blocksKept s _

theorem fixtureGone_blocks : BlocksKept s s.fixtureGone := by
  have hstopped : BlocksKept s (fixtureStopped s) :=
    ((cutPower_gone s).toBlocksKept.trans (setLoad_blocksKept _ _)).trans (closingAbandoned_blocks _)
  have hprofile : ∀ u : State, BlocksKept u (u.setProfile none) := fun u => .of_eq rfl rfl rfl rfl rfl rfl rfl rfl
  have hjudge : ∀ u : State, BlocksKept u (u.setJudge { echoes := [], occurrences := [], firstRefused := none }) := fun u =>
    (setJudge_sublist_quiet (x := { echoes := [], occurrences := [], firstRefused := none }) (List.nil_sublist _) (List.nil_sublist _)).toBlocksKept
  have hrest : ∀ u : State, BlocksKept u (((u.setStore SnapshotStore.cleared).setRail u.rail.cleared).setLis u.lis.cleared) := fun u =>
    ((setStore_blocksKept u _).trans (setRail_blocksKept fun _ => Nat.zero_le _)).trans (setLis_blocksKept fun _ => Nat.zero_le _)
  exact (((((hstopped.trans (setRun_blocksKept _ _)).trans (hprofile _)).trans (setSeq_blocksKept _ _)).trans
    (setTable_blocksKept fun _ => Nat.zero_le _)).trans (hjudge _)).trans (hrest _)

theorem fixtureGone_kept : Kept s s.fixtureGone := by
  have hgone := cutPower_gone s
  have hphase : s.fixtureGone.seq.phase = s.cutPower.seq.phase := by simp [State.fixtureGone]
  have hlines : s.fixtureGone.seq.lines = s.cutPower.seq.lines := by simp [State.fixtureGone]
  have hclaim : s.fixtureGone.claim = s.cutPower.claim := by simp [State.fixtureGone]
  refine ⟨fixtureGone_blocks s, linesOfPhase_congr hphase hlines ∘ hgone.lines, fun ha => ⟨⟨?_, ?_, ?_, ?_, ?_⟩, ?_⟩,
    fun ha hq => queueKept_congr hclaim (by simp [State.fixtureGone]) (hgone.queue ha hq)⟩
  · simp [State.fixtureGone, RunControl.unconfigure]
  · exact fun _ => by simp [State.fixtureGone, RunControl.unconfigure]
  · exact fun _ => by simp [State.fixtureGone, RunControl.unconfigure]
  · rw [hphase, hgone.phase]; simp [State.fixtureGone, RunControl.unconfigure]
  · rw [(fixtureGone_tag s).1]; simp [State.fixtureGone, RunControl.unconfigure]
  · rw [claimOfPhase_iff, hclaim]; exact (hgone.atRest ha).fits _

theorem fixtureChange_kept : Kept s s.fixtureChange := by
  unfold State.fixtureChange
  split
  · exact (flipFixture_quiet s).kept.trans (fixtureGone_kept _)
  · exact .refl s

theorem loadRefused_kept : Kept s s.loadRefused :=
  (setLoad_kept s (.inl rfl)).trans ((putCondition_quiet _ _ _).trans (setCondition_quiet _ _)).kept

/-- The new profile applied, in UNCONFIGURED (R17). -/
theorem profileApplied_kept (p : Profile) (h : s.load ≠ .idle) : Kept s (s.profileApplied p) := by
  have hprofile : ∀ u : State, BlocksKept u (u.setProfile (some p)) := fun u => .of_eq rfl rfl rfl rfl rfl rfl rfl rfl
  have hrail : BlocksKept ((s.setLoad .idle).setProfile (some p)) (((s.setLoad .idle).setProfile (some p)).setRail s.rail.armed) := by
    refine setRail_blocksKept ?_
    exact id
  refine ⟨(((setLoad_blocksKept s _).trans (hprofile _)).trans hrail).trans (setRun_blocksKept _ _), id, fun ha => ?_, fun _ => id⟩
  obtain ⟨⟨-, hload, hfirst, hrun, hclosing⟩, hc⟩ := ha
  rw [hload h] at hrun hclosing
  refine ⟨⟨by simp [State.profileApplied], fun hl => absurd rfl hl, fun hf => absurd (hfirst hf).2 h, ?_, ?_⟩, hc⟩
  · simpa [State.profileApplied] using hrun
  · simpa [State.profileApplied] using hclosing

theorem loadAccepted_kept (raw : Profile) (h : s.load ≠ .idle) : Kept s (s.loadAccepted raw) := by
  have happlied := (profileApplied_kept s raw.clamp h).trans (putCondition_quiet _ .profileBad false).kept
  unfold State.loadAccepted
  dsimp only
  split
  · exact happlied.trans (putCondition_quiet _ _ _).kept
  · exact happlied.trans (setCondition_quiet _ _).kept

theorem profileHeaderReadEnd_kept (hi lo : Byte) : Kept s (s.profileHeaderReadEnd hi lo) := by
  unfold State.profileHeaderReadEnd
  split
  · next hl =>
    dsimp only
    split
    · refine setLoad_kept s (.inr fun ⟨⟨_, hload, hfirst, _, _⟩, _⟩ => ⟨hload (by simp [hl]), ?_⟩)
      rw [← Bool.not_eq_false]
      exact fun hf => absurd (hfirst hf).2 (by simp [hl])
    · exact loadRefused_kept s
  · exact .refl s

theorem imageReadEnd_kept (image : List Byte) : Kept s (s.imageReadEnd image) := by
  unfold State.imageReadEnd
  split
  · next hl =>
    split
    · split
      · exact loadAccepted_kept s _ (by simp [hl])
      · exact loadRefused_kept s
    · exact .refl s
  · exact .refl s

theorem promNoAcknowledge_kept : Kept s s.promNoAcknowledge := by
  unfold State.promNoAcknowledge
  split
  · exact .refl s
  · exact loadRefused_kept s

/-! ### Rounds -/

theorem poweredChecks_kept (p : Profile) (tripFirst : Bool) : Kept s (s.poweredChecks p tripFirst) := by
  have hsettle : ∀ (b : Bool) (u : State), Kept u (if b then u.railsSettled p else u) := fun b u => .ite b (railsSettled_kept u p)
  have htrip : ∀ (b : Bool) (u : State), Kept u (if b then u.takeTrip p else u) := fun b u => .ite b (takeTrip_kept u p)
  have hcounted := ((Quiet.ite (s.seq.phase == .ramp) (rampFlags_quiet s p)).trans (tripCounted_quiet _ p)).kept
  unfold State.poweredChecks
  dsimp only
  split
  · exact hcounted.trans ((htrip _ _).trans (hsettle _ _))
  · exact hcounted.trans ((hsettle _ _).trans (htrip _ _))

theorem phaseChecks_kept (p : Profile) (tripFirst : Bool) : Kept s (s.phaseChecks p tripFirst) := by
  unfold State.phaseChecks
  split
  · exact poweredChecks_kept s p tripFirst
  · exact (windowCheck_quiet s p).kept.trans (poweredChecks_kept _ p tripFirst)
  · exact (windowCheck_quiet s p).kept.trans (poweredChecks_kept _ p tripFirst)
  · split
    · exact (drainFlags_quiet s p).kept.trans (drainComplete_kept _ p)
    · exact (drainFlags_quiet s p).kept
  · exact (restCheck_quiet s p).kept
  · exact .refl s
  · exact .refl s

theorem setSag_quiet (x : SagState) : Quiet s (s.setRail { s.rail with sag := x }) := by
  refine setRail_quiet ?_
  exact id

theorem sagConfirmed_kept (p : Profile) : Kept s (s.sagConfirmed p) := by
  have hmark := (setSag_quiet s .inForce).trans (ownSagMark_quiet _ p)
  unfold State.sagConfirmed
  refine (hmark.trans (handNotice_quiet _ ?_ ?_)).kept.trans (claimSag_kept _) <;> rfl

theorem sagCheck_kept (p : Profile) : Kept s (s.sagCheck p) := by
  have hsag : ∀ x, Kept s (s.setRail { s.rail with sag := x }) := fun x => (setSag_quiet s x).kept
  unfold State.sagCheck
  split
  · split
    · split
      · exact sagConfirmed_kept s p
      · exact hsag _
    · exact hsag _
  · split
    · exact hsag _
    · exact .refl s

theorem roundHandled_kept (r : Round) (tripFirst : Bool) : Kept s (s.roundHandled r tripFirst) := by
  unfold State.roundHandled
  split
  · exact .refl s
  · next p _ =>
    exact (((writeHistory_quiet s r).trans (scaleValues_quiet _ p r)).kept.trans (phaseChecks_kept _ p tripFirst)).trans (sagCheck_kept _ p)

/-! ### The listener -/

theorem finalStage_kept (p : Profile) (j : Nat) : Kept s (s.finalStage p j) := by
  unfold State.finalStage
  split
  · split
    · next h => exact (enterStress_moved s p).kept_of_atRest (by simp [h]) (by simp) (by simp [h]) (.inl (by simp [h]))
    · exact .refl s
  · exact .refl s

theorem fallBack_kept : Kept s s.fallBack := by
  unfold State.fallBack
  split
  · next h => exact (changePhase_moved s _).kept_of_atRest (by simp [h]) (by simp) (by simp [h]) (.inl (by simp [h]))
  · exact .refl s

theorem stageCode_kept (p : Profile) (j : Nat) : Kept s (s.stageCode p j) := by
  unfold State.stageCode
  split
  · exact (moveStage_quiet s p j).kept.trans (finalStage_kept _ p j)
  · split
    · exact ((faultReport_quiet s p _ _).trans (moveStage_quiet _ p j)).kept.trans (finalStage_kept _ p j)
    · split
      · exact ((faultReport_quiet s p _ _).trans (moveStage_quiet _ p j)).kept.trans (fallBack_kept _)
      · exact .refl s

theorem classify_kept (p : Profile) (code : BitVec 16) : Kept s (s.classify p code) := by
  unfold State.classify
  split
  · exact stageCode_kept s p _
  · split
    · exact (pulseCode_quiet s p).kept
    · split
      · exact (faultReport_quiet s p _ _).kept
      · exact .refl s

theorem parserIn_quiet (x : Parser) : Quiet s (s.parserIn x) := setLis_quiet id
theorem parserHunts_quiet : Quiet s s.parserHunts := setLis_quiet id
theorem offerIdentity_quiet (bytes : List Byte) : Quiet s (s.offerIdentity bytes) := setLis_quiet id

theorem parse_kept (p : Profile) (b : Byte) : Kept s (s.parse p b) := by
  have hin : ∀ x, Kept s (s.parserIn x) := fun x => (parserIn_quiet s x).kept
  have hhunts := parserHunts_quiet s
  unfold State.parse
  split
  · split
    · exact hin _
    · exact .refl s
  · exact hin _
  · split
    · exact hin _
    · exact hhunts.kept.trans (classify_kept _ p _)
  · split
    · exact hin _
    · exact hhunts.kept
  · split
    · exact hin _
    · exact (hhunts.trans (offerIdentity_quiet _ _)).kept

theorem pushByte_length_le (b : Byte) (l : List Byte) : (pushByte b l).length ≤ 512 := by
  unfold pushByte
  exact newest_length_le _ _

theorem trace_quiet (b : Byte) : Quiet s (s.setLis { s.lis with trace := pushByte b s.lis.trace }) := by
  have h := fun _ : s.lis.trace.length ≤ 512 => pushByte_length_le b s.lis.trace
  generalize pushByte b s.lis.trace = l at h
  exact setLis_quiet h

theorem byteReceived_kept (b : Byte) : Kept s (s.byteReceived b) := by
  unfold State.byteReceived
  split
  · split
    · exact (trace_quiet s b).kept.trans (parse_kept _ _ b)
    · exact .refl s
  · exact .refl s

theorem pulseDeadlineOut_kept : Kept s s.pulseDeadlineOut := by
  unfold State.pulseDeadlineOut
  split
  · next p _ h =>
    split
    · have hreport := faultReport_quiet s p (signature 9 0) s.clock
      exact hreport.kept.trans ((enterDrain_moved _ p).kept_of_atRest (by simp [h]) (by simp) (by simp [h]) (.inl (by simp [h])))
    · exact .refl s
  · exact .refl s

/-! ### The clock -/

theorem Due.take_kept (d : Due) : Kept s (Due.take s d) := by
  cases d with
  | firstState => exact debounceFirstState_kept s
  | fixtureChange => exact fixtureChange_kept s
  | fixtureFitted => exact fixtureFitted_kept s
  | trayRemoval => exact trayRemoval_kept s
  | traySeated => exact traySeated_kept s
  | buttonPress => exact buttonPress_kept s
  | buttonRelease => exact buttonRelease_kept s
  | entryExpiry =>
    change Kept s (match s.expiredEntry with | some e => s.entryExpiry e.source | none => s)
    split
    · exact entryExpiry_kept s _
    · exact .refl s
  | holdEnd => exact holdEnd_kept s
  | rampDeadline => exact rampDeadlineOut_kept s
  | onTimeDeadline => exact onTimeOut_kept s
  | drainDeadline => exact drainDeadlineOut_kept s
  | offTimeDeadline => exact offTimeOut_kept s
  | gapDeadline => exact (gapDeadlineOut_quiet s).kept
  | awaitedStageDeadline => exact (awaitedStageOut_quiet s).kept
  | pulseDeadline => exact pulseDeadlineOut_kept s
  | occurrenceClose => exact occurrenceClose_kept s
  | echoRemoval => exact (echoRemoval_quiet s).kept
  | pollTimeout => exact pollTimeout_kept s

/-- A change of the clock, the round's mark and the commands that wait. -/
theorem kept_of_sameBlocks {t : State} (h : t = (((s.setClock t.clock).setRoundTaken t.roundTaken).setPending t.pending)) : Kept s t := by
  rw [h]
  exact ⟨.of_eq rfl rfl rfl rfl rfl rfl rfl rfl, id, id, fun _ => id⟩

theorem nextCount_kept : Kept s s.nextCount :=
  (State.settle_keeps (Kept s) (fun _ d h => h.trans (Due.take_kept _ d)) settleLimit s (.refl s)).trans (kept_of_sameBlocks _ rfl)

theorem idleStep_kept : Kept s s.idleStep := by
  unfold State.idleStep
  split
  · exact nextCount_kept s
  · exact .refl s

theorem takeRound_kept (inputs : Eight Int) (i : PanelSample) (tripFirst : Bool) : Kept s (s.takeRound inputs i tripFirst) := by
  have hcount : Kept s s.countForRound := by
    unfold State.countForRound
    split
    · exact nextCount_kept s
    · exact .refl s
  exact (hcount.trans (roundBegun_quiet _ i).kept).trans (roundHandled_kept _ _ tripFirst)

/-! ### Received notices -/

/-- The checks of a received notice, and a consumer that needs its source to be a peer. -/
theorem received_kept (h : Header) (order : Bool) {consume : State → State} (hc : s.isPeer h.source → Kept s (consume s)) :
    Kept s (s.received h order consume) := by
  rcases State.received_cases h order consume s with h | h | ⟨hp, -, h⟩ <;> rw [h]
  · exact .refl s
  · exact (setCondition_quiet s _).kept
  · exact hc hp

end

/-! ### Every command -/

/-- Every command but a power-on reset. -/
theorem exec_kept (c : Instr) {s t : State} (h : exec c s = .next t) (hc : ∀ straps, c ≠ .powerOnReset straps) : Kept s t := by
  cases c with
  | powerOnReset straps => exact absurd rfl (hc straps)
  | debounceFirstState => cases h; exact debounceFirstState_kept s
  | buttonPress => cases h; exact buttonPress_kept s
  | buttonRelease => cases h; exact buttonRelease_kept s
  | traySeated => cases h; exact traySeated_kept s
  | trayRemoval => cases h; exact trayRemoval_kept s
  | fixtureFitted => cases h; exact fixtureFitted_kept s
  | fixtureChange => cases h; exact fixtureChange_kept s
  | start hd arg => cases h; exact received_kept s hd true fun _ => takeStart_kept s
  | abort hd arg => cases h; exact received_kept s hd true fun _ => takeAbortOrder_kept s
  | query hd arg => cases h; exact received_kept s hd true fun _ => (reply_quiet s _).kept
  | fetch hd arg => cases h; exact received_kept s hd true fun _ => (takeFetch_quiet s _ arg).kept
  | unknownOperation hd op arg => cases h; exact received_kept s hd true fun _ => (takeUnknown_quiet s op).kept
  | claim hd weight duration cycle => cases h; exact received_kept s hd false fun hp => takeClaim_kept hp weight duration
  | withdraw hd => cases h; exact received_kept s hd false fun _ => takeRelease_kept s hd
  | settled hd outcome => cases h; exact received_kept s hd false fun _ => takeRelease_kept s hd
  | sighting hd sig cycle phase => cases h; exact received_kept s hd false fun hp => (takeSighting_quiet hp sig).kept
  | sag hd bus => cases h; exact received_kept s hd false fun _ => (claimSag_kept s).trans (judgeSag_quiet _ hd).kept
  | frameDiscarded frame => cases h; exact (frameDiscarded_quiet s frame).kept
  | carrierAppears bt => cases h; exact (carrierAppears_quiet s bt).kept
  | endOfCarrier bt => cases h; exact (endOfCarrier_quiet s bt).kept
  | quietGapEnd bt => cases h; exact (quietGapEnd_quiet s bt).kept
  | collision bt => cases h; exact (collision_quiet s bt).kept
  | attemptCompletion bt alertFirst => cases h; exact attemptCompletion_kept s bt alertFirst
  | jamEnd bt alertFirst => cases h; exact jamEnd_kept s bt alertFirst
  | backoffEnd bt => cases h; exact (backoffEnd_quiet s bt).kept
  | backoffGeneratorAdvance bt => cases h; exact (advanceGenerator_quiet s bt).kept
  | holdEnd => cases h; exact holdEnd_kept s
  | entryExpiry source => cases h; exact entryExpiry_kept s source
  | round inputs panel tripFirst => cases h; exact takeRound_kept s inputs panel tripFirst
  | rampDeadline => cases h; exact rampDeadlineOut_kept s
  | onTimeDeadline => cases h; exact onTimeOut_kept s
  | drainDeadline => cases h; exact drainDeadlineOut_kept s
  | offTimeDeadline => cases h; exact offTimeOut_kept s
  | byteReceived b => cases h; exact byteReceived_kept s b
  | framingError => cases h; exact (framingError_quiet s).kept
  | idleFlagSet => cases h; exact (idleFlagSet_quiet s).kept
  | gapDeadline => cases h; exact (gapDeadlineOut_quiet s).kept
  | awaitedStageDeadline => cases h; exact (awaitedStageOut_quiet s).kept
  | pulseDeadline => cases h; exact pulseDeadlineOut_kept s
  | occurrenceClose => cases h; exact occurrenceClose_kept s
  | echoRemoval => cases h; exact (echoRemoval_quiet s).kept
  | preSegmentWriteEnd => cases h; exact (setStore_quiet s _).kept
  | postRoundWriteEnd => cases h; exact (setStore_quiet s _).kept
  | pieceReadEnd => cases h; exact pieceReadEnd_kept s
  | slotHeaderReadEnd slots => cases h; exact slotHeaderReadEnd_kept s slots
  | tagWriteEnd => cases h; exact tagWriteEnd_kept s
  | pollAcknowledge => cases h; exact pollAcknowledge_kept s
  | pollTimeout => cases h; exact pollTimeout_kept s
  | tagNoAcknowledge atStart => cases h; exact tagNoAcknowledge_kept s atStart
  | profileHeaderReadEnd hi lo => cases h; exact profileHeaderReadEnd_kept s hi lo
  | imageReadEnd image => cases h; exact imageReadEnd_kept s image
  | promNoAcknowledge => cases h; exact promNoAcknowledge_kept s

/-! ### The invariants that every step keeps (O54, O55, O56) -/

/-- A step is a power-on reset, with what waits left as it was, or keeps the invariants. -/
theorem step_kept {s t : State} (h : step s = .next t) :
    (∃ straps x n, t = ((State.powerOn straps).setPending x).setFreeIndex n) ∨ Kept s t := by
  rcases step_cases s t h with ⟨-, rfl⟩ | ⟨c, rest, -, hexec⟩
  · exact .inr (idleStep_kept s)
  · by_cases hc : ∃ straps, c = .powerOnReset straps
    · obtain ⟨straps, rfl⟩ := hc
      cases hexec
      exact .inl ⟨straps, _, _, rfl⟩
    · exact .inr ((kept_of_sameBlocks s (t := s.setPending rest) rfl).trans (exec_kept c hexec fun straps h => hc ⟨straps, h⟩))

theorem queue_length_eq (q : List Notice) :
    q.length = nonStepCount q + q.countP Notice.isClaim + q.countP (fun n => n.isStep && !n.isClaim) := by
  induction q with
  | nil => rfl
  | cons n q ih =>
    have hstep := isStep_of_isClaim (n := n)
    rw [nonStepCount] at ih ⊢
    cases hc : n.isClaim <;> cases hs : n.isStep <;> simp_all <;> omega

/-- The places of the queue: 14 for other notices than step notices, and a CLAIM with one step notice ahead of it (R34). -/
theorem queue_length_le {s : State} (hcap : s.WithinCapacity) (h : s.QueueKept) : s.port.queue.length ≤ 16 := by
  obtain ⟨hnon, -⟩ := hcap
  rw [queueKept_iff] at h
  have hclaims := h.claims.trans (claimsOf_le s.claim.state)
  have hsteps := h.steps.trans (stepsOf_le s.claim.state)
  have hsplit := queue_length_eq s.port.queue
  omega

/-- Settles O54: at a reset, and by what every other step keeps. -/
theorem capacityKept : Obligations.CapacityKept := by
  unfold Obligations.CapacityKept
  refine ⟨fun s t hcap h => ?_, fun s t hcap hrun hclaim hq h => ?_⟩
  · rcases step_kept h with ⟨straps, x, n, rfl⟩ | hk
    · exact (invariantsAtReset straps _ rfl).1
    · exact hk.capacity hcap
  · have hend : t.WithinCapacity ∧ t.QueueKept := by
      rcases step_kept h with ⟨straps, x, n, rfl⟩ | hk
      · obtain ⟨hcap, -, -, -, -, -, -, -, -, -, hq⟩ := invariantsAtReset straps _ rfl
        exact ⟨hcap, hq⟩
      · exact ⟨hk.capacity hcap, hk.queue ⟨hrun, hclaim⟩ hq⟩
    have hshape := (queueKept_iff t).1 hend.2
    exact ⟨hend.2, queue_length_le hend.1 hend.2, hshape.claims.trans (claimsOf_le _), hshape.details⟩

/-- Settles O55: at a reset, and by what every other step keeps. -/
theorem linesGeneratorTagKept : Obligations.LinesGeneratorTagKept := by
  unfold Obligations.LinesGeneratorTagKept
  refine ⟨fun s t hl h => ?_, fun s t h => ?_⟩
  · rcases step_kept h with ⟨straps, x, n, rfl⟩ | hk
    · exact (invariantsAtReset straps _ rfl).2.1
    · exact hk.lines hl
  · rcases step_kept h with ⟨straps, x, n, rfl⟩ | hk
    · obtain ⟨-, -, hg, htag, -⟩ := invariantsAtReset straps _ rfl
      exact ⟨fun _ => hg, fun _ => htag⟩
    · exact ⟨hk.generator, hk.tag⟩

/-- As many peers as there are station IDs (R44). -/
theorem roster_length_le {s : State} (h : s.RosterOfPeers) : s.claim.roster.length ≤ 31 := by
  obtain ⟨hnodup, hpeers⟩ := h
  have hsub : (s.claim.roster.map (fun e => e.source.toNat)).Subperm (List.range' 1 31) := by
    refine List.Nodup.subperm ?_ fun n hn => ?_
    · rw [show (s.claim.roster.map fun e => e.source.toNat) = (s.claim.roster.map RosterEntry.source).map BitVec.toNat by simp]
      exact hnodup.map fun a b => BitVec.eq_of_toNat_eq
    · obtain ⟨e, he, rfl⟩ := List.mem_map.1 hn
      obtain ⟨hlow, hhigh, -⟩ := hpeers e he
      rw [List.mem_range'_1]
      omega
  simpa using hsub.length_le

/-- Settles O56: at a reset, and by what every other step keeps. -/
theorem peersKept : Obligations.PeersKept := by
  unfold Obligations.PeersKept
  intro s t hroster hmatched h
  have hend : t.RosterOfPeers ∧ t.MatchesOfPeers := by
    rcases step_kept h with ⟨straps, x, n, rfl⟩ | hk
    · obtain ⟨-, -, -, -, hr, hm, -⟩ := invariantsAtReset straps _ rfl
      exact ⟨hr, hm⟩
    · exact ⟨hk.roster hroster, hk.matched hmatched⟩
  exact ⟨hend.1, roster_length_le hend.1, hend.2⟩

end Sys2Proof.Proofs
end

section
/-! # Scope: received notices and frames at the line port's checks, and the clash of IDs (R21, R41, R42, R43, R183, R184) -/

namespace Sys2Proof.Proofs

open Sys2Proof.Machine

/-! ### The clash of IDs (R42) -/

/-- ID_CLASH set, on the line: nothing where it is set already, the bit alone where an alert is out, and else the alert handed, taken or refused. -/
structure ClashNoted (s t : State) : Prop where
  again : s.run.conds.idClash = true → t = s
  bit : s.run.conds.idClash = false → s.run.alert ≠ .none → t = { s with run := { s.run with conds := { s.run.conds with idClash := true } } }
  taken : s.run.conds.idClash = false → s.run.alert = .none → Room s →
    t = { s with
      run := { s.run with conds := { s.run.conds with idClash := true }, alert := .outstanding }
      port := s.port.accepting { content := .status true none, target := 0#8, eventTime := s.clock, attempts := 0 } }
  refused : s.run.conds.idClash = false → s.run.alert = .none → ¬Room s →
    t = { s with run := { s.run with conds := { s.run.conds with idClash := true, outboundFull := true }, alert := .pending } }

theorem setCondition_clashNoted {s : State} (hs : s.port.stationId ≠ 0#5) : ClashNoted s (s.setCondition .idClash) := by
  obtain ⟨hagain, hedge⟩ := State.setCondition_set .idClash s
  have hnew := hedge _ rfl
  refine ⟨hagain, fun hc ha => (hnew hc).1 ha, fun hc ha hr => ?_, fun hc ha hr => ?_⟩
  · obtain ⟨u, taken, ⟨-, hroom, -⟩, ht⟩ := (hnew hc).2 ha
    obtain ⟨rfl, rfl⟩ := hroom hs hr
    exact ht
  · obtain ⟨u, taken, ⟨-, -, hfull⟩, ht⟩ := (hnew hc).2 ha
    obtain ⟨rfl, rfl⟩ := hfull hs hr
    exact ht

/-! ### The checks of a received notice (R41 to R43) -/

/-- Every notice command passes the checks before its consumer. -/
theorem exec_notice {c : Instr} {h : Header} {order : Bool} (hc : noticeHeader c = some (h, order)) (s : State) :
    ∃ consume, exec c s = .next (s.received h order consume) := by
  cases c <;> simp [noticeHeader] at hc <;> obtain ⟨rfl, rfl⟩ := hc <;> exact ⟨_, rfl⟩

theorem ownId_toNat (s : State) : s.ownId.toNat = s.port.stationId.toNat := by
  rw [State.ownId, BitVec.toNat_setWidth]
  omega

theorem sourceGood_ownId {s : State} (hs : s.port.stationId ≠ 0#5) : sourceGood s.ownId = true := by
  have h0 : s.port.stationId.toNat ≠ 0 := fun h => hs (BitVec.eq_of_toNat_eq h)
  have h31 := s.port.stationId.isLt
  simp only [sourceGood, ownId_toNat, Bool.and_eq_true, decide_eq_true_eq]
  omega

theorem received_of_discarded {h : Header} {order : Bool} {s : State} (hr : s.receipt h order = .discarded) (consume : State → State) :
    s.received h order consume = s := by
  rw [State.received, hr]

/-- A notice that is not heard, or that has an impossible source. -/
theorem receipt_of_unheard {h : Header} {order : Bool} {s : State} (hs : ¬Heard h.sync s ∨ sourceGood h.source = false) :
    s.receipt h order = .discarded := by
  rw [heard_iff, Bool.not_eq_true] at hs
  rcases hs with hs | hs <;> simp [State.receipt, hs]

/-- A notice with the own ID as source, whatever its target. -/
theorem receipt_of_own {h : Header} {order : Bool} {s : State} (hs : Heard h.sync s) (hsource : h.source = s.ownId) :
    s.receipt h order = .clash := by
  have hgood := sourceGood_ownId hs.1
  rw [heard_iff] at hs
  simp [State.receipt, hs, hsource, hgood]

/-- A notice of another station for another station, and an ORDER for all. -/
theorem receipt_of_elsewhere {h : Header} {order : Bool} {s : State} (hsource : h.source ≠ s.ownId) (htarget : h.target ≠ s.ownId)
    (hall : order = true ∨ h.target ≠ 0#8) : s.receipt h order = .discarded := by
  have hnot : ¬(h.target = 0#8 ∧ order = false) := by
    rintro ⟨h0, hf⟩
    rcases hall with h | h
    · simp [hf] at h
    · exact h h0
  simp [State.receipt, hsource, htarget, hnot]

/-- Settles O11: the checks in their order, before any consumer. -/
theorem noticeChecks : Obligations.NoticeChecks := by
  unfold Obligations.NoticeChecks
  intro c h order s hc
  obtain ⟨consume, hexec⟩ := exec_notice hc s
  rw [hexec]
  refine ⟨fun hbad => ?_, fun hheard hsource => ?_, fun hsource htarget hall => ?_⟩
  · have hr : ¬Heard h.sync s ∨ sourceGood h.source = false := by
      rcases hbad with hid | hwire | hfed | ⟨b, hb, hlt⟩ | hlow | hhigh
      · exact .inl fun hh => hh.1 hid
      · exact .inl fun hh => by simp [hh.2.1] at hwire
      · refine .inl fun ⟨_, _, b, hb, _⟩ => ?_
        rw [hfed] at hb
        cases hb
      · refine .inl fun ⟨_, _, b', hb', hle⟩ => ?_
        rw [hb] at hb'
        cases hb'
        omega
      · exact .inr (by simp [sourceGood, hlow])
      · exact .inr (by simp [sourceGood, hhigh])
    rw [received_of_discarded (receipt_of_unheard hr)]
  · rw [State.received, receipt_of_own hheard hsource]
    have hnoted := setCondition_clashNoted hheard.1
    exact ⟨fun h => congrArg _ (hnoted.again h), fun h ha => congrArg _ (hnoted.bit h ha), fun h ha hr => congrArg _ (hnoted.taken h ha hr),
      fun h ha hr => congrArg _ (hnoted.refused h ha hr)⟩
  · rw [received_of_discarded (receipt_of_elsewhere hsource htarget hall)]

/-- Settles O12: only a good frame that is heard and has the own ID as source is noted. -/
theorem frameDiscardedAndAlert : Obligations.FrameDiscardedAndAlert := by
  unfold Obligations.FrameDiscardedAndAlert
  intro f s
  have hexec : exec (.frameDiscarded f) s = .next (s.frameDiscarded f) := rfl
  rw [hexec, heard_iff, State.frameDiscarded]
  refine ⟨fun hbad => ?_, fun hheard hgood hsource => ?_⟩
  · rw [if_neg]
    simp only [Bool.and_eq_true, beq_iff_eq]
    rintro ⟨⟨hheard, hgood⟩, hsource⟩
    rcases hbad with h | h | h | h
    · exact h hheard
    · simp [frameGood, h] at hgood
    · simp [h] at hgood
    · exact h hsource
  · rw [if_pos (by simp [hheard, hgood, hsource])]
    have hnoted := setCondition_clashNoted ((heard_iff f.sync s).2 hheard).1
    exact ⟨fun h => congrArg _ (hnoted.again h), fun h ha => congrArg _ (hnoted.bit h ha), fun h ha hr => congrArg _ (hnoted.taken h ha hr),
      fun h ha hr => congrArg _ (hnoted.refused h ha hr)⟩

end Sys2Proof.Proofs
end

section
/-! # Scope: the line port's own events: carrier, collision, backoff and its generator, and the beginning of an attempt (R24 to R31, R39 to R41, R185) -/

namespace Sys2Proof.Proofs

open Sys2Proof.Machine

/-! ### Carrier (R25, R26) -/

theorem onLine_of_standalone {s : State} (h : s.port.stationId = 0#5) (f : LinePort → LinePort) : s.onLine f = s := by
  simp [State.onLine, State.standalone, h]

theorem onLine_of_line {s : State} (h : s.port.stationId ≠ 0#5) (f : LinePort → LinePort) : s.onLine f = { s with port := f s.port } := by
  simp [State.onLine, State.standalone, h, State.setPort]

section
variable {p : LinePort} {b bt : Nat}

/-- Within the part of the gap that carrier times again, and past it (R26). -/
theorem carrierAppears_timed (htx : p.tx = .defer) (hgap : p.gap = .since b) :
    p.carrierAppears bt = if bt < b + 32 then { p with carrier := true, gap := .stopped } else { p with carrier := true } := by
  simp only [LinePort.carrierAppears, htx, hgap, retimedBits]

theorem carrierAppears_stopped (htx : p.tx = .defer) (hgap : p.gap = .stopped) : p.carrierAppears bt = { p with carrier := true } := by
  simp only [LinePort.carrierAppears, htx, hgap]

theorem carrierAppears_uncommitted (htx : p.tx = .idle ∨ ∃ e, p.tx = .backoff e) :
    p.carrierAppears bt = { p with carrier := true, gap := .stopped } := by
  rcases htx with h | ⟨e, h⟩ <;> simp only [LinePort.carrierAppears, h]

theorem carrierAppears_onWire (htx : p.onWire = true) : p.carrierAppears bt = { p with carrier := true } := by
  cases h : p.tx <;> simp [LinePort.onWire, h] at htx <;> simp only [LinePort.carrierAppears, h]

/-- The carrier that a committed port ignored has ended. -/
theorem endOfCarrier_committed (htx : p.tx = .defer) (hgap : p.gap = .since b) (hc : p.carrier = true) :
    p.endOfCarrier bt = { p with carrier := false, lastEnd := bt, framer := .hunting bt } := by
  simp only [LinePort.endOfCarrier, htx, hgap, hc]

theorem endOfCarrier_waited (htx : p.tx = .defer) (h : p.gap = .stopped ∨ p.carrier = false) :
    p.endOfCarrier bt = { p with carrier := false, lastEnd := bt, framer := .hunting bt, gap := .since bt } := by
  cases hgap : p.gap <;> cases hc : p.carrier <;> simp [hgap, hc] at h <;> simp only [LinePort.endOfCarrier, htx, hgap, hc]

theorem endOfCarrier_uncommitted (htx : p.tx = .idle ∨ ∃ e, p.tx = .backoff e) :
    p.endOfCarrier bt = { p with carrier := false, lastEnd := bt, framer := .hunting bt, gap := .since bt } := by
  rcases htx with h | ⟨e, h⟩ <;> simp only [LinePort.endOfCarrier, h]

theorem endOfCarrier_onWire (htx : p.onWire = true) : p.endOfCarrier bt = { p with carrier := false } := by
  cases h : p.tx <;> simp [LinePort.onWire, h] at htx <;> simp only [LinePort.endOfCarrier, h]

end

/-- Settles O19: case by case of the transmit state and the gap. -/
theorem carrierCollisionBackoff : Obligations.CarrierCollisionBackoff := by
  unfold Obligations.CarrierCollisionBackoff
  refine ⟨fun s bt hs => ?_, fun s b bt ended hs hended => ?_, fun s b bt f => ⟨fun htx hlow hhigh => ?_, fun htx => ?_⟩,
    fun s bt => ⟨fun e htx he => ?_, fun e htx he => ?_, fun hnext => ?_, fun hnext => ?_⟩⟩
  · exact ⟨congrArg _ (onLine_of_standalone hs _), congrArg _ (onLine_of_standalone hs _)⟩
  · subst hended
    have happears : exec (.carrierAppears bt) s = .next { s with port := s.port.carrierAppears bt } := congrArg _ (onLine_of_line hs _)
    have hends : exec (.endOfCarrier bt) s = .next { s with port := s.port.endOfCarrier bt } := congrArg _ (onLine_of_line hs _)
    rw [happears, hends]
    refine ⟨fun htx hgap => ⟨fun h => ?_, fun h => ?_, fun hc => ?_⟩, fun htx hgap => ?_, fun htx h => ?_, fun htx => ⟨?_, ?_⟩, fun htx => ⟨?_, ?_⟩⟩
    · rw [carrierAppears_timed htx hgap, if_pos h]
    · rw [carrierAppears_timed htx hgap, if_neg (by omega)]
    · rw [endOfCarrier_committed htx hgap hc]
    · rw [carrierAppears_stopped htx hgap]
    · rw [endOfCarrier_waited htx h]
    · rw [carrierAppears_uncommitted htx]
    · rw [endOfCarrier_uncommitted htx]
    · rw [carrierAppears_onWire htx]
    · rw [endOfCarrier_onWire htx]
  · refine congrArg _ (?_ : s.collision bt = _)
    simp [State.collision, htx, hlow, frameBits, hhigh, jamBits, State.setPort]
  · refine congrArg _ (?_ : s.collision bt = _)
    unfold State.collision
    split
    · next b f h => exact absurd h (htx b f)
    · rfl
  · refine congrArg _ (?_ : s.backoffEnd bt = _)
    simp [State.backoffEnd, htx, he, State.setPort]
  · refine congrArg _ (?_ : s.backoffEnd bt = _)
    simp [State.backoffEnd, htx, he]
  · refine ⟨generatorNext s.port.generator, congrArg _ (?_ : s.advanceGenerator bt = _), generatorNext_getLsbD_zero _,
      fun i hi => generatorNext_getLsbD_succ _ hi⟩
    simp [State.advanceGenerator, hnext, State.setPort]
  · refine congrArg _ (?_ : s.advanceGenerator bt = _)
    simp [State.advanceGenerator, hnext]

/-! ### The beginning of an attempt (R24, R39, R40) -/

/-- A notice whose content is not to be taken begins its attempt as it is. -/
theorem begun_of_ready {n : Notice} (h : ∀ a, n.content ≠ .status a none) (content : List Byte) : n.begun content = n ∧ n.takesReply = false := by
  unfold Notice.begun Notice.takesReply
  constructor
  · split
    · next a ha => exact absurd ha (h a)
    · rfl
  · split
    · next ha => exact absurd ha (h false)
    · rfl

/-- A STATUS takes its content, a reply among them. -/
theorem begun_of_status {n : Notice} {a : Bool} (h : n.content = .status a none) (content : List Byte) :
    n.begun content = { n with content := .status a (some content) } ∧ n.takesReply = !a := by
  cases a <;> simp [Notice.begun, Notice.takesReply, h]

/-- Past the quiet gap an attempt begins with the head of the queue. -/
theorem quietGapEnd_of_cons {s : State} {b bt : Nat} {n : Notice} {q : List Notice} (htx : s.port.tx = .defer) (hgap : s.port.gap = .since b)
    (hbt : b + 48 ≤ bt) (hq : s.port.queue = n :: q) : s.quietGapEnd bt = s.beginAttempt bt n q := by
  simp [State.quietGapEnd, htx, hgap, gapBits, hbt, hq]

/-- Settles O20: an empty queue, a notice whose content is known, and a STATUS that takes its content. -/
theorem attemptBegins : Obligations.AttemptBegins := by
  unfold Obligations.AttemptBegins
  intro s b bt htx hgap
  refine ⟨fun hbt => congrArg _ (?_ : s.quietGapEnd bt = _), fun hbt hq => congrArg _ (?_ : s.quietGapEnd bt = _),
    fun n q hbt hq hready => congrArg _ (?_ : s.quietGapEnd bt = _), fun n q a hbt hq hstatus => ⟨_, _, rfl, rfl, ?_⟩⟩
  · have hnot : ¬b + 48 ≤ bt := by omega
    simp [State.quietGapEnd, htx, hgap, gapBits, hnot]
  · simp [State.quietGapEnd, htx, hgap, gapBits, hbt, hq, LinePort.resume, LinePort.gapNow, State.setPort]
  · obtain ⟨hbegun, hreply⟩ := begun_of_ready hready s.statusContent
    rw [quietGapEnd_of_cons htx hgap hbt hq, State.beginAttempt, hbegun, hreply, ← hq]
    rfl
  · obtain ⟨hbegun, hreply⟩ := begun_of_status hstatus s.statusContent
    rw [quietGapEnd_of_cons htx hgap hbt hq, State.beginAttempt, hbegun, hreply]
    cases a <;> simp [State.setPort, State.setAlert, State.setRun, SameBut]

end Sys2Proof.Proofs
end

section
/-! # Scope: completed attempts and ended jams, with what the departure of a notice brings (R24, R27, R30 to R33, R38, R157 to R161, R184) -/

namespace Sys2Proof.Proofs

open Sys2Proof.Machine

/-! ### Departures -/

/-- The own carrier has ended and the head has left the queue. -/
theorem headLeaves_eq {s : State} {n : Notice} {q : List Notice} (hq : s.port.queue = n :: q) (e : Nat) :
    (s.setPort (s.port.ownCarrierEnds e)).headLeaves = { s with port := s.port.headGone e q } := by
  simp only [State.headLeaves, State.setPort, LinePort.ownCarrierEnds, LinePort.leave, resume_eq, LinePort.gapNow, LinePort.headGone, LinePort.quietFrom, hq,
    List.tail_cons]
  cases s.port.carrier <;> cases q <;> rfl

theorem not_isClaim_of_not_isStep {n : Notice} (h : n.isStep = false) : n.isClaim = false := by
  rw [← Bool.not_eq_true]
  exact fun hc => by simp [isStep_of_isClaim hc] at h

/-- The attempt that has driven its last bit is complete (R22, R27). -/
theorem attemptCompletion_of_sent {s : State} {b bt : Nat} {f : List Byte} {n : Notice} {q : List Notice} (alertFirst : Bool)
    (htx : s.port.tx = .send b f) (hq : s.port.queue = n :: q) (hbt : b + 8 * f.length ≤ bt) :
    s.attemptCompletion bt alertFirst = if n.isClaim then State.claimCompleted { s with port := s.port.headGone (b + 8 * f.length) q }
      else State.departed n alertFirst { s with port := s.port.headGone (b + 8 * f.length) q } := by
  rw [← headLeaves_eq hq]
  simp [State.attemptCompletion, htx, hq, frameBits, hbt, State.sent]

theorem departed_of_isStep {n : Notice} (h : n.isStep = true) (alertFirst : Bool) (s : State) : s.departed n alertFirst = s := by
  simp [State.departed, h]

/-- Of a notice other than step notice and DETAIL the run controller alone is told. -/
theorem departed_of_other {n : Notice} (hs : n.isStep = false) (hd : n.isDetail = false) (alertFirst : Bool) (s : State) :
    s.departed n alertFirst = s.alertOnDeparture := by
  simp [State.departed, hs, hd]

/-- Of a DETAIL run controller and snapshot store are told, in the order given. -/
theorem departed_of_isDetail {n : Notice} (hd : n.isDetail = true) (alertFirst : Bool) (s : State) :
    s.departed n alertFirst = if alertFirst then s.alertOnDeparture.detailDeparted else s.detailDeparted.alertOnDeparture := by
  simp [State.departed, not_isStep_of_isDetail hd, hd]

theorem departed_detailLeft {n : Notice} (hd : n.isDetail = true) (alertFirst : Bool) (s : State) : DetailLeft alertFirst s (s.departed n alertFirst) := by
  rw [departed_of_isDetail hd]
  cases alertFirst
  · exact ⟨s.detailDeparted, by simp, fun _ => ⟨s.detailDeparted_spec, State.alertOnDeparture_spec _⟩⟩
  · exact ⟨s.alertOnDeparture, fun _ => ⟨s.alertOnDeparture_spec, State.detailDeparted_spec _⟩, by simp⟩

/-- Settles O21: a step notice tells nobody, another notice the run controller. -/
theorem attemptCompletes : Obligations.AttemptCompletes := by
  unfold Obligations.AttemptCompletes
  intro s b bt f n q alertFirst htx hq hbt hclaim hdetail
  have hexec : exec (.attemptCompletion bt alertFirst) s = .next (State.departed n alertFirst { s with port := s.port.headGone (b + 8 * f.length) q }) := by
    refine congrArg _ (?_ : s.attemptCompletion bt alertFirst = _)
    rw [attemptCompletion_of_sent alertFirst htx hq hbt, hclaim]
    rfl
  rw [hexec]
  refine ⟨fun hs => congrArg _ (departed_of_isStep hs alertFirst _), fun hs => ⟨_, rfl, ?_⟩⟩
  rw [departed_of_other hs hdetail]
  exact State.alertOnDeparture_spec _

/-! ### A readout's pieces (R157, R159 to R161) -/

theorem readRelease_eq (st : SnapshotStore) : st.readRelease = { st with port := if st.port = .readout then .free else st.port } := by
  unfold SnapshotStore.readRelease
  cases h : st.port with
  | readout => rfl
  | free | capture => exact congrArg (fun x => { st with port := x }) h

theorem handData_handed (r : Readout) (s : State) : PieceHanded r (dataPiece r (s.store.contentOf r.slot)) .dataQueued s (s.handData r) := by
  have h := s.handPiece_spec r (dataPiece r (s.store.contentOf r.slot)) .dataQueued
  simpa [State.handData, detailPayload, dataPiece, pieceAt, count8, count16] using h

/-- Settles O40: the piece read is held or handed, and the departure of a DETAIL tells the store and the run controller. -/
theorem readoutPieces : Obligations.ReadoutPieces := by
  unfold Obligations.ReadoutPieces
  refine ⟨fun s r m released hr hstage hreleased => ?_, fun s b bt f n q alertFirst htx hq hbt hdetail => ⟨_, rfl, ?_⟩⟩
  · have hrel : s.setStore s.store.readRelease = released := by rw [hreleased, readRelease_eq]; rfl
    have hread : s.pieceReadEnd = if s.port.queue.any Notice.isDetail then
        { released with store := { released.store with readout := some { r with stage := .held } } } else released.handData r := by
      simp only [State.pieceReadEnd, hr, hstage, hrel]
      rw [hreleased]
      rfl
    refine ⟨fun hq => congrArg _ (hread.trans (if_pos hq)), fun hq => ⟨_, rfl, ?_⟩⟩
    rw [hread, if_neg (by simp [hq])]
    have hcontent : s.store.contentOf r.slot = released.store.contentOf r.slot := by rw [hreleased]; rfl
    rw [hcontent]
    exact handData_handed r released
  · have hclaim := not_isClaim_of_not_isStep (not_isStep_of_isDetail hdetail)
    rw [attemptCompletion_of_sent alertFirst htx hq hbt, hclaim]
    exact departed_detailLeft hdetail alertFirst _

/-! ### Conditions only rise -/

/-- Every condition that is set stays set. -/
def CondsRise (s t : State) : Prop := ∀ d, s.run.conds.get d = true → t.run.conds.get d = true

theorem CondsRise.trans {s t u : State} (h : CondsRise s t) (k : CondsRise t u) : CondsRise s u := fun d hd => k d (h d hd)

theorem CondsRise.of_conds {s t : State} (h : t.run.conds = s.run.conds) : CondsRise s t := fun d hd => by rwa [h]

theorem putCondition_rises (c : Condition) (s : State) : CondsRise s (s.putCondition c true) := fun d hd => by
  rw [State.putCondition, State.setRun_run, Conditions.get_put]
  split
  · rfl
  · exact hd

theorem setCondition_rises (c : Condition) (s : State) : CondsRise s (s.setCondition c) := (State.setCondition_spec c s).2.2.1

theorem handAlert_rises (s : State) : CondsRise s s.handAlert := by
  unfold State.handAlert
  split
  · next t ht =>
    rcases State.enqueue_spec _ _ _ ht with ⟨-, rfl⟩ | ⟨-, -, rfl⟩ <;> exact .of_conds rfl
  · exact (putCondition_rises .outboundFull s).trans (.of_conds rfl)

theorem alertOnDeparture_rises (s : State) : CondsRise s s.alertOnDeparture := by
  unfold State.alertOnDeparture
  split
  · exact handAlert_rises s
  · exact .of_conds rfl

theorem handNotice_rises (n : Notice) (s : State) : CondsRise s (s.handNotice n).1 := by
  rcases s.handNotice_spec n with ⟨-, h⟩ | ⟨-, -, h⟩ | ⟨-, -, h⟩ <;> rw [h]
  · exact .of_conds rfl
  · exact .of_conds rfl
  · exact setCondition_rises _ s

theorem handPiece_rises (r : Readout) (payload : List Byte) (next : ReadStage) (s : State) : CondsRise s (s.handPiece r payload next) := by
  have h := handNotice_rises (Notice.fresh (.detail payload) r.target s.clock) s
  unfold State.handPiece
  split <;> next hn => rw [hn] at h; exact h.trans (.of_conds rfl)

theorem detailDeparted_rises (s : State) : CondsRise s s.detailDeparted := by
  have hrefl : CondsRise s s := .of_conds rfl
  have hset : ∀ x, CondsRise s (s.setStore x) := fun x => .of_conds rfl
  unfold State.detailDeparted
  split
  · exact hrefl
  · split
    · split
      · unfold State.handFinal
        split
        · exact hrefl
        · exact handPiece_rises _ _ _ s
      · exact hset _
    · exact hset _
    · exact handPiece_rises _ _ _ s
    · exact hrefl
    · exact hrefl
    · exact hrefl

/-! ### The end of a jam (R30) -/

theorem jamEnd_of_ended {s : State} {e bt : Nat} {n : Notice} {q : List Notice} (alertFirst : Bool) (htx : s.port.tx = .jam e)
    (hq : s.port.queue = n :: q) (hbt : e ≤ bt) : s.jamEnd bt alertFirst = s.jamOver e n q alertFirst := by
  simp [State.jamEnd, htx, hq, hbt]

/-- The notice stays current, and the port backs off k slot times (R31). -/
theorem backOff_eq (e k count : Nat) (n : Notice) (q : List Notice) (p : LinePort) :
    ((p.ownCarrierEnds e).setAttempts n q count).backOff e k =
      { p.quietFrom e with queue := { n with attempts := count } :: q, tx := if k = 0 then .defer else .backoff (e + 64 * k) } := rfl

section
variable {s : State} {n : Notice} {q : List Notice} {e : Nat} {alertFirst : Bool}

theorem jamOver_below (hn : n.attempts + 1 < 12) (hc : n.isClaim = false ∨ s.port.cancelAsked = false) :
    s.jamOver e n q alertFirst = s.setPort
      (((s.port.ownCarrierEnds e).setAttempts n q (n.attempts + 1)).backOff e (s.port.generator.toNat % 2 ^ min (n.attempts + 1) 8)) := by
  have hlimit : ¬attemptLimit ≤ n.attempts + 1 := by rw [attemptLimit]; omega
  have hcancel : ¬((n.isClaim && (s.port.ownCarrierEnds e).cancelAsked) = true) := by
    rcases hc with h | h <;> simp [LinePort.ownCarrierEnds, h]
  simp only [State.jamOver, State.setPort_port, hcancel, hlimit, if_false]
  rfl

theorem jamOver_step (hn : 12 ≤ n.attempts + 1) (hs : n.isStep = true) (hc : n.isClaim = false ∨ s.port.cancelAsked = false) :
    s.jamOver e n q alertFirst = s.setPort
      (((s.port.ownCarrierEnds e).setAttempts n q 0).backOff e (s.port.generator.toNat % 256)) := by
  have hlimit : attemptLimit ≤ n.attempts + 1 := hn
  have hcancel : ¬((n.isClaim && (s.port.ownCarrierEnds e).cancelAsked) = true) := by
    rcases hc with h | h <;> simp [LinePort.ownCarrierEnds, h]
  simp only [State.jamOver, State.setPort_port, hcancel, hlimit, if_true, hs]
  rfl

theorem jamOver_dropped (hq : s.port.queue = n :: q) (hn : 12 ≤ n.attempts + 1) (hs : n.isStep = false) :
    s.jamOver e n q alertFirst = State.dropReported n alertFirst { s with port := s.port.headGone e q } := by
  have hlimit : attemptLimit ≤ n.attempts + 1 := hn
  simp [State.jamOver, not_isClaim_of_not_isStep hs, hlimit, hs, headLeaves_eq hq]

theorem jamOver_cancelled (hq : s.port.queue = n :: q) (hc : n.isClaim = true) (ha : s.port.cancelAsked = true) :
    s.jamOver e n q alertFirst = State.claimCancelled { s with port := s.port.headGone e q } := by
  have hcancel : (s.port.ownCarrierEnds e).cancelAsked = true := ha
  simp [State.jamOver, hc, hcancel, headLeaves_eq hq]

end

/-- A drop: NOTICE_DROPPED, and the departure told, with a DETAIL's report first or last. -/
theorem dropReported_dropLeft {n : Notice} (hs : n.isStep = false) (alertFirst : Bool) (s : State) :
    DropLeft n.isDetail alertFirst s (s.dropReported n alertFirst) := by
  unfold State.dropReported
  cases hd : n.isDetail with
  | false =>
    rw [Bool.false_and, if_neg Bool.false_ne_true, departed_of_other hs hd]
    exact ⟨_, s, fun _ => ⟨State.setCondition_set .noticeDropped s, State.alertOnDeparture_spec _⟩, by simp, by simp⟩
  | true =>
    rw [departed_of_isDetail hd]
    cases alertFirst with
    | false => exact ⟨_, _, by simp, by simp, fun _ _ => ⟨s.detailDeparted_spec, State.setCondition_set .noticeDropped _, State.alertOnDeparture_spec _⟩⟩
    | true => exact ⟨_, _, by simp, fun _ _ => ⟨State.setCondition_set .noticeDropped s, State.alertOnDeparture_spec _, State.detailDeparted_spec _⟩, by simp⟩

theorem departed_rises (n : Notice) (alertFirst : Bool) (s : State) : CondsRise s (s.departed n alertFirst) := by
  unfold State.departed
  split
  · exact .of_conds rfl
  · split
    · split
      · exact (alertOnDeparture_rises s).trans (detailDeparted_rises _)
      · exact (detailDeparted_rises s).trans (alertOnDeparture_rises _)
    · exact alertOnDeparture_rises s

theorem dropReported_noticeDropped (n : Notice) (alertFirst : Bool) (s : State) : (s.dropReported n alertFirst).run.conds.noticeDropped = true := by
  have hset : ∀ u : State, (u.setCondition .noticeDropped).run.conds.get .noticeDropped = true := fun u => (State.setCondition_spec _ u).1
  unfold State.dropReported
  split
  · exact alertOnDeparture_rises _ .noticeDropped (hset _)
  · exact departed_rises n alertFirst _ .noticeDropped (hset _)

/-- Outside WAITING no entry was deferred (R57). -/
theorem cancellingEndEnds_elsewhere {s : State} (h : s.seq.phase ≠ .waiting) : s.cancellingEndEnds = s.setClaimState .idle := by
  unfold State.cancellingEndEnds
  split
  · next hw _ => exact absurd hw h
  · rfl

theorem claimCancelled_of_end {s : State} (h : s.claim.state = .cancellingEnd) : s.claimCancelled = s.cancellingEndEnds := by
  simp only [State.claimCancelled, h]

/-- Settles O23: below the limit, a step notice at it, a drop, and a cancelled CLAIM. -/
theorem jamEnd : Obligations.JamEnd := by
  unfold Obligations.JamEnd
  intro s e bt n q alertFirst htx hq hbt
  have hexec : exec (.jamEnd bt alertFirst) s = .next (s.jamOver e n q alertFirst) := congrArg _ (jamEnd_of_ended alertFirst htx hq hbt)
  rw [hexec]
  refine ⟨fun hn hc k hk => ?_, fun hn hs hc k hk => ?_, fun hn hs => ⟨_, rfl, ?_⟩, fun hc ha hw hcl => ?_⟩
  · rw [jamOver_below hn hc, backOff_eq, hk]
    rfl
  · rw [jamOver_step hn hs hc, backOff_eq, hk]
    rfl
  · rw [jamOver_dropped hq hn hs]
    exact ⟨dropReported_noticeDropped n alertFirst _, dropReported_dropLeft hs alertFirst _⟩
  · rw [jamOver_cancelled hq hc ha]
    exact congrArg _ ((claimCancelled_of_end (s := { s with port := s.port.headGone e q }) hcl).trans (cancellingEndEnds_elsewhere hw))

end Sys2Proof.Proofs
end

section
/-! # Scope: the own claim at a change of the budget sum, at the end of a run in WAITING and at the end of CANCELLING (R48, R50 to R52, R55, R57, R59) -/

namespace Sys2Proof.Proofs

open Sys2Proof.Machine

/-! ### What the claim logic leaves as it is -/

/-- An operation on claim state and queue alone, which loses no notice. -/
structure ClaimStep (s t : State) : Prop where
  seq : t.seq = s.seq
  roster : t.claim.roster = s.claim.roster
  rail : t.rail = s.rail
  clock : t.clock = s.clock
  profile : t.profile = s.profile
  stationId : t.port.stationId = s.port.stationId
  generator : t.port.generator = s.port.generator
  queue : ∀ m ∈ s.port.queue, m ∈ t.port.queue

theorem ClaimStep.refl (s : State) : ClaimStep s s := ⟨rfl, rfl, rfl, rfl, rfl, rfl, rfl, fun _ => id⟩

theorem ClaimStep.trans {s t u : State} (h : ClaimStep s t) (k : ClaimStep t u) : ClaimStep s u :=
  ⟨k.seq.trans h.seq, k.roster.trans h.roster, k.rail.trans h.rail, k.clock.trans h.clock, k.profile.trans h.profile,
    k.stationId.trans h.stationId, k.generator.trans h.generator, fun m hm => k.queue m (h.queue m hm)⟩

section
variable {s t u : State} {p : Profile}

theorem setClaimState_claimStep (c : ClaimState) (s : State) : ClaimStep s (s.setClaimState c) := ⟨rfl, rfl, rfl, rfl, rfl, rfl, rfl, fun _ => id⟩

/-- A step notice handed over on the line is in the queue. -/
theorem handStep_claimStep (n : Notice) (hs : s.port.stationId ≠ 0#5) :
    ClaimStep s (s.handStep n) ∧ (s.handStep n).claim = s.claim ∧ n ∈ (s.handStep n).port.queue := by
  rcases State.handStep_spec n s with ⟨hid, -⟩ | ⟨-, q, hq, -, h⟩
  · exact absurd hid hs
  · rw [h]
    exact ⟨⟨rfl, rfl, rfl, rfl, rfl, rfl, rfl, fun m hm => (hq m).2 (.inr hm)⟩, rfl, (hq n).2 (.inl rfl)⟩

/-- The budget check on the line (R48, R50). -/
theorem tryClaim_checked (p : Profile) (hs : s.port.stationId ≠ 0#5) : ClaimStep s (s.tryClaim p) ∧ BudgetChecked p s (s.tryClaim p) := by
  obtain ⟨hstep, hclaim, hmem⟩ := handStep_claimStep (s.ownClaim p) hs
  rcases State.tryClaim_spec p s with ⟨hpass, h⟩ | ⟨hfail, h⟩ <;> rw [h]
  · refine ⟨⟨hstep.seq, rfl, hstep.rail, hstep.clock, hstep.profile, hstep.stationId, hstep.generator, hstep.queue⟩, fun _ => ⟨rfl, ?_⟩, fun hn => ?_⟩
    · exact ⟨_, hmem, rfl, rfl, rfl⟩
    · omega
  · exact ⟨⟨rfl, rfl, rfl, rfl, rfl, rfl, rfl, fun _ => id⟩, fun hn => by omega, fun _ => rfl⟩

theorem BudgetChecked.of_claimStep (h : ClaimStep s u) (k : BudgetChecked p u t) : BudgetChecked p s t := by
  unfold BudgetChecked OwnClaimQueued at *
  rwa [h.roster, h.seq] at k

/-- The contest for the allowance on the line (R50). -/
theorem beginContest_contested (p : Profile) (hs : s.port.stationId ≠ 0#5) : ClaimStep s (s.beginContest p) ∧ Contested p s (s.beginContest p) := by
  obtain ⟨hstep, hchecked⟩ := tryClaim_checked p hs
  unfold State.beginContest
  cases hsag : s.rail.sag with
  | inForce => exact ⟨setClaimState_claimStep _ s, fun _ => rfl, fun n hn => by simp [hsag] at hn⟩
  | armed n =>
    have hline : ¬s.standalone = true := by simpa [State.standalone] using hs
    simp only [hline]
    exact ⟨hstep, fun hn => by simp [hsag] at hn, fun _ _ => hchecked⟩

theorem Contested.of_claimStep (h : ClaimStep s u) (k : Contested p u t) : Contested p s t := by
  obtain ⟨hheld, hchecked⟩ := k
  have hfresh : u.freshHold = s.freshHold := by rw [State.freshHold, State.freshHold, h.clock, h.generator]
  rw [h.rail] at hheld hchecked
  exact ⟨fun hn => (hheld hn).trans (by rw [hfresh]), fun n hn => BudgetChecked.of_claimStep h (hchecked n hn)⟩

/-! ### A change of the budget sum (R48, R51, R52) -/

/-- The three notices of a peer that change the roster (R45, R46). -/
theorem exec_rosterNotice {c : Instr} {h : Header} (hr : Reaches h false s)
    (hc : (∃ w d k, c = .claim h w d k) ∨ c = .withdraw h ∨ ∃ o, c = .settled h o) : ∃ r, exec c s = .next (s.rosterChanged r) := by
  rcases hc with ⟨w, d, k, rfl⟩ | rfl | ⟨o, rfl⟩ <;> exact ⟨_, congrArg _ (State.received_reaches _ _ _ hr _)⟩

theorem rosterChanged_fell {r : List RosterEntry} (h : budgetSum r < budgetSum s.claim.roster) : s.rosterChanged r = (s.setRoster r).sumFell := by
  rw [State.rosterChanged, if_neg (by omega), if_pos h]

theorem rosterChanged_rose {r : List RosterEntry} (h : budgetSum s.claim.roster < budgetSum r) : s.rosterChanged r = (s.setRoster r).sumRose := by
  rw [State.rosterChanged, if_pos h]

theorem rosterChanged_same {r : List RosterEntry} (h : budgetSum r = budgetSum s.claim.roster) : s.rosterChanged r = s.setRoster r := by
  rw [State.rosterChanged, if_neg (by omega), if_neg (by omega)]

theorem sumFell_of_blocked (hc : s.claim.state = .blocked) (hp : s.profile = some p) : s.sumFell = s.tryClaim p := by
  simp only [State.sumFell, hc, hp]

theorem sumFell_of_other (hc : s.claim.state ≠ .blocked) : s.sumFell = s := by
  unfold State.sumFell
  split
  · next h _ => exact absurd h hc
  · rfl

theorem sumRose_of_queued (hc : s.claim.state = .queued) (hp : s.profile = some p) :
    s.sumRose = if s.port.claimCurrent || s.budgetPasses p then s else s.cancelClaim.setClaimState .blocked := by
  simp only [State.sumRose, hc, hp]

theorem sumRose_of_other (hc : s.claim.state ≠ .queued) : s.sumRose = s := by
  unfold State.sumRose
  split
  · next h _ => exact absurd h hc
  · rfl

/-- A CLAIM that is not current is taken out of the queue (R37). -/
theorem cancelClaim_of_not_onWire (h : s.port.claimOnWire = false) : s.cancelClaim = s.setPort s.port.withoutClaim := by
  simp [State.cancelClaim, h]

theorem withoutClaim_free (x : LinePort) : ∀ n ∈ x.withoutClaim.queue, n.isClaim = false := by
  obtain ⟨-, -, hq⟩ := withoutClaim_eq x
  rw [hq]
  simp

/-- A queue that held the CLAIM alone, on which no attempt had begun, leaves the port idle (R24, R25). -/
theorem withoutClaim_of_alone {x : LinePort} {n : Notice} (hcur : x.claimCurrent = false) (hq : x.queue = [n]) (hn : n.isClaim = true)
    (htx : x.tx = .defer) :
    x.withoutClaim = { x with queue := [], current := false, tx := .idle, gap := if x.carrier then .stopped else .since x.lastEnd } := by
  have hcurrent : x.current = false := by simpa [LinePort.claimCurrent, hq, hn] using hcur
  simp [LinePort.withoutClaim, hq, hn, hcurrent, htx, LinePort.resume, LinePort.gapNow]

/-- The clauses of R51 and R52 on the roster as it was and as it is. -/
structure BudgetFollowed (p : Profile) (s t : State) : Prop where
  fell : budgetSum t.claim.roster < budgetSum s.claim.roster → s.claim.state = .blocked →
    (budgetSum t.claim.roster + p.weight ≤ p.allowance → t.claim.state = .queued ∧ OwnClaimQueued p s t)
      ∧ (p.allowance < budgetSum t.claim.roster + p.weight → t.claim.state = .blocked ∧ t.port = s.port)
  rose : budgetSum s.claim.roster < budgetSum t.claim.roster → s.claim.state = .queued → s.port.claimCurrent = false →
    p.allowance < budgetSum t.claim.roster + p.weight →
      t.claim.state = .blocked ∧ (∀ n ∈ t.port.queue, n.isClaim = false)
        ∧ ∀ n, s.port.queue = [n] → n.isClaim = true → s.port.tx = .defer →
            t.port = { s.port with
              queue := [], current := false, tx := .idle, gap := if s.port.carrier then .stopped else .since s.port.lastEnd }
  kept : budgetSum s.claim.roster < budgetSum t.claim.roster → s.claim.state = .queued →
    (s.port.claimCurrent = true ∨ budgetSum t.claim.roster + p.weight ≤ p.allowance) → t.claim.state = .queued ∧ t.port = s.port
  other : (budgetSum t.claim.roster = budgetSum s.claim.roster
      ∨ (budgetSum s.claim.roster < budgetSum t.claim.roster ∧ s.claim.state = .blocked)
      ∨ (budgetSum t.claim.roster < budgetSum s.claim.roster ∧ s.claim.state = .queued)
      ∨ (s.claim.state ≠ .blocked ∧ s.claim.state ≠ .queued)) → t.claim.state = s.claim.state ∧ t.port = s.port

theorem rosterChanged_followed (hs : s.port.stationId ≠ 0#5) (hp : s.profile = some p) (r : List RosterEntry) :
    BudgetFollowed p s (s.rosterChanged r) := by
  have hprofile : (s.setRoster r).profile = some p := hp
  have hstate : (s.setRoster r).claim.state = s.claim.state := rfl
  refine ⟨fun hlt hc => ?_, fun hlt hc hcur hfail => ?_, fun hlt hc hok => ?_, fun hcase => ?_⟩ <;> rw [State.rosterChanged_roster] at *
  · rw [rosterChanged_fell hlt, sumFell_of_blocked (hstate.trans hc) hprofile]
    obtain ⟨hqueued, hblocked⟩ := (tryClaim_checked (s := s.setRoster r) p hs).2
    refine ⟨hqueued, fun hfail => ⟨hblocked hfail, ?_⟩⟩
    rcases State.tryClaim_spec p (s.setRoster r) with ⟨hpass, -⟩ | ⟨-, h⟩
    · exact absurd hpass (Nat.not_le.2 hfail)
    · rw [h]; rfl
  · have hcheck : ¬((s.setRoster r).port.claimCurrent || (s.setRoster r).budgetPasses p) = true := by
      simp only [Bool.or_eq_true, not_or, Bool.not_eq_true]
      exact ⟨hcur, decide_eq_false (Nat.not_le.2 hfail)⟩
    have hwire : (s.setRoster r).port.claimOnWire = false := by simp [LinePort.claimOnWire, hcur]
    rw [rosterChanged_rose hlt, sumRose_of_queued (hstate.trans hc) hprofile, if_neg hcheck, cancelClaim_of_not_onWire hwire]
    exact ⟨rfl, withoutClaim_free s.port, fun n hq hn htx => withoutClaim_of_alone hcur hq hn htx⟩
  · have hcheck : ((s.setRoster r).port.claimCurrent || (s.setRoster r).budgetPasses p) = true := by
      rw [Bool.or_eq_true]
      exact hok.imp id fun h => decide_eq_true h
    rw [rosterChanged_rose hlt, sumRose_of_queued (hstate.trans hc) hprofile, if_pos hcheck]
    exact ⟨hc, rfl⟩
  · have hsame : s.rosterChanged r = s.setRoster r := by
      rcases lt_trichotomy (budgetSum r) (budgetSum s.claim.roster) with hlt | heq | hgt
      · rw [rosterChanged_fell hlt, sumFell_of_other]
        rw [hstate]
        intro hb
        rcases hcase with h | ⟨h, -⟩ | ⟨-, h⟩ | ⟨h, -⟩
        · omega
        · omega
        · simp [hb] at h
        · exact h hb
      · exact rosterChanged_same heq
      · rw [rosterChanged_rose hgt, sumRose_of_other]
        rw [hstate]
        intro hqu
        rcases hcase with h | ⟨-, h⟩ | ⟨h, -⟩ | ⟨-, h⟩
        · omega
        · simp [hqu] at h
        · omega
        · exact h hqu
    rw [hsame]
    exact ⟨rfl, rfl⟩

/-! ### The end of a run in WAITING (R59) -/

/-- What the end of the part in WAITING leaves of the own claim, and of the port that the claim logic found. -/
structure ClaimRunEnded (s t : State) : Prop where
  stopped : s.claim.state = .blocked ∨ (∃ d, s.claim.state = .held d) → t.claim.state = .idle
  removed : s.claim.state = .queued → s.port.claimOnWire = false → t.claim.state = .idle ∧ ∀ n ∈ t.port.queue, n.isClaim = false
  marked : s.claim.state = .queued → s.port.claimOnWire = true →
    t.claim.state = .cancellingEnd ∧ t.port.cancelAsked = true ∧ t.port.queue.head? = s.port.queue.head? ∧ t.port.tx = s.port.tx
  cancelling : (∃ d, s.claim.state = .cancellingSag d) → t.claim.state = .cancellingEnd
  atRest : s.claim.state = .cancellingEnd ∨ s.claim.state = .idle → t.claim.state = s.claim.state

theorem claimRunEnding_ended (s : State) : ClaimRunEnded s s.claimRunEnding := by
  refine ⟨fun hc => ?_, fun hc hw => ?_, fun hc hw => ?_, fun hc => ?_, fun hc => ?_⟩
  · rcases hc with hc | ⟨d, hc⟩ <;> simp only [State.claimRunEnding, hc] <;> rfl
  · have h : s.claimRunEnding = (s.setPort s.port.withoutClaim).setClaimState .idle := by
      simp [State.claimRunEnding, hc, hw, cancelClaim_of_not_onWire hw]
    rw [h]
    exact ⟨rfl, withoutClaim_free s.port⟩
  · rw [claimRunEnding_of_onWire hc hw]
    exact ⟨rfl, rfl, rfl, rfl⟩
  · obtain ⟨d, hc⟩ := hc
    simp only [State.claimRunEnding, hc]
    rfl
  · rcases hc with hc | hc <;> simp only [State.claimRunEnding, hc]

/-- Whether the own CLAIM is on the wire does not change as a notice joins the tail of the queue. -/
theorem accepting_claimOnWire {n : Notice} (hn : n.isClaim = false) (x : LinePort) : (x.accepting n).claimOnWire = x.claimOnWire := by
  have hwire : (x.accepting n).onWire = x.onWire := by
    cases htx : x.tx <;> simp [LinePort.onWire, LinePort.accepting, htx]
  have hcur : (x.accepting n).claimCurrent = x.claimCurrent := by
    cases hq : x.queue <;> simp [LinePort.claimCurrent, LinePort.accepting, hq, hn]
  rw [LinePort.claimOnWire, LinePort.claimOnWire, hwire, hcur]

/-- The claim logic finds claim and port as they were, or the port with another notice at the tail of its queue. -/
theorem ClaimRunEnded.of_found (h : ClaimRunEnded u t) (hc : u.claim = s.claim)
    (hport : u.port = s.port ∨ ∃ n, n.isClaim = false ∧ u.port = s.port.accepting n) : ClaimRunEnded s t := by
  obtain ⟨hstopped, hremoved, hmarked, hcancelling, hrest⟩ := h
  rw [hc] at hstopped hremoved hmarked hcancelling hrest
  have hwire : u.port.claimOnWire = s.port.claimOnWire := by
    rcases hport with h | ⟨n, hn, h⟩ <;> rw [h]
    exact accepting_claimOnWire hn s.port
  rw [hwire] at hremoved hmarked
  refine ⟨hstopped, hremoved, fun hq hw => ?_, hcancelling, hrest⟩
  obtain ⟨hend, hasked, hhead, htx⟩ := hmarked hq hw
  refine ⟨hend, hasked, ?_⟩
  rw [hhead, htx]
  rcases hport with h | ⟨n, hn, h⟩ <;> rw [h]
  · exact ⟨rfl, rfl⟩
  · cases hqueue : s.port.queue <;> cases htx : s.port.tx <;>
      simp [LinePort.claimOnWire, LinePort.claimCurrent, LinePort.onWire, LinePort.accepting, hqueue, htx] at hw ⊢

/-- The run has ended in OFF, with the roster as it was and the claim logic told once. -/
structure EndedInWaiting (s t : State) : Prop extends ClaimRunEnded s t where
  phase : t.seq.phase = .off
  roster : t.claim.roster = s.claim.roster

/-- A claim logic told in `u`, and an end of the run that leaves claim and port as it left them. -/
theorem endedInWaiting_of_told (hphase : t.seq.phase = .off) (hclaim : t.claim = u.claimRunEnding.claim) (hport : t.port = u.claimRunEnding.port)
    (hc : u.claim = s.claim) (hp : u.port = s.port ∨ ∃ n, n.isClaim = false ∧ u.port = s.port.accepting n) : EndedInWaiting s t := by
  obtain ⟨hstopped, hremoved, hmarked, hcancelling, hrest⟩ := (claimRunEnding_ended u).of_found hc hp
  rw [← hclaim] at hstopped hremoved hmarked hcancelling hrest
  rw [← hport] at hremoved hmarked
  refine ⟨⟨hstopped, hremoved, hmarked, hcancelling, hrest⟩, hphase, ?_⟩
  obtain ⟨x, c, h, hroster⟩ := claimRunEnding_eq u
  rw [hclaim, h, ← hc]
  exact hroster

theorem abortNoted_port (s : State) : (abortNoted s).port = s.port ∨ ∃ n, n.isClaim = false ∧ (abortNoted s).port = s.port.accepting n := by
  have h : (abortNoted s).port = ((s.setLastOrder .accepted).setCondition .aborted).port := by simp [abortNoted]
  rw [h]
  obtain ⟨-, -, -, -, -, h | ⟨-, -, -, -, h⟩⟩ := State.setCondition_spec .aborted (s.setLastOrder .accepted)
  · exact .inl h
  · exact .inr ⟨_, rfl, h⟩

/-- A run-ending event in WAITING. -/
theorem runEnding_of_waiting {e : EndRequest} {reason : EndReason} (hw : s.seq.phase = .waiting) :
    runEnding e reason p s = s.claimRunEnding.endRun reason := by
  simp [runEnding, hw, partEnded]

theorem endRun_claim (reason : EndReason) (s : State) :
    (s.endRun reason).seq.phase = .off ∧ (s.endRun reason).claim = s.claim ∧ (s.endRun reason).port = s.port := by
  refine ⟨?_, by simp, by simp⟩
  rw [show (s.endRun reason).seq = s.enterOff.seq by simp [State.endRun]]
  simp [enterOff_seq]

theorem cutPower_of_waiting (hw : s.seq.phase = .waiting) : s.cutPower = s.claimRunEnding.enterOff := by
  simp only [State.cutPower, hw]

/-- Each event that ends a run in WAITING tells the claim logic once (R59). -/
theorem endedInWaiting_of_endsInWaiting {c : Instr} (h : EndsInWaiting c s p) : ∃ t, exec c s = .next t ∧ EndedInWaiting s t := by
  obtain ⟨hw, hst, hp, ⟨r, habort⟩ | ⟨rfl, hdue⟩ | ⟨rfl, hdue⟩ | ⟨rfl, hclose⟩⟩ := h
  · obtain ⟨hexec, -, x, rfl⟩ := exec_abortFinds habort
    refine ⟨_, hexec, ?_⟩
    rw [takeAbortOrder_of_running (s := s.setPanel x) hst hp, acceptAbort_eq, runEnding_of_waiting (by simpa using hw)]
    obtain ⟨hoff, hclaim, hport⟩ := endRun_claim .aborted (abortNoted (s.setPanel x)).claimRunEnding
    exact endedInWaiting_of_told hoff hclaim hport (by simp) (abortNoted_port (s.setPanel x))
  · refine ⟨_, rfl, ?_⟩
    rw [State.trayRemoval, if_pos ((State.edgeDue_iff _ _ _).2 hdue)]
    have hrun : s.flipSeat.run.state = .running := hst
    rw [State.trayGone, hrun]
    dsimp only
    refine endedInWaiting_of_told (u := s.flipSeat) ?_ ?_ ?_ rfl (.inl rfl) <;> simp [State.abandonRun, cutPower_of_waiting (s := s.flipSeat) hw, enterOff_seq]
  · refine ⟨_, rfl, ?_⟩
    rw [State.fixtureChange, if_pos ((State.edgeDue_iff _ _ _).2 hdue)]
    refine endedInWaiting_of_told (u := s.flipFixture) ?_ ?_ ?_ rfl (.inl rfl) <;>
      simp [State.fixtureGone, cutPower_of_waiting (s := s.flipFixture) hw, enterOff_seq]
  · obtain ⟨o, rest, r, ho, hr, hdue, -⟩ := id hclose
    obtain ⟨v, hv, hstops, -⟩ := occurrenceClose_of_due hp ho hr hdue
    have hclosed : (s.closeOccurrence p o rest).seq.phase = .waiting := by simpa using hw
    refine ⟨_, rfl, ?_⟩
    rw [hv, hstops hclose, runEnding_of_waiting hclosed, closingAdvance_eq]
    obtain ⟨hoff, hclaim, hport⟩ := endRun_claim .stopped (s.closeOccurrence p o rest).claimRunEnding
    exact endedInWaiting_of_told hoff hclaim hport (by simp) (.inl (by simp))

/-! ### The end of CANCELLING (R57) -/

theorem cancellingSagEnds_of_runOut {d : Time} (hp : s.profile = some p) (hd : 0 ≤ (s.clock - d).toInt) : s.cancellingSagEnds d = s.tryClaim p := by
  simp [State.cancellingSagEnds, hp, (expired_iff _ _).2 hd]

theorem cancellingSagEnds_of_running {d : Time} (hd : (s.clock - d).toInt < 0) : s.cancellingSagEnds d = s.setClaimState (.held d) := by
  have hnot : ¬expired s.clock d = true := by rw [expired_iff]; omega
  unfold State.cancellingSagEnds
  split <;> simp [hnot]

theorem cancellingEndEnds_of_waiting (hp : s.profile = some p) (hw : s.seq.phase = .waiting) :
    s.cancellingEndEnds = (s.setClaimState .idle).beginContest p := by
  simp only [State.cancellingEndEnds, hp, hw]

/-- A CLAIM in CANCELLING answered by its WITHDRAW: what its end checks, it checks on the state with the WITHDRAW queued. -/
theorem handWithdraw_claimStep (hs : s.port.stationId ≠ 0#5) :
    ClaimStep s s.handWithdraw ∧ s.handWithdraw.claim = s.claim ∧ ∃ m ∈ s.handWithdraw.port.queue, m.content = .withdraw ∧ m.target = 0#8 := by
  obtain ⟨hstep, hclaim, hmem⟩ := handStep_claimStep (Notice.fresh .withdraw 0#8 s.clock) hs
  exact ⟨hstep, hclaim, _, hmem, rfl, rfl⟩

/-- The end of CANCELLING for a sag whose hold has run out, and the end of CANCELLING at a run's end with a WAITING entry deferred. -/
structure CancellingEnded (p : Profile) (s t : State) : Prop where
  step : ClaimStep s t
  sag : ∀ d, s.claim.state = .cancellingSag d → 0 ≤ (s.clock - d).toInt → BudgetChecked p s t
  runEnd : s.claim.state = .cancellingEnd → s.seq.phase = .waiting → Contested p s t

theorem CancellingEnded.of_claimStep (h : ClaimStep s u) (hc : u.claim = s.claim) (k : CancellingEnded p u t) : CancellingEnded p s t := by
  obtain ⟨hstep, hsag, hend⟩ := k
  rw [hc] at hsag hend
  rw [h.clock] at hsag
  rw [h.seq] at hend
  exact ⟨h.trans hstep, fun d hd he => BudgetChecked.of_claimStep h (hsag d hd he), fun hd hw => Contested.of_claimStep h (hend hd hw)⟩

theorem cancellingSagEnds_claimStep (hs : s.port.stationId ≠ 0#5) (d : Time) : ClaimStep s (s.cancellingSagEnds d) := by
  have hheld := setClaimState_claimStep (.held d) s
  unfold State.cancellingSagEnds
  split
  · split
    · exact (tryClaim_checked _ hs).1
    · exact hheld
  · exact hheld

theorem cancellingEndEnds_claimStep (hs : s.port.stationId ≠ 0#5) : ClaimStep s s.cancellingEndEnds := by
  have hidle := setClaimState_claimStep .idle s
  unfold State.cancellingEndEnds
  split
  · exact hidle.trans (beginContest_contested (s := s.setClaimState .idle) _ hs).1
  · exact hidle

/-- The end of CANCELLING, as completion and cancellation have it in common (R57). -/
theorem claimCancelled_cancellingEnded (hs : s.port.stationId ≠ 0#5) (hp : s.profile = some p) : CancellingEnded p s s.claimCancelled := by
  have hsag : ∀ d, s.claim.state = .cancellingSag d → s.claimCancelled = s.cancellingSagEnds d := fun d hd => by
    simp only [State.claimCancelled, hd]
  refine ⟨?_, fun d hd he => ?_, fun hd hw => ?_⟩
  · cases hc : s.claim.state with
    | cancellingSag d => rw [hsag d hc]; exact cancellingSagEnds_claimStep hs d
    | cancellingEnd => rw [claimCancelled_of_end hc]; exact cancellingEndEnds_claimStep hs
    | idle | blocked | held | queued | standing => simp only [State.claimCancelled, hc]; exact .refl s
  · rw [hsag d hd, cancellingSagEnds_of_runOut hp he]
    exact (tryClaim_checked p hs).2
  · rw [claimCancelled_of_end hd, cancellingEndEnds_of_waiting hp hw]
    exact Contested.of_claimStep (setClaimState_claimStep .idle s) (beginContest_contested (s := s.setClaimState .idle) p hs).2

/-- In CANCELLING a completed CLAIM ends as a cancelled one does, behind its WITHDRAW (R57). -/
theorem claimCompleted_of_cancelling (hs : s.port.stationId ≠ 0#5) (hc : (∃ d, s.claim.state = .cancellingSag d) ∨ s.claim.state = .cancellingEnd) :
    s.claimCompleted = s.handWithdraw.claimCancelled := by
  obtain ⟨-, hclaim, -⟩ := handWithdraw_claimStep hs
  rcases hc with ⟨d, hc⟩ | hc <;> simp only [State.claimCompleted, State.claimCancelled, hclaim, hc]

/-- The end of CANCELLING by completion, with the WITHDRAW that answers the CLAIM. -/
theorem claimCompleted_cancellingEnded (hs : s.port.stationId ≠ 0#5) (hp : s.profile = some p)
    (hc : (∃ d, s.claim.state = .cancellingSag d) ∨ s.claim.state = .cancellingEnd) :
    CancellingEnded p s s.claimCompleted ∧ ∃ m ∈ s.claimCompleted.port.queue, m.content = .withdraw ∧ m.target = 0#8 := by
  obtain ⟨hstep, hclaim, m, hm, hcontent⟩ := handWithdraw_claimStep hs
  have hended := claimCancelled_cancellingEnded (p := p) (by rw [hstep.stationId]; exact hs) (hstep.profile.trans hp)
  rw [claimCompleted_of_cancelling hs hc]
  exact ⟨hended.of_claimStep hstep hclaim, m, hended.step.queue m hm, hcontent⟩

end

/-- Settles O16: by the sum's change, by the event that ends the run, and by the reason of CANCELLING. -/
theorem claimFollowsBudget : Obligations.ClaimFollowsBudget := by
  unfold Obligations.ClaimFollowsBudget
  refine ⟨fun c h s p hr hp hc => ?_, fun c s p hc => ?_, fun s p b bt f n q alertFirst hs hp htx hq hbt hn hc => ?_,
    fun s p e bt n q alertFirst hs hp htx hq hbt hn ha => ?_⟩
  · obtain ⟨r, hexec⟩ := exec_rosterNotice hr hc
    obtain ⟨hfell, hrose, hkept, hother⟩ := rosterChanged_followed hr.1.1 hp r
    exact ⟨_, hexec, hfell, hrose, hkept, hother⟩
  · obtain ⟨t, hexec, ⟨hstopped, hremoved, hmarked, hcancelling, hrest⟩, hphase, hroster⟩ := endedInWaiting_of_endsInWaiting hc
    exact ⟨t, hexec, hphase, hroster, hstopped, hremoved, hmarked, hcancelling, hrest⟩
  · obtain ⟨hended, hwithdraw⟩ := claimCompleted_cancellingEnded (s := { s with port := s.port.headGone (b + 8 * f.length) q }) hs hp
      (hc.imp (fun ⟨d, hd, _⟩ => ⟨d, hd⟩) And.left)
    refine ⟨_, rfl, ?_⟩
    rw [attemptCompletion_of_sent alertFirst htx hq hbt, if_pos hn]
    refine ⟨hended.step.seq, hended.step.roster, hwithdraw, fun hend => ?_, fun hend => ?_⟩
    · exact hended.runEnd hend (hc.resolve_left (by simp [hend])).2
    · obtain ⟨d, hd, he⟩ := hc.resolve_right (fun h => hend h.1)
      exact hended.sag d hd he
  · have hended := claimCancelled_cancellingEnded (s := { s with port := s.port.headGone e q }) (p := p) hs hp
    refine ⟨_, rfl, ?_⟩
    rw [jamEnd_of_ended alertFirst htx hq hbt, jamOver_cancelled hq hn ha]
    refine ⟨hended.step.seq, hended.step.roster, fun d hd he => ?_, fun d hd he => hended.sag d hd he, fun hend hw => hended.runEnd hend hw⟩
    have hheld : State.claimCancelled { s with port := s.port.headGone e q } = State.setClaimState (.held d) { s with port := s.port.headGone e q } := by
      rw [← cancellingSagEnds_of_running (s := { s with port := s.port.headGone e q }) he]
      simp only [State.claimCancelled, hd]
    rw [hheld]
    exact ⟨rfl, rfl⟩

end Sys2Proof.Proofs
end

section
/-! # Scope: a fault report as FRAMING_ERROR makes it: its record, its occurrence and what both hand over (R101, R116, R118 to R124, R126, R140, R141, R152, R153) -/

namespace Sys2Proof.Proofs

open Sys2Proof.Machine

/-! ### What a hand-over reads -/

/-- Two states in which the run controller, the line port and the clock are the same: a notice or a condition is handed over alike. -/
structure HandsAlike (s u : State) : Prop where
  run : u.run = s.run
  port : u.port = s.port
  clock : u.clock = s.clock

theorem HandsAlike.refl (s : State) : HandsAlike s s := ⟨rfl, rfl, rfl⟩

theorem HandsAlike.trans {s t u : State} (h : HandsAlike s t) (k : HandsAlike t u) : HandsAlike s u :=
  ⟨k.run.trans h.run, k.port.trans h.port, k.clock.trans h.clock⟩

section
variable {s u : State}

theorem HandsAlike.setCondition (h : HandsAlike s u) (c : Condition) : HandsAlike (s.setCondition c) (u.setCondition c) := by
  obtain ⟨hrun, hport⟩ := setCondition_agree c h.run h.port h.clock
  exact ⟨hrun, hport, by simpa using h.clock⟩

theorem HandsAlike.handNotice (h : HandsAlike s u) (n : Notice) : HandsAlike (s.handNotice n).1 (u.handNotice n).1 := by
  obtain ⟨hport, -, -⟩ := handNotice_agree n h.port (by rw [h.run]) (by rw [h.run])
  refine ⟨?_, hport, by simpa using h.clock⟩
  obtain ⟨halone, hroom, hfull⟩ := State.handNotice_handed n s
  obtain ⟨halone', hroom', hfull'⟩ := State.handNotice_handed n u
  by_cases hid : s.port.stationId = 0#5
  · rw [(halone hid).2, (halone' (by rw [h.port]; exact hid)).2]
    exact h.run
  · have hid' : u.port.stationId ≠ 0#5 := by rw [h.port]; exact hid
    by_cases hr : Room s
    · rw [(hroom hid hr).2, (hroom' hid' (by unfold Room; rw [h.port]; exact hr)).2]
      exact h.run
    · rw [(hfull hid hr).2, (hfull' hid' (by unfold Room; rw [h.port]; exact hr)).2]
      exact congrArg RunControl.refused h.run

end

/-! ### A new occurrence and the stored echoes (R140, R141) -/

theorem matches_iff (p : Profile) (e : Echo) (o : Occurrence) :
    e.matches p o = true ↔ ((e.eventTime - o.time).toInt).natAbs ≤ p.window + e.allowance ∧ (e.kind = .sighting o.sig ∨ e.kind = .sag) := by
  unfold Echo.matches
  cases hk : e.kind <;> simp [within, signedDiff]

/-- What one echo adds to an occurrence: its source or the sag flag, where it matches. -/
theorem matchedBy_spec (p : Profile) (e : Echo) (o : Occurrence) :
    (o.matchedBy p e).sig = o.sig ∧ (o.matchedBy p e).time = o.time ∧ (o.matchedBy p e).closeTime = o.closeTime
      ∧ (∀ b, b ∈ (o.matchedBy p e).matched ↔ b ∈ o.matched ∨ (e.kind = .sighting o.sig ∧ e.source = b
          ∧ ((e.eventTime - o.time).toInt).natAbs ≤ p.window + e.allowance))
      ∧ ((o.matchedBy p e).sagFlag = true ↔ o.sagFlag = true ∨ (e.kind = .sag
          ∧ ((e.eventTime - o.time).toInt).natAbs ≤ p.window + e.allowance)) := by
  have hm := matches_iff p e o
  unfold Occurrence.matchedBy
  by_cases hmatch : e.matches p o = true
  · obtain ⟨hnear, hk | hk⟩ := hm.1 hmatch
    · rw [if_pos hmatch, hk]
      refine ⟨rfl, rfl, rfl, fun b => ?_, ?_⟩
      · simp only [mem_addMember, hnear, and_true, true_and, eq_comm]
      · simp only [reduceCtorEq, false_and, or_false]
    · rw [if_pos hmatch, hk]
      refine ⟨rfl, rfl, rfl, fun b => ?_, ?_⟩
      · simp only [reduceCtorEq, false_and, or_false]
      · simp only [hnear, and_self, or_true]
  · rw [if_neg hmatch]
    refine ⟨rfl, rfl, rfl, fun b => ⟨.inl, ?_⟩, ⟨.inl, ?_⟩⟩
    · exact fun h => h.resolve_right fun ⟨hk, _, hnear⟩ => hmatch (hm.2 ⟨hnear, .inl hk⟩)
    · exact fun h => h.resolve_right fun ⟨hk, hnear⟩ => hmatch (hm.2 ⟨hnear, .inr hk⟩)

/-- What a scan over echoes leaves of an occurrence: times and signature, and what each matching echo adds. -/
theorem foldl_matchedBy (p : Profile) (l : List Echo) (o : Occurrence) :
    (l.foldl (fun o e => o.matchedBy p e) o).sig = o.sig ∧ (l.foldl (fun o e => o.matchedBy p e) o).time = o.time
      ∧ (l.foldl (fun o e => o.matchedBy p e) o).closeTime = o.closeTime
      ∧ (∀ b, b ∈ (l.foldl (fun o e => o.matchedBy p e) o).matched ↔ b ∈ o.matched ∨ ∃ e ∈ l, e.kind = .sighting o.sig ∧ e.source = b
          ∧ ((e.eventTime - o.time).toInt).natAbs ≤ p.window + e.allowance)
      ∧ ((l.foldl (fun o e => o.matchedBy p e) o).sagFlag = true ↔ o.sagFlag = true ∨ ∃ e ∈ l, e.kind = .sag
          ∧ ((e.eventTime - o.time).toInt).natAbs ≤ p.window + e.allowance) := by
  induction l generalizing o with
  | nil => simp
  | cons e l ih =>
    obtain ⟨hsig, htime, hclose, hmatched, hsag⟩ := matchedBy_spec p e o
    obtain ⟨ihsig, ihtime, ihclose, ihmatched, ihsag⟩ := ih (o.matchedBy p e)
    rw [hsig, htime] at ihmatched
    rw [htime] at ihsag
    refine ⟨ihsig.trans hsig, ihtime.trans htime, ihclose.trans hclose, fun b => ?_, ?_⟩
    · rw [List.foldl_cons, ihmatched, hmatched]
      simp [or_assoc]
    · rw [List.foldl_cons, ihsag, hsag]
      simp [or_assoc]

theorem newOccurrence_spec (p : Profile) (echoes : List Echo) (g : Sig) (t : Time) :
    (newOccurrence p echoes g t).sig = g ∧ (newOccurrence p echoes g t).time = t
      ∧ (newOccurrence p echoes g t).closeTime = t + BitVec.ofNat 32 (p.window + p.holdOff)
      ∧ (∀ b, b ∈ (newOccurrence p echoes g t).matched ↔ ∃ e ∈ echoes, e.kind = .sighting g ∧ e.source = b
          ∧ ((e.eventTime - t).toInt).natAbs ≤ p.window + e.allowance)
      ∧ ((newOccurrence p echoes g t).sagFlag = true ↔ ∃ e ∈ echoes, e.kind = .sag
          ∧ ((e.eventTime - t).toInt).natAbs ≤ p.window + e.allowance) := by
  obtain ⟨hsig, htime, hclose, hmatched, hsag⟩ := foldl_matchedBy p echoes
    { sig := g, time := t, closeTime := timeAfter t (p.window + p.holdOff), matched := [], sagFlag := false }
  exact ⟨hsig, htime, hclose, fun b => (hmatched b).trans (by simp only [List.not_mem_nil, false_or]),
    hsag.trans (by simp only [Bool.false_eq_true, false_or])⟩

/-! ### Steps 4 to 6 of a report (R122 to R124, R126) -/

section
variable (p : Profile) (g : Sig) (t : Time) (s : State)

/-- The state in which the SIGHTING of an occurrence is handed over: with the occurrence refused, OCC_FULL is set first. -/
def occurrenceOffered (s : State) : State := if s.judge.occurrences.length < 8 then s else s.setCondition .occFull

theorem offerOccurrence_room (h : s.judge.occurrences.length < 8) :
    s.offerOccurrence p g t = s.setJudge { s.judge with occurrences := s.judge.occurrences ++ [newOccurrence p s.judge.echoes g t] } := by
  rw [State.offerOccurrence, if_pos (show _ < occurrenceLimit from h)]

theorem offerOccurrence_full (h : ¬s.judge.occurrences.length < 8) :
    s.offerOccurrence p g t = (s.updateRecord g Record.leftUnjudged).setCondition .occFull := by
  rw [State.offerOccurrence, if_neg (show ¬_ < occurrenceLimit from h)]

theorem offerOccurrence_alike : HandsAlike (occurrenceOffered s) (s.offerOccurrence p g t) := by
  unfold occurrenceOffered
  split
  · next h => rw [offerOccurrence_room p g t s h]; exact ⟨rfl, rfl, rfl⟩
  · next h =>
    rw [offerOccurrence_full p g t s h]
    exact HandsAlike.setCondition (s := s) (u := s.updateRecord g Record.leftUnjudged) ⟨rfl, rfl, rfl⟩ _

theorem announceOccurrence_alike :
    HandsAlike ((occurrenceOffered s).handNotice (Notice.fresh (.sighting g s.seq.cycle s.seq.phase.code) 0#8 t)).1 (s.announceOccurrence p g t) := by
  have h := (offerOccurrence_alike p g t s).handNotice (Notice.fresh (.sighting g s.seq.cycle s.seq.phase.code) 0#8 t)
  rw [show s.seq = (s.offerOccurrence p g t).seq by simp] at h ⊢
  exact h.trans ⟨rfl, rfl, rfl⟩

theorem announceOccurrence_table :
    (s.announceOccurrence p g t).table =
      { (if s.judge.occurrences.length < 8 then s.table else s.table.update g Record.leftUnjudged) with mask := s.table.mask ||| (1#64 <<< hash6 g) } := by
  by_cases h : s.judge.occurrences.length < 8
  · simp [State.announceOccurrence, State.setMaskBit, offerOccurrence_room p g t s h, h]
  · simp [State.announceOccurrence, State.setMaskBit, offerOccurrence_full p g t s h, h, State.updateRecord, SightingTable.update]

theorem announceOccurrence_judge :
    (s.announceOccurrence p g t).judge =
      if s.judge.occurrences.length < 8 then { s.judge with occurrences := s.judge.occurrences ++ [newOccurrence p s.judge.echoes g t] } else s.judge := by
  by_cases h : s.judge.occurrences.length < 8
  · simp [State.announceOccurrence, State.setMaskBit, offerOccurrence_room p g t s h, h]
  · simp [State.announceOccurrence, State.setMaskBit, offerOccurrence_full p g t s h, h, State.updateRecord]

/-- Whether the store answers a trigger MISSED (R152, R153). -/
def Missed (s : State) : Prop := s.store.engine ≠ .idle ∨ ∀ i, i < 8 → s.store.slots.get i ≠ none

theorem lowestEmpty_eq_none_iff (st : SnapshotStore) : st.lowestEmpty = none ↔ ∀ i, i < 8 → st.slots.get i ≠ none := by
  have hlist : st.lowestEmpty = none ↔ ∀ x ∈ st.slots.toList, x ≠ none := by
    simp [SnapshotStore.lowestEmpty, List.findIdx?_eq_none_iff, Option.isSome_iff_ne_none]
  rw [hlist]
  constructor
  · intro h i hi
    interval_cases i <;> exact h _ (by simp [Eight.toList, Eight.get])
  · intro h x hx
    simp only [Eight.toList, List.mem_cons, List.not_mem_nil, or_false] at hx
    rcases hx with rfl | rfl | rfl | rfl | rfl | rfl | rfl | rfl
    exacts [h 0 (by omega), h 1 (by omega), h 2 (by omega), h 3 (by omega), h 4 (by omega), h 5 (by omega), h 6 (by omega), h 7 (by omega)]

theorem trigger_of_missed (h : Missed s) : s.trigger p g t = (s.snapshotMissed g, .missed) := by
  rw [Missed, ← lowestEmpty_eq_none_iff] at h
  unfold State.trigger
  split
  · next he hl =>
    rcases h with h | h
    · exact absurd he h
    · simp [hl] at h
  · rfl

theorem captureRequest_alike : HandsAlike s s.captureRequest := by
  unfold State.captureRequest
  (repeat' split) <;> exact ⟨rfl, rfl, rfl⟩

theorem beginCapture_alike (i : Nat) : HandsAlike s (s.beginCapture p g t i) := (captureRequest_alike s).trans ⟨rfl, rfl, rfl⟩

theorem trigger_of_slot (h : ¬Missed s) : HandsAlike s (s.trigger p g t).1 := by
  rw [Missed, ← lowestEmpty_eq_none_iff, not_or, not_not] at h
  unfold State.trigger
  split
  · exact beginCapture_alike p g t s _
  · next hno =>
    obtain ⟨i, hi⟩ := Option.ne_none_iff_exists'.1 h.2
    exact absurd hi (hno i h.1)

/-- The state that a trigger of the first occurrence leaves, as far as a hand-over reads it: a MISSED answer sets SNAP_MISSED. -/
theorem triggerSnapshot_alike :
    ((p.classOf g).snapshot = true ∧ Missed s → HandsAlike (s.setCondition .snapMissed) (s.triggerSnapshot p g t))
      ∧ (¬((p.classOf g).snapshot = true ∧ Missed s) → HandsAlike s (s.triggerSnapshot p g t)) := by
  unfold State.triggerSnapshot
  refine ⟨fun ⟨hsnap, hmissed⟩ => ?_, fun hno => ?_⟩
  · rw [if_pos hsnap, trigger_of_missed p g t s hmissed]
    have h : HandsAlike (s.setCondition .snapMissed) (s.snapshotMissed g) := by
      refine HandsAlike.setCondition ?_ _
      exact ⟨rfl, rfl, rfl⟩
    exact h.trans ⟨rfl, rfl, rfl⟩
  · split
    · next hsnap => exact (trigger_of_slot p g t s fun hm => hno ⟨hsnap, hm⟩).trans ⟨rfl, rfl, rfl⟩
    · exact .refl s

theorem triggerSnapshot_table :
    (s.triggerSnapshot p g t).table = if (p.classOf g).snapshot then s.table.update g (fun r => { r with snapshot := (s.trigger p g t).2 }) else s.table := by
  unfold State.triggerSnapshot
  split
  · next h =>
    have htable : (s.trigger p g t).1.table = s.table := by simp
    exact congrArg (SightingTable.update g _) htable
  · rfl

end

/-! ### The three ends of a report (R119 to R122) -/

/-- A record of a signature created at the end of the creation order (R119). -/
def recordCreated (g : Sig) (s : State) : State :=
  s.setTable { s.table with records := s.table.records ++ [Record.created g s.clock s.seq.cycle s.seq.phase] }

section
variable {p : Profile} {g : Sig} {s : State}

theorem faultReport_created (hfind : s.table.find g = none) (hroom : s.table.records.length < 48) :
    s.faultReport p g s.clock = ((recordCreated g s).announceOccurrence p g s.clock).triggerSnapshot p g s.clock := by
  simp only [State.faultReport, hfind]
  exact if_pos hroom

theorem faultReport_lost (hfind : s.table.find g = none) (hfull : 48 ≤ s.table.records.length) : s.faultReport p g s.clock = s.loseReport g := by
  simp only [State.faultReport, hfind]
  exact if_neg (Nat.not_lt.2 hfull)

theorem faultReport_repeated {r : Record} (hfind : s.table.find g = some r) (hearly : (s.clock - r.lastOccurrence).toInt < p.rearm) :
    s.faultReport p g s.clock = s.updateRecord g (Record.repeated s.clock) := by
  simp only [State.faultReport, hfind]
  exact if_pos hearly

theorem faultReport_opened {r : Record} (hfind : s.table.find g = some r) (hdue : p.rearm ≤ (s.clock - r.lastOccurrence).toInt) :
    s.faultReport p g s.clock = (s.updateRecord g (Record.opened s.clock)).announceOccurrence p g s.clock := by
  simp only [State.faultReport, hfind]
  exact if_neg (Int.not_lt.2 hdue)

theorem ne_of_find_none {x : SightingTable} (h : x.find g = none) : ∀ r ∈ x.records, r.sig ≠ g := by
  simpa [SightingTable.find] using h

/-- A change of the one record of a signature, at the end of the creation order. -/
theorem update_records_last {x : SightingTable} {l : List Record} {r : Record} (hx : x.records = l ++ [r]) (hl : ∀ r ∈ l, r.sig ≠ g)
    (hr : r.sig = g) (f : Record → Record) : (x.update g f).records = l ++ [f r] := by
  have hmap : l.map (fun r => if r.sig = g then f r else r) = l :=
    (List.map_congr_left fun r h => if_neg (hl r h)).trans (List.map_id' l)
  simp [SightingTable.update, hx, hr, hmap]

/-- What an announced occurrence leaves of the one record of its signature, at the end of the creation order. -/
theorem announceOccurrence_records_last {u : State} {l : List Record} {r : Record} (hu : u.table.records = l ++ [r]) (hl : ∀ r ∈ l, r.sig ≠ g)
    (hr : r.sig = g) (t : Time) :
    (u.announceOccurrence p g t).table.records = l ++ [if u.judge.occurrences.length < 8 then r else r.leftUnjudged] := by
  rw [announceOccurrence_table]
  dsimp only
  split
  · exact hu
  · exact update_records_last hu hl hr _

/-- The record that the report of a new signature leaves (R116, R119, R122, R126). -/
def recordReported (p : Profile) (g : Sig) (s : State) : Record :=
  let opened := Record.created g s.clock s.seq.cycle s.seq.phase
  let offered := if s.judge.occurrences.length < 8 then opened else opened.leftUnjudged
  if (p.classOf g).snapshot then { offered with snapshot := (((recordCreated g s).announceOccurrence p g s.clock).trigger p g s.clock).2 } else offered

theorem recordReported_spec :
    recordReported p g s = { Record.created g s.clock s.seq.cycle s.seq.phase with
        unjudged := if s.judge.occurrences.length < 8 then 0 else 1, snapshot := (recordReported p g s).snapshot }
      ∧ ((p.classOf g).snapshot = false → (recordReported p g s).snapshot = .absent) := by
  unfold recordReported
  by_cases hroom : s.judge.occurrences.length < 8 <;> by_cases hsnap : (p.classOf g).snapshot = true <;>
    simp [hroom, hsnap, Record.leftUnjudged, Record.created, satInc]

theorem created_records (hfind : s.table.find g = none) (hroom : s.table.records.length < 48) :
    (s.faultReport p g s.clock).table.records = s.table.records ++ [recordReported p g s] := by
  have hnew := ne_of_find_none hfind
  have hannounced := announceOccurrence_records_last (p := p) (u := recordCreated g s) rfl hnew rfl s.clock
  rw [faultReport_created hfind hroom, triggerSnapshot_table]
  unfold recordReported
  split
  · refine update_records_last hannounced hnew ?_ _
    split <;> rfl
  · exact hannounced

theorem created_mask (hfind : s.table.find g = none) (hroom : s.table.records.length < 48) :
    (s.faultReport p g s.clock).table.mask = s.table.mask ||| (1#64 <<< hash6 g) := by
  rw [faultReport_created hfind hroom, triggerSnapshot_table]
  split <;> simp [SightingTable.update, announceOccurrence_table, recordCreated]

theorem hash6_lt (g : Sig) : hash6 g < 64 := by
  rw [hash6, BitVec.toNat_ushiftRight, Nat.shiftRight_eq_div_pow]
  have := (crc16 (be16 g)).isLt
  omega

theorem maskBit_getLsbD (m : BitVec 64) (g : Sig) {h : Nat} (hh : h < 64) :
    (m ||| (1#64 <<< hash6 g)).getLsbD h = (m.getLsbD h || decide (h = hash6 g)) := by
  have hlt := hash6_lt g
  rw [BitVec.getLsbD_or, BitVec.getLsbD_shiftLeft]
  congr 1
  by_cases heq : h = hash6 g
  · simp [heq, hlt]
  · rcases lt_or_gt_of_ne heq with hlt' | hgt
    · simp [heq, hlt']
    · have : h - hash6 g ≠ 0 := by omega
      simp [heq, this, hh]

/-- The record of a known signature, after its new occurrence has been announced. -/
theorem opened_find {r : Record} (hfind : s.table.find g = some r) (hdue : p.rearm ≤ (s.clock - r.lastOccurrence).toInt) :
    (s.faultReport p g s.clock).table.find g
      = some (if s.judge.occurrences.length < 8 then r.opened s.clock else (r.opened s.clock).leftUnjudged) := by
  have hopened : (s.table.update g (Record.opened s.clock)).find g = some (r.opened s.clock) := by
    rw [SightingTable.find_update_same g (Record.opened s.clock) fun _ => rfl, hfind]
    rfl
  rw [faultReport_opened hfind hdue, announceOccurrence_table]
  change SightingTable.find g (if s.judge.occurrences.length < 8 then _ else _) = _
  split
  · exact hopened
  · exact (SightingTable.find_update_same g Record.leftUnjudged (fun _ => rfl) (s.table.update g (Record.opened s.clock))).trans (by rw [hopened]; rfl)

end

/-! ### FRAMING_ERROR (R101) -/

/-- The listener after a framing error. -/
def framingNoted (s : State) : State := s.setLis { s.lis with parser := .hunt, gapDeadline := none, idleFlag := false }

theorem exec_framingError {s : State} {p : Profile} (h : Hearing p s) :
    exec .framingError s = .next ((framingNoted s).faultReport p 0xA000#16 (framingNoted s).clock) := by
  obtain ⟨hp, hl, hi⟩ := h
  have hr : s.receives = true := by simp [State.receives, hl, hi]
  have hsig : signature 10 0 = 0xA000#16 := rfl
  simp only [exec, execFramingError, State.framingError, hp, hr, hsig]
  rfl

section
variable {s : State} {p : Profile}

/-- A report opens an occurrence: it is the first of its signature with room for a record, or one past the re-arm time (R121, R122). -/
def Opens (p : Profile) (g : Sig) (s : State) : Prop :=
  s.table.find g = none ∧ s.table.records.length < 48 ∨ ∃ r, s.table.find g = some r ∧ p.rearm ≤ (s.clock - r.lastOccurrence).toInt

/-- The state that the SIGHTING of an occurrence leaves, as far as a hand-over reads it (R122, R123). -/
def sightingHanded (g : Sig) (s : State) : State :=
  ((occurrenceOffered s).handNotice (handedAs (.sighting g s.seq.cycle s.seq.phase.code) 0#8 s)).1

/-- The report's changes of the table do not show in the hand-over. -/
theorem sightingHanded_alike {g : Sig} {u : State} (h : HandsAlike s u) (hjudge : u.judge = s.judge) (hseq : u.seq = s.seq) :
    HandsAlike (sightingHanded g s) (u.announceOccurrence p g s.clock) := by
  have hoffered : HandsAlike (occurrenceOffered s) (occurrenceOffered u) := by
    unfold occurrenceOffered
    rw [hjudge]
    split
    · exact h
    · exact h.setCondition _
  have hannounced := announceOccurrence_alike p g s.clock u
  rw [hseq] at hannounced
  exact (hoffered.handNotice _).trans hannounced

/-- Two states that hand over alike, with the same queue of occurrences, hand the SIGHTING over alike. -/
theorem sightingHanded_congr (g : Sig) {u : State} (h : HandsAlike s u) (hjudge : u.judge = s.judge) (hseq : u.seq = s.seq) :
    HandsAlike (sightingHanded g s) (sightingHanded g u) := by
  have hoffered : HandsAlike (occurrenceOffered s) (occurrenceOffered u) := by
    unfold occurrenceOffered
    rw [hjudge]
    split
    · exact h
    · exact h.setCondition _
  unfold sightingHanded
  rw [hseq, handedAs, handedAs, h.clock]
  exact hoffered.handNotice _

/-- What the report of an occurrence leaves of the blocks other than the table. -/
structure OccurrenceOpened (p : Profile) (g : Sig) (s t : State) : Prop where
  judge : t.judge =
    if s.judge.occurrences.length < 8 then { s.judge with occurrences := s.judge.occurrences ++ [newOccurrence p s.judge.echoes g s.clock] } else s.judge
  store : s.table.find g ≠ none ∨ (p.classOf g).snapshot = false → t.store = s.store ∧ t.freeIndex = s.freeIndex
  missed : SnapshotMissed p g s → HandsAlike ((sightingHanded g s).setCondition .snapMissed) t
  other : ¬SnapshotMissed p g s → HandsAlike (sightingHanded g s) t

theorem triggerSnapshot_none {g : Sig} (h : (p.classOf g).snapshot = false) (t : Time) (s : State) : s.triggerSnapshot p g t = s := by
  simp [State.triggerSnapshot, h]

theorem faultReport_occurrenceOpened {g : Sig} (h : Opens p g s) : OccurrenceOpened p g s (s.faultReport p g s.clock) := by
  rcases h with ⟨hfind, hroom⟩ | ⟨r, hfind, hdue⟩
  · rw [faultReport_created hfind hroom]
    have halike : HandsAlike (sightingHanded g s) ((recordCreated g s).announceOccurrence p g s.clock) :=
      sightingHanded_alike (u := recordCreated g s) ⟨rfl, rfl, rfl⟩ rfl rfl
    have hstore : ((recordCreated g s).announceOccurrence p g s.clock).store = s.store := by simp [recordCreated]
    obtain ⟨hmissed, hslot⟩ := triggerSnapshot_alike p g s.clock ((recordCreated g s).announceOccurrence p g s.clock)
    rw [Missed, hstore] at hmissed hslot
    refine ⟨?_, fun hno => ?_, fun ⟨_, hsnap, hm⟩ => (halike.setCondition _).trans (hmissed ⟨hsnap, hm⟩),
      fun hno => halike.trans (hslot fun ⟨hsnap, hm⟩ => hno ⟨hfind, hsnap, hm⟩)⟩
    · exact (by simp : _ = _).trans (announceOccurrence_judge p g s.clock (recordCreated g s))
    · rw [triggerSnapshot_none (hno.resolve_left fun hne => hne hfind)]
      exact ⟨hstore, by simp [recordCreated]⟩
  · rw [faultReport_opened hfind hdue]
    have halike : HandsAlike (sightingHanded g s) ((s.updateRecord g (Record.opened s.clock)).announceOccurrence p g s.clock) :=
      sightingHanded_alike (u := s.updateRecord g (Record.opened s.clock)) ⟨rfl, rfl, rfl⟩ rfl rfl
    refine ⟨announceOccurrence_judge p g s.clock (s.updateRecord g (Record.opened s.clock)), fun _ => by simp,
      fun ⟨hnone, _⟩ => ?_, fun _ => halike⟩
    rw [hfind] at hnone
    cases hnone

end

/-- The report's hand-over is told by the state in which the framing error came. -/
theorem OccurrenceOpened.of_framingNoted {g : Sig} {s t : State} {p : Profile} (h : OccurrenceOpened p g (framingNoted s) t) : OccurrenceOpened p g s t := by
  have halike : HandsAlike (sightingHanded g s) (sightingHanded g (framingNoted s)) := sightingHanded_congr g ⟨rfl, rfl, rfl⟩ rfl rfl
  exact ⟨h.judge, h.store, fun hm => (halike.setCondition _).trans (h.missed hm), fun hm => halike.trans (h.other hm)⟩

/-- The answer to the snapshot trigger, MISSED or not, as the last of what is handed over. -/
theorem OccurrenceOpened.answered {g : Sig} {s t : State} {p : Profile} (h : OccurrenceOpened p g s t) :
    ∃ w, (SnapshotMissed p g s → ConditionSet .snapMissed (sightingHanded g s) w) ∧ (¬SnapshotMissed p g s → w = sightingHanded g s)
      ∧ HandsAlike w t ∧ CondsRise (sightingHanded g s) w := by
  by_cases hm : SnapshotMissed p g s
  · exact ⟨_, fun _ => State.setCondition_set _ _, fun hno => absurd hm hno, h.missed hm, setCondition_rises _ _⟩
  · exact ⟨_, fun hyes => absurd hyes hm, fun _ => rfl, h.other hm, .of_conds rfl⟩

theorem sightingHanded_occFull {g : Sig} {s : State} (h : 8 ≤ s.judge.occurrences.length) : (sightingHanded g s).run.conds.get .occFull = true := by
  refine handNotice_rises _ _ _ ?_
  rw [occurrenceOffered, if_neg (Nat.not_lt.2 h)]
  exact (State.setCondition_spec .occFull s).1

/-- Settles O36: the listener is put into HUNT first, and the report finds table, judge, store and port as they were. -/
theorem faultReportTaken : Obligations.FaultReportTaken := by
  unfold Obligations.FaultReportTaken
  refine ⟨fun s p hh => ?_, fun s p hh hopens => ?_⟩
  · refine ⟨_, exec_framingError hh, by simp [framingNoted], by simp [framingNoted], fun hfind hroom => ⟨⟨_, created_records hfind hroom, ?_⟩, fun h hlt => ?_⟩,
      fun hfind hfull => ?_, fun r hfind hearly => ?_, fun r hfind hdue => ⟨?_, ?_⟩⟩
    · obtain ⟨heq, habsent⟩ := recordReported_spec (p := p) (g := 0xA000#16) (s := framingNoted s)
      rw [heq]
      exact ⟨rfl, rfl, rfl, rfl, rfl, rfl, rfl, rfl, rfl, rfl, rfl, rfl, rfl, habsent⟩
    · rw [created_mask (s := framingNoted s) hfind hroom]
      exact maskBit_getLsbD _ _ hlt
    · rw [faultReport_lost (s := framingNoted s) hfind hfull]
      have htable : ∀ u : State, (u.setCondition .tableFull).table = u.table := fun u => by simp
      exact ⟨htable _, by simp [State.loseReport, framingNoted], by simp [State.loseReport, framingNoted],
        (State.setCondition_spec .tableFull _).1⟩
    · rw [faultReport_repeated (s := framingNoted s) hfind hearly]
      refine ⟨?_, rfl, rfl, rfl, rfl⟩
      exact (SightingTable.find_update_same 0xA000#16 (Record.repeated s.clock) (fun _ => rfl) s.table).trans (by rw [hfind]; rfl)
    · rw [opened_find (s := framingNoted s) hfind hdue]
      change some (if s.judge.occurrences.length < 8 then _ else _) = _
      split <;> rfl
    · rw [faultReport_opened (s := framingNoted s) hfind hdue]
      simp [State.updateRecord, framingNoted]
  · have hreport := faultReport_occurrenceOpened (s := framingNoted s) (p := p) (g := 0xA000#16) hopens
    have hexec := exec_framingError hh
    have hsame : SameBut [.freeIndex, .run, .port, .lis, .table, .judge, .store] s ((framingNoted s).faultReport p 0xA000#16 (framingNoted s).clock) := by
      simp [SameBut, framingNoted]
    generalize (framingNoted s).faultReport p 0xA000#16 (framingNoted s).clock = t at hreport hexec hsame
    obtain ⟨hjudge, hstore, -, -⟩ := hreport.of_framingNoted
    obtain ⟨w, hmissed, hother, halike, hrises⟩ := hreport.of_framingNoted.answered
    refine ⟨t, occurrenceOffered s, sightingHanded 0xA000#16 s, w, _, hexec, hsame, fun hroom => if_pos hroom, fun hfull => ?_, State.handNotice_handed _ _,
      hmissed, hother, halike.port, halike.run, hstore, fun hfull => ⟨?_, ?_⟩, fun hroom => ?_⟩
    · rw [occurrenceOffered, if_neg (Nat.not_lt.2 hfull)]
      exact State.setCondition_set _ s
    · rw [hjudge, if_neg (Nat.not_lt.2 hfull)]
    · rw [halike.run]
      exact hrises .occFull (sightingHanded_occFull hfull)
    · rw [hjudge, if_pos hroom]
      exact ⟨rfl, _, rfl, newOccurrence_spec p s.judge.echoes 0xA000#16 s.clock⟩

end Sys2Proof.Proofs
end

section
/-! # Scope: frames, orders and profile images read back as they were written (R41, R43, R179, R182, R187, R188) -/

namespace Sys2Proof.Proofs

open Sys2Proof.Machine

/-! ### Fields of one, two and three bytes (section 1.5.2) -/

theorem word16_be16 (x : BitVec 16) : word16 (highByte x) (lowByte x) = x := by
  unfold word16 highByte lowByte
  rw [BitVec.extractLsb'_append_extractLsb'_eq_extractLsb' (by rfl)]
  simp

theorem toNat_count8 {n : Nat} (h : n < 256) : (count8 n).toNat = n := by
  rw [count8, BitVec.toNat_ofNat]
  exact Nat.mod_eq_of_lt h

/-- A two-byte field read back. -/
theorem toNat_word16_count16 {n : Nat} (h : n < 65536) :
    (word16 (highByte (BitVec.ofNat 16 n)) (lowByte (BitVec.ofNat 16 n))).toNat = n := by
  rw [word16_be16, BitVec.toNat_ofNat]
  exact Nat.mod_eq_of_lt h

/-- A three-byte field read back. -/
theorem toNat_count24 {n : Nat} (h : n < 16777216) :
    (count8 (n / 65536)).toNat * 65536
      + (word16 (highByte (BitVec.ofNat 16 (n % 65536))) (lowByte (BitVec.ofNat 16 (n % 65536)))).toNat = n := by
  rw [toNat_count8 (by omega), toNat_word16_count16 (by omega)]
  omega

theorem flagByte_bits (a b c : Bool) :
    (flagByte a b c).getLsbD 0 = a ∧ (flagByte a b c).getLsbD 1 = b ∧ (flagByte a b c).getLsbD 2 = c := by
  cases a <;> cases b <;> cases c <;> decide

/-! ### Bytes that stand at an offset -/

/-- The bytes stand in the list from the offset on. -/
def StandsAt (l : List Byte) (offset : Nat) (bytes : List Byte) : Prop := ∃ pre post, l = pre ++ (bytes ++ post) ∧ pre.length = offset

section
variable {l a b : List Byte} {o : Nat}

theorem StandsAt.whole (a b : List Byte) : StandsAt (a ++ b) 0 a := ⟨[], b, rfl, rfl⟩

theorem StandsAt.left (h : StandsAt l o (a ++ b)) : StandsAt l o a := by
  obtain ⟨pre, post, hl, hp⟩ := h
  exact ⟨pre, b ++ post, by rw [hl, List.append_assoc], hp⟩

theorem StandsAt.right (h : StandsAt l o (a ++ b)) : StandsAt l (o + a.length) b := by
  obtain ⟨pre, post, hl, hp⟩ := h
  exact ⟨pre ++ a, post, by simp [hl], by simp [hp]⟩

theorem StandsAt.take_eq (h : StandsAt l 0 a) {n : Nat} (hn : a.length = n) : l.take n = a := by
  obtain ⟨pre, post, rfl, hpre⟩ := h
  rw [List.eq_nil_of_length_eq_zero hpre, List.nil_append, List.take_left' hn]

theorem StandsAt.byteAt (h : StandsAt l o a) {k : Nat} (hk : k < a.length) : byteAt l (o + k) = byteAt a k := by
  obtain ⟨pre, post, rfl, rfl⟩ := h
  unfold Machine.byteAt
  rw [List.getD_append_right _ _ _ _ (Nat.le_add_right _ _), Nat.add_sub_cancel_left, List.getD_append _ _ _ _ hk]

theorem StandsAt.wordAt (h : StandsAt l o a) {k : Nat} (hk : k + 1 < a.length) : wordAt l (o + k) = wordAt a k := by
  unfold Machine.wordAt
  rw [h.byteAt (by omega), add_assoc, h.byteAt hk]

theorem StandsAt.nat24At (h : StandsAt l o a) {k : Nat} (hk : k + 2 < a.length) : nat24At l (o + k) = nat24At a k := by
  unfold Machine.nat24At nat8At nat16At
  rw [h.byteAt (by omega), add_assoc, h.wordAt (by omega)]

/-- An entry of a table whose entries have one length. -/
theorem StandsAt.entry {α : Type} {f : α → List Byte} {n : Nat} {xs : List α} (h : StandsAt l o (xs.flatMap f)) (hf : ∀ x, (f x).length = n)
    {i : Nat} (hi : i < xs.length) : StandsAt l (o + n * i) (f xs[i]) := by
  induction xs generalizing o i with
  | nil => simp at hi
  | cons x xs ih =>
    rw [List.flatMap_cons] at h
    cases i with
    | zero => exact h.left
    | succ i =>
      have := ih h.right (Nat.lt_of_succ_lt_succ hi)
      rw [hf] at this
      rw [Nat.mul_succ, Nat.add_comm (n * i), ← Nat.add_assoc]
      exact this

end

/-! ### Frames (R41, R43, R187) -/

/-- The bytes of a frame past its sync pattern: header, payload and CRC (R22, R187). -/
def framed (kind source target : Byte) (age : BitVec 16) (payload : List Byte) : List Byte :=
  ([kind, source, target] ++ be16 age ++ [count8 payload.length] ++ payload)
    ++ be16 (crc16 ([kind, source, target] ++ be16 age ++ [count8 payload.length] ++ payload))

theorem frameBytes_drop (source : Byte) (now : Time) (n : Notice) :
    (frameBytes source now n).drop 2 = framed n.content.kind source n.target (BitVec.ofNat 16 (min (now - n.eventTime).toNat 65535)) n.content.payload := rfl

/-- Bytes followed by their CRC pass the CRC check (R41). -/
theorem crc_checked (body : List Byte) :
    crc16 ((body ++ be16 (crc16 body)).take ((body ++ be16 (crc16 body)).length - 2))
      = wordAt (body ++ be16 (crc16 body)) ((body ++ be16 (crc16 body)).length - 2) := by
  have hlength : (body ++ be16 (crc16 body)).length - 2 = body.length := by simp [be16]
  have hstands : StandsAt (body ++ be16 (crc16 body)) (0 + body.length) (be16 (crc16 body)) :=
    StandsAt.right (by simpa using StandsAt.whole (body ++ be16 (crc16 body)) [])
  have hword := hstands.wordAt (k := 0) (by simp [be16])
  rw [hlength, List.take_left' rfl]
  rw [Nat.zero_add, Nat.add_zero] at hword
  rw [hword]
  exact (word16_be16 _).symm

theorem frameGood_iff (f : List Byte) (inside : Bool) :
    frameGood f inside = true ↔ inside = false ∧ 8 ≤ f.length ∧ nat8At f 5 ≤ 24 ∧ f.length = 6 + nat8At f 5 + 2
      ∧ crc16 (f.take (f.length - 2)) = wordAt f (f.length - 2) ∧ 1 ≤ nat8At f 0 ∧ nat8At f 0 ≤ 9 ∧ 1 ≤ nat8At f 1 ∧ nat8At f 1 ≤ 31 := by
  simp only [frameGood, sourceGood, Bool.and_eq_true, decide_eq_true_eq, Bool.not_eq_true', and_assoc]
  rfl

section
variable {kind source target : Byte} {age : BitVec 16} {payload : List Byte}

/-- A frame of one of the nine kinds, from a station, with at most 24 payload bytes, passes the checks of R41. -/
theorem frameGood_framed (hlen : payload.length ≤ 24) (hkind : 1 ≤ kind.toNat ∧ kind.toNat ≤ 9) (hsource : 1 ≤ source.toNat ∧ source.toNat ≤ 31) :
    frameGood (framed kind source target age payload) false = true := by
  have hcount : nat8At (framed kind source target age payload) 5 = payload.length := toNat_count8 (by omega)
  have hlength : (framed kind source target age payload).length = 8 + payload.length := by simp [framed, be16]; omega
  have hfirst : nat8At (framed kind source target age payload) 0 = kind.toNat := rfl
  have hsecond : nat8At (framed kind source target age payload) 1 = source.toNat := rfl
  rw [frameGood_iff, hcount, hlength, hfirst, hsecond]
  refine ⟨rfl, by omega, hlen, by omega, ?_, hkind.1, hkind.2, hsource.1, hsource.2⟩
  rw [← hlength]
  exact crc_checked _

theorem frameHeader_framed (sync : Int) (inside : Bool) :
    frameHeader ⟨sync, framed kind source target age payload, inside⟩ = { sync := sync, source := source, target := target, age := age } :=
  congrArg (fun x => ({ sync := sync, source := source, target := target, age := x } : Header)) (word16_be16 age)

end

/-- A frame that fails a check of R41. -/
theorem frameCommand_of_bad {r : ReceivedFrame} (h : frameGood r.bytes r.insideByte = false) : frameCommand r = .frameDiscarded r := by
  unfold frameCommand
  rw [h]
  rfl

/-- A good frame of a kind that is dispatched to no consumer (R43). -/
theorem frameCommand_of_undispatched {r : ReceivedFrame} (h : nat8At r.bytes 0 = 6 ∨ nat8At r.bytes 0 = 8 ∨ nat8At r.bytes 0 = 9) :
    frameCommand r = .frameDiscarded r := by
  unfold frameCommand
  split
  · rcases h with h | h | h <;> rw [h] <;> rfl
  · rfl

section
variable {source target : Byte} {age : BitVec 16} (sync : Int)

/-- A frame of a dispatched kind with that kind's payload length is the command that its kind and payload give. -/
theorem frameCommand_framed {kind : Byte} {payload : List Byte} {c : Instr} (hlen : payload.length ≤ 24) (hkind : 1 ≤ kind.toNat ∧ kind.toNat ≤ 9)
    (hsource : 1 ≤ source.toNat ∧ source.toNat ≤ 31)
    (h : ∀ r : ReceivedFrame, r = ⟨sync, framed kind source target age payload, false⟩ →
      frameHeader r = { sync := sync, source := source, target := target, age := age } → frameGood r.bytes r.insideByte = true → frameCommand r = c) :
    frameCommand ⟨sync, framed kind source target age payload, false⟩ = c :=
  h _ rfl (frameHeader_framed sync false) (frameGood_framed hlen hkind hsource)

theorem frameCommand_claim (hsource : 1 ≤ source.toNat ∧ source.toNat ≤ 31) (w : Byte) (d : BitVec 16) (c : Byte) :
    frameCommand ⟨sync, framed 1#8 source target age (w :: be16 d ++ [c]), false⟩
      = .claim { sync := sync, source := source, target := target, age := age } w d c := by
  refine frameCommand_framed sync (by simp [be16]) (by decide) hsource fun r hr hheader hgood => ?_
  rw [frameCommand, if_pos hgood, ← hheader, ← word16_be16 d, hr]
  rfl

theorem frameCommand_withdraw (hsource : 1 ≤ source.toNat ∧ source.toNat ≤ 31) :
    frameCommand ⟨sync, framed 2#8 source target age [], false⟩ = .withdraw { sync := sync, source := source, target := target, age := age } := by
  refine frameCommand_framed sync (by simp) (by decide) hsource fun r hr hheader hgood => ?_
  rw [frameCommand, if_pos hgood, ← hheader, hr]
  rfl

theorem frameCommand_settled (hsource : 1 ≤ source.toNat ∧ source.toNat ≤ 31) (o : Byte) :
    frameCommand ⟨sync, framed 3#8 source target age [o], false⟩ = .settled { sync := sync, source := source, target := target, age := age } o := by
  refine frameCommand_framed sync (by simp) (by decide) hsource fun r hr hheader hgood => ?_
  rw [frameCommand, if_pos hgood, ← hheader, hr]
  rfl

theorem frameCommand_sighting (hsource : 1 ≤ source.toNat ∧ source.toNat ≤ 31) (g : Sig) (c ph : Byte) :
    frameCommand ⟨sync, framed 4#8 source target age (be16 g ++ [c, ph]), false⟩
      = .sighting { sync := sync, source := source, target := target, age := age } g c ph := by
  refine frameCommand_framed sync (by simp [be16]) (by decide) hsource fun r hr hheader hgood => ?_
  rw [frameCommand, if_pos hgood, ← hheader, ← word16_be16 g, hr]
  rfl

theorem frameCommand_sag (hsource : 1 ≤ source.toNat ∧ source.toNat ≤ 31) (v : BitVec 16) :
    frameCommand ⟨sync, framed 5#8 source target age (be16 v), false⟩ = .sag { sync := sync, source := source, target := target, age := age } v := by
  refine frameCommand_framed sync (by simp [be16]) (by decide) hsource fun r hr hheader hgood => ?_
  rw [frameCommand, if_pos hgood, ← hheader, ← word16_be16 v, hr]
  rfl

theorem frameCommand_order (hsource : 1 ≤ source.toNat ∧ source.toNat ≤ 31) (op arg : Byte) :
    frameCommand ⟨sync, framed 7#8 source target age [op, arg], false⟩
      = orderCommand { sync := sync, source := source, target := target, age := age } op arg := by
  refine frameCommand_framed sync (by simp) (by decide) hsource fun r hr hheader hgood => ?_
  rw [frameCommand, if_pos hgood, ← hheader, hr]
  rfl

end

/-- The operations that no order has (R182). -/
theorem orderCommand_unknown (h : Header) {op : Byte} (arg : Byte) (hop : op = 0#8 ∨ 5 ≤ op.toNat) :
    orderCommand h op arg = .unknownOperation h op arg := by
  have hne : op.toNat = 0 ∨ 5 ≤ op.toNat := hop.imp (fun h => by rw [h]; rfl) id
  unfold orderCommand
  split
  · next h1 => omega
  · next h2 => omega
  · next h3 => omega
  · next h4 => omega
  · rfl

/-- The conditions of the third clause each fail a check of R41. -/
theorem frameGood_of_failed {f : List Byte} {inside : Bool}
    (h : inside = true ∨ f.length < 8 ∨ 24 < (f.getD 5 0#8).toNat ∨ f.length ≠ 8 + (f.getD 5 0#8).toNat
        ∨ crc16 (f.take (f.length - 2)) ≠ f.getD (f.length - 2) 0#8 ++ f.getD (f.length - 1) 0#8
        ∨ f.getD 0 0#8 = 0#8 ∨ 9 < (f.getD 0 0#8).toNat ∨ f.getD 1 0#8 = 0#8 ∨ 31 < (f.getD 1 0#8).toNat) : frameGood f inside = false := by
  rw [← Bool.not_eq_true, frameGood_iff]
  rintro ⟨hin, hlen, hmax, hsize, hcrc, hlow, hhigh, hfrom, hto⟩
  unfold nat8At byteAt at *
  rcases h with h | h | h | h | h | h | h | h | h
  · simp [h] at hin
  · omega
  · omega
  · omega
  · refine h (hcrc.trans ?_)
    rw [wordAt, show f.length - 2 + 1 = f.length - 1 by omega]
    rfl
  · rw [h] at hlow
    simp at hlow
  · omega
  · rw [h] at hfrom
    simp at hfrom
  · omega

/-! ### Profile images (R179, R188) -/

/-- The fields ahead of the class table. -/
def imageHead (p : Profile) : List Byte :=
  [count16 (187 + 4 * p.stages.length), [1#8], be16 p.profileTag, count16 p.allowance, [count8 p.weight], count16 p.duration,
    [count8 p.cycles], count16 p.onTime, count16 p.offTime, count16 p.drainTimeout, count16 p.window, count16 p.holdOff,
    [count8 p.quorum], count16 p.rearm, [flagByte p.stopOnFail false false, count8 p.suspectLimit], count24 p.tripLimit,
    [count8 p.tripDwell], count24 p.sagThreshold, [count8 p.sagDwell], count16 p.sagHysteresis,
    [count8 p.baudCode, p.leadByte], be16 p.identityCode, be16 p.pulseCode, count16 p.pulseInterval,
    count16 p.errorLow, count16 p.errorHigh, [count8 p.preRounds, count8 p.postRounds],
    be32 (p.watchPreset.extractLsb' 32 32), be32 (p.watchPreset.extractLsb' 0 32)].flatten

theorem be16_length (x : BitVec 16) : (be16 x).length = 2 := rfl
theorem be32_length (x : BitVec 32) : (be32 x).length = 4 := rfl
theorem count16_length (n : Nat) : (count16 n).length = 2 := rfl
theorem count24_length (n : Nat) : (count24 n).length = 3 := rfl

theorem imageHead_length (p : Profile) : (imageHead p).length = 58 := by
  unfold imageHead
  simp only [List.flatten_cons, List.flatten_nil, List.length_append, count16_length, count24_length, be16_length, be32_length]
  simp only [List.length_cons, List.length_nil]

/-- The image in its parts: head, class table, channel table, stage count, stage list, CRC. -/
theorem imageBody_eq (p : Profile) :
    p.imageBody = imageHead p ++ p.classes.flatMap ClassEntry.bytes ++ p.channels.toList.flatMap Channel.bytes ++ [count8 p.stageCount]
      ++ p.stages.flatMap Stage.bytes := by
  unfold Profile.imageBody imageHead
  simp only [List.flatten_cons, List.flatten_nil, List.append_assoc, List.append_nil]

theorem length_flatMap_of_length {α : Type} {f : α → List Byte} {n : Nat} (hf : ∀ x, (f x).length = n) (xs : List α) :
    (xs.flatMap f).length = n * xs.length := by
  induction xs with
  | nil => rfl
  | cons x xs ih => rw [List.flatMap_cons, List.length_append, hf, ih, List.length_cons]; ring

theorem classBytes_length (c : ClassEntry) : c.bytes.length = 2 := rfl
theorem channelBytes_length (ch : Channel) : ch.bytes.length = 13 := rfl
theorem stageBytes_length (st : Stage) : st.bytes.length = 4 := rfl

/-- The length word leads an image's head. -/
theorem StandsAt.startsWithLength {p : Profile} {l : List Byte} (h : StandsAt l 0 (imageHead p)) :
    StandsAt l 0 (count16 (187 + 4 * p.stages.length)) := by
  unfold imageHead at h
  rw [List.flatten_cons] at h
  exact h.left

/-- Where the parts of an image stand. -/
structure ImageParts (p : Profile) (l : List Byte) : Prop where
  head : StandsAt l 0 (imageHead p)
  classes : StandsAt l 58 (p.classes.flatMap ClassEntry.bytes)
  channels : StandsAt l 80 (p.channels.toList.flatMap Channel.bytes)
  count : StandsAt l 184 [count8 p.stageCount]
  stages : StandsAt l 185 (p.stages.flatMap Stage.bytes)

theorem image_parts {p : Profile} (hclasses : p.classes.length = 11) : ImageParts p p.image := by
  have hclass : (p.classes.flatMap ClassEntry.bytes).length = 22 := by rw [length_flatMap_of_length classBytes_length, hclasses]
  have hchannel : (p.channels.toList.flatMap Channel.bytes).length = 104 := length_flatMap_of_length channelBytes_length _
  have hall : StandsAt p.image 0 (imageHead p ++ p.classes.flatMap ClassEntry.bytes ++ p.channels.toList.flatMap Channel.bytes ++ [count8 p.stageCount]
      ++ p.stages.flatMap Stage.bytes) := by
    rw [← imageBody_eq]
    exact StandsAt.whole _ _
  have hstages := hall.right
  have hcount := hall.left.right
  have hchannels := hall.left.left.right
  have hclassTable := hall.left.left.left.right
  simp only [List.length_append, imageHead_length, hclass, hchannel, List.length_singleton] at hstages hcount hchannels hclassTable
  exact ⟨hall.left.left.left.left, hclassTable, hchannels, hcount, hstages⟩

theorem image_length {p : Profile} (hclasses : p.classes.length = 11) : p.image.length = 187 + 4 * p.stages.length := by
  rw [Profile.image, List.length_append, imageBody_eq]
  simp only [List.length_append, imageHead_length, length_flatMap_of_length classBytes_length, length_flatMap_of_length channelBytes_length,
    length_flatMap_of_length stageBytes_length, hclasses, List.length_singleton]
  rw [be16_length, show p.channels.toList.length = 8 from rfl]
  omega

/-- The four words of the watch preset, highest first, bit by bit. -/
theorem preset_words (x : BitVec 64) :
    word16 ((x.extractLsb' 32 32).extractLsb' 24 8) ((x.extractLsb' 32 32).extractLsb' 16 8)
      ++ word16 ((x.extractLsb' 32 32).extractLsb' 8 8) ((x.extractLsb' 32 32).extractLsb' 0 8)
      ++ word16 ((x.extractLsb' 0 32).extractLsb' 24 8) ((x.extractLsb' 0 32).extractLsb' 16 8)
      ++ word16 ((x.extractLsb' 0 32).extractLsb' 8 8) ((x.extractLsb' 0 32).extractLsb' 0 8) = x := by
  unfold word16
  refine BitVec.eq_of_getLsbD_eq fun i hi => ?_
  simp only [BitVec.getLsbD_append, BitVec.getLsbD_extractLsb']
  interval_cases i <;> simp

section
variable {l : List Byte} {o : Nat}

theorem classAt_of_stands {e : ClassEntry} {c : Nat} (h : StandsAt l (58 + 2 * (c - 1)) e.bytes) (he : e.threshold < 256) : classAt l c = e := by
  have hfirst := h.byteAt (k := 0) (by simp [classBytes_length])
  have hflags := h.byteAt (k := 1) (by simp [classBytes_length])
  obtain ⟨h0, h1, -⟩ := flagByte_bits e.supplySensitive e.snapshot false
  unfold classAt nat8At bitAt
  rw [Nat.add_zero] at hfirst
  rw [hfirst, hflags]
  change ClassEntry.mk (count8 e.threshold).toNat ((flagByte _ _ _).getLsbD 0) ((flagByte _ _ _).getLsbD 1) = e
  rw [toNat_count8 he, h0, h1]

theorem channelAt_of_stands {ch : Channel} {i : Nat} (h : StandsAt l (80 + 13 * i) ch.bytes) (hscale : ch.scale < 65536) (hlow : ch.low < 16777216)
    (hhigh : ch.high < 16777216) (hoff : ch.offLevel < 16777216) (hdwell : ch.dwell < 256) : channelAt l i = ch := by
  have hword := h.wordAt (k := 0) (by simp [channelBytes_length])
  have hbytes : ∀ k, k < 13 → byteAt l (80 + 13 * i + k) = byteAt ch.bytes k := fun k hk => h.byteAt hk
  have htriples : ∀ k, k + 2 < 13 → nat24At l (80 + 13 * i + k) = nat24At ch.bytes k := fun k hk => h.nat24At hk
  obtain ⟨h0, h1, h2⟩ := flagByte_bits ch.windowFlag ch.rampFlag ch.offFlag
  have hs : nat16At ch.bytes 0 = ch.scale := toNat_word16_count16 hscale
  have hl : nat24At ch.bytes 2 = ch.low := toNat_count24 hlow
  have hh : nat24At ch.bytes 5 = ch.high := toNat_count24 hhigh
  have ho : nat24At ch.bytes 8 = ch.offLevel := toNat_count24 hoff
  have hd : nat8At ch.bytes 11 = ch.dwell := toNat_count8 hdwell
  have hf : byteAt ch.bytes 12 = flagByte ch.windowFlag ch.rampFlag ch.offFlag := rfl
  unfold nat16At nat8At at *
  rw [Nat.add_zero] at hword
  unfold channelAt nat16At nat8At bitAt
  rw [hword, hs, htriples 2 (by omega), hl, htriples 5 (by omega), hh, htriples 8 (by omega), ho, hbytes 11 (by omega), hd, hbytes 12 (by omega), hf, h0, h1, h2]

theorem stageAt_of_stands {st : Stage} {i : Nat} (h : StandsAt l (185 + 4 * i) st.bytes) (hs : st.maxWait < 65536) : stageAt l i = st := by
  have hcode := h.wordAt (k := 0) (by simp [stageBytes_length])
  have hwait := h.wordAt (k := 2) (by simp [stageBytes_length])
  have hc : wordAt st.bytes 0 = st.code := word16_be16 st.code
  have hw : (wordAt st.bytes 2).toNat = st.maxWait := toNat_word16_count16 hs
  rw [Nat.add_zero] at hcode
  unfold stageAt nat16At
  rw [hcode, hwait, hc, hw]

end

section
variable {p : Profile} {l : List Byte}

theorem ImageParts.classes_eq (h : ImageParts p l) (hlen : p.classes.length = 11) (hfit : ∀ c ∈ p.classes, c.threshold < 256) :
    [1, 2, 3, 4, 5, 6, 7, 8, 9, 10, 11].map (classAt l) = p.classes := by
  refine List.ext_getElem (by simp [hlen]) fun i hi hi' => ?_
  have hstands := h.classes.entry classBytes_length hi'
  have hindex : [1, 2, 3, 4, 5, 6, 7, 8, 9, 10, 11][i]'(by simpa using hi) = i + 1 := by
    rw [hlen] at hi'
    interval_cases i <;> rfl
  rw [List.getElem_map, hindex]
  exact classAt_of_stands hstands (hfit _ (List.getElem_mem hi'))

theorem ImageParts.channels_eq (h : ImageParts p l)
    (hfit : ∀ k, k < 8 → (p.channels.get k).scale < 65536 ∧ (p.channels.get k).low < 16777216 ∧ (p.channels.get k).high < 16777216
        ∧ (p.channels.get k).offLevel < 16777216 ∧ (p.channels.get k).dwell < 256) {i : Nat} (hi : i < 8) : channelAt l i = p.channels.get i := by
  have hlength : p.channels.toList.length = 8 := rfl
  have hget : p.channels.toList[i]'(by rw [hlength]; exact hi) = p.channels.get i := by
    interval_cases i <;> rfl
  have hstands := h.channels.entry channelBytes_length (i := i) (by rw [hlength]; exact hi)
  rw [hget] at hstands
  obtain ⟨hscale, hlow, hhigh, hoff, hdwell⟩ := hfit i hi
  exact channelAt_of_stands hstands hscale hlow hhigh hoff hdwell

theorem ImageParts.stagesRead_eq (h : ImageParts p l) (hcount : p.stageCount = p.stages.length) (hmax : p.stages.length ≤ 16) :
    nat8At l 184 = p.stageCount ∧ stagesRead l = p.stages.length := by
  have hbyte := h.count.byteAt (k := 0) (by simp)
  have hread : nat8At l 184 = p.stageCount := by
    unfold nat8At
    rw [Nat.add_zero] at hbyte
    rw [hbyte]
    exact toNat_count8 (by omega)
  exact ⟨hread, by rw [stagesRead, hread]; omega⟩

theorem ImageParts.stages_eq (h : ImageParts p l) (hcount : p.stageCount = p.stages.length) (hmax : p.stages.length ≤ 16)
    (hfit : ∀ st ∈ p.stages, st.maxWait < 65536) : (List.range (stagesRead l)).map (stageAt l) = p.stages := by
  obtain ⟨-, hread⟩ := h.stagesRead_eq hcount hmax
  refine List.ext_getElem (by simp [hread]) fun i hi hi' => ?_
  rw [List.getElem_map, List.getElem_range]
  exact stageAt_of_stands (h.stages.entry stageBytes_length hi') (hfit _ (List.getElem_mem hi'))

end

/-- What a load reads from the image is the profile (R188). -/
theorem rawProfile_image {p : Profile} (hp : p.FitsImage) {l : List Byte} (h : ImageParts p l) : rawProfile l = p := by
  obtain ⟨hallowance, hweight, hduration, hcycles, honTime, hoffTime, hdrain, hwindow, hholdOff, hquorum, hrearm, hsuspect, htripLimit, htripDwell,
    hsagThreshold, hsagDwell, hsagHysteresis, hbaud, hpulse, herrorLow, herrorHigh, hpre, hpost, hlen, hclasses, hchannels, hcount, hmax, hstages⟩ := hp
  have hb : ∀ k, k < 58 → byteAt l k = byteAt (imageHead p) k := fun k hk => by
    have := h.head.byteAt (k := k) (by rw [imageHead_length]; exact hk)
    rwa [Nat.zero_add] at this
  have hw : ∀ k, k + 1 < 58 → wordAt l k = wordAt (imageHead p) k := fun k hk => by
    have := h.head.wordAt (k := k) (by rw [imageHead_length]; exact hk)
    rwa [Nat.zero_add] at this
  have ht : ∀ k n, k + 2 < 58 → nat24At (imageHead p) k = n → nat24At l k = n := fun k n hk he => by
    have := h.head.nat24At (k := k) (by rw [imageHead_length]; exact hk)
    rw [Nat.zero_add] at this
    exact this.trans he
  have hword : ∀ k x, k + 1 < 58 → wordAt (imageHead p) k = x → wordAt l k = x := fun k x hk he => (hw k hk).trans he
  have hn : ∀ k n, k + 1 < 58 → n < 65536 → wordAt (imageHead p) k = BitVec.ofNat 16 n → nat16At l k = n := fun k n hk hn he => by
    rw [nat16At, hw k hk, he, BitVec.toNat_ofNat]
    exact Nat.mod_eq_of_lt hn
  have hc : ∀ k n, k < 58 → n < 256 → byteAt (imageHead p) k = count8 n → nat8At l k = n := fun k n hk hn he => by
    rw [nat8At, hb k hk, he, toNat_count8 hn]
  have hmask : maskAt l = p.watchPreset := by
    unfold maskAt
    rw [hw 50 (by omega), hw 52 (by omega), hw 54 (by omega), hw 56 (by omega)]
    exact preset_words p.watchPreset
  have hstop : bitAt l 24 0 = p.stopOnFail := by
    rw [bitAt, hb 24 (by omega)]
    exact (flagByte_bits p.stopOnFail false false).1
  unfold rawProfile
  rw [h.classes_eq hlen hclasses, h.stages_eq hcount hmax hstages, (h.stagesRead_eq hcount hmax).1, hmask, hstop,
    h.channels_eq hchannels (i := 0) (by omega), h.channels_eq hchannels (i := 1) (by omega), h.channels_eq hchannels (i := 2) (by omega),
    h.channels_eq hchannels (i := 3) (by omega), h.channels_eq hchannels (i := 4) (by omega), h.channels_eq hchannels (i := 5) (by omega),
    h.channels_eq hchannels (i := 6) (by omega), h.channels_eq hchannels (i := 7) (by omega),
    hword 3 p.profileTag (by omega) (word16_be16 _), hn 5 p.allowance (by omega) hallowance (word16_be16 _), hc 7 p.weight (by omega) hweight rfl,
    hn 8 p.duration (by omega) hduration (word16_be16 _), hc 10 p.cycles (by omega) hcycles rfl, hn 11 p.onTime (by omega) honTime (word16_be16 _),
    hn 13 p.offTime (by omega) hoffTime (word16_be16 _), hn 15 p.drainTimeout (by omega) hdrain (word16_be16 _),
    hn 17 p.window (by omega) hwindow (word16_be16 _), hn 19 p.holdOff (by omega) hholdOff (word16_be16 _), hc 21 p.quorum (by omega) hquorum rfl,
    hn 22 p.rearm (by omega) hrearm (word16_be16 _), hc 25 p.suspectLimit (by omega) hsuspect rfl,
    ht 26 p.tripLimit (by omega) (toNat_count24 htripLimit), hc 29 p.tripDwell (by omega) htripDwell rfl,
    ht 30 p.sagThreshold (by omega) (toNat_count24 hsagThreshold), hc 33 p.sagDwell (by omega) hsagDwell rfl,
    hn 34 p.sagHysteresis (by omega) hsagHysteresis (word16_be16 _), hc 36 p.baudCode (by omega) hbaud rfl, hb 37 (by omega),
    hword 38 p.identityCode (by omega) (word16_be16 _), hword 40 p.pulseCode (by omega) (word16_be16 _),
    hn 42 p.pulseInterval (by omega) hpulse (word16_be16 _), hn 44 p.errorLow (by omega) herrorLow (word16_be16 _),
    hn 46 p.errorHigh (by omega) herrorHigh (word16_be16 _), hc 48 p.preRounds (by omega) hpre rfl, hc 49 p.postRounds (by omega) hpost rfl]
  rfl

/-- The image passes the checks of R179. -/
theorem imageGood_image {p : Profile} (hp : p.FitsImage) : imageGood p.image = true := by
  obtain ⟨-, -, -, -, -, -, -, -, -, -, -, -, -, -, -, -, -, -, -, -, -, -, -, hlen, -, -, hcount, hmax, -⟩ := hp
  have hparts := image_parts hlen
  have hversion : nat8At p.image 2 = 1 := by
    have := hparts.head.byteAt (k := 2) (by rw [imageHead_length]; omega)
    rw [Nat.zero_add] at this
    rw [nat8At, this]
    rfl
  have hcrc : crc16 (p.image.take (p.image.length - 2)) = wordAt p.image (p.image.length - 2) := crc_checked p.imageBody
  rw [imageGood, hversion, (hparts.stagesRead_eq hcount hmax).2, image_length hlen]
  rw [image_length hlen] at hcrc
  simp [hcrc]

/-- Settles O60: the frames kind by kind, the orders by operation, the failed checks, and the image part by part. -/
theorem formatsReadBack : Obligations.FormatsReadBack := by
  unfold Obligations.FormatsReadBack
  refine ⟨fun src target now e k sync h hlow hhigh hh => ?_, fun h op arg body f hlow hhigh hbody hf => ?_, fun sync f inside hbad => ?_, fun p hp => ?_⟩
  · subst hh
    refine ⟨fun w d c => ?_, ?_, fun o => ?_, fun g c ph => ?_, fun v => ?_, fun n f hn hf => ?_⟩
    · rw [frameBytes_drop]
      exact frameCommand_claim sync ⟨hlow, hhigh⟩ w d c
    · rw [frameBytes_drop]
      exact frameCommand_withdraw sync ⟨hlow, hhigh⟩
    · rw [frameBytes_drop]
      exact frameCommand_settled sync ⟨hlow, hhigh⟩ o
    · rw [frameBytes_drop]
      exact frameCommand_sighting sync ⟨hlow, hhigh⟩ g c ph
    · rw [frameBytes_drop]
      exact frameCommand_sag sync ⟨hlow, hhigh⟩ v
    · refine frameCommand_of_undispatched ?_
      have hkind : nat8At f 0 = n.content.kind.toNat := by rw [hf]; rfl
      obtain ⟨l, hn | hn | ⟨a, hn⟩⟩ := hn <;> simp [hkind, hn, Content.kind]
  · have horder : frameCommand ⟨h.sync, f, false⟩ = orderCommand h op arg := by
      rw [hf, hbody]
      exact frameCommand_order h.sync ⟨hlow, hhigh⟩ op arg
    rw [horder]
    refine ⟨?_, ?_, ?_, ?_, orderCommand_unknown h arg⟩ <;> rintro rfl <;> rfl
  · exact frameCommand_of_bad (frameGood_of_failed hbad)
  · have hfits := id hp
    obtain ⟨-, -, -, -, -, -, -, -, -, -, -, -, -, -, -, -, -, -, -, -, -, -, -, hlen, -, -, -, hmax, -⟩ := hfits
    have hlength := image_length hlen
    have hhead := (image_parts hlen).head
    refine ⟨rawProfile_image hp (image_parts hlen), imageGood_image hp, ?_, by omega, by omega⟩
    rw [hlength]
    exact hhead.startsWithLength.take_eq (count16_length _)

end Sys2Proof.Proofs
end

section
/-! # Scope: what goes over the wires — notices and their payloads, the line CRC, the PROM bus (R22, R125, R176, R181, R183, R186, R187) -/

namespace Sys2Proof.Proofs

open Sys2Proof.Machine

/-! ### Notices and payloads -/

theorem frameBytes_length (source : Byte) (now : Time) (n : Notice) :
    (frameBytes source now n).length = 10 + n.content.payload.length := by
  simp only [frameBytes, frameBody, List.length_append, be16_length, List.length_cons, List.length_nil]
  omega

/-- The number whose bits are the list's, the first of them bit 0. -/
def bitsNumber (l : List Bool) : Nat := l.foldr Nat.bit 0

theorem bitsNumber_testBit (l : List Bool) (i : Nat) : (bitsNumber l).testBit i = l.getD i false := by
  induction l generalizing i with
  | nil => simp [bitsNumber]
  | cons b l ih =>
    cases i with
    | zero => exact Nat.testBit_bit_zero b (bitsNumber l)
    | succ i => exact (Nat.testBit_bit_succ i b (bitsNumber l)).trans (ih i)

/-- The conditions in the order of their bits (R183). -/
def conditionList (x : Conditions) : List Bool :=
  [x.profileBad, x.profileClamped, x.idClash, x.echoFull, x.outboundFull, x.occFull, x.tableFull, x.snapMissed, x.tagFailed,
    x.noticeDropped, x.aborted]

theorem conditions_bits_eq (x : Conditions) : x.bits = BitVec.ofNat 16 (bitsNumber (conditionList x)) := by
  simp only [Conditions.bits, bitsNumber, conditionList, List.foldr_cons, List.foldr_nil, Nat.bit_val]
  congr 1
  ring

theorem conditions_bits_getLsbD (x : Conditions) (i : Nat) : x.bits.getLsbD i = (conditionList x).getD i false := by
  rw [conditions_bits_eq, BitVec.getLsbD_ofNat, bitsNumber_testBit]
  by_cases hi : i < 16
  · rw [decide_eq_true hi, Bool.true_and]
  · have hlen : (conditionList x).length ≤ i := show 11 ≤ i by omega
    rw [decide_eq_false hi, Bool.false_and, List.getD_eq_default _ _ hlen]

theorem sigLatch_eq (o : Option Sig) : sigLatch o = o.getD 0#16 := by cases o <;> rfl

theorem sourceLatch_eq (o : Option Byte) : sourceLatch o = o.getD 0xFF#8 := by cases o <;> rfl

theorem statusContent_length (s : State) : s.statusContent.length = 19 := by
  simp only [State.statusContent, List.length_append, be16_length, List.length_cons, List.length_nil]

theorem verdictPayload_length (s : State) (p : Profile) (m : Summary) (flag : Bool) : (s.verdictPayload p m flag).length = 16 := by
  simp only [State.verdictPayload, List.length_append, be16_length, count16_length, List.length_cons, List.length_nil]

/-! ### The line CRC (R22) -/

theorem crc16_append (l k : List Byte) : crc16 (l ++ k) = k.foldl crcByte (crc16 l) := List.foldl_append

/-- A register that is fed its own bits, highest first, shifts out. -/
theorem crcBit_own (r : BitVec 16) {k i : Nat} (h : i + k = 15) : crcBit (r <<< k) (r.getLsbD i) = r <<< (k + 1) := by
  have hmsb : (r <<< k).msb = r.getLsbD i := by
    rw [BitVec.msb_eq_getLsbD_last, BitVec.getLsbD_shiftLeft, show 16 - 1 - k = i by omega]
    simp
    omega
  rw [crcBit, hmsb, Bool.xor_self, if_neg Bool.false_ne_true, BitVec.shiftLeft_add]

theorem highByte_getLsbD (r : BitVec 16) {i : Nat} (h : i < 8) : (highByte r).getLsbD i = r.getLsbD (8 + i) := by
  rw [highByte, BitVec.getLsbD_extractLsb', decide_eq_true h, Bool.true_and]

theorem lowByte_getLsbD (r : BitVec 16) {i : Nat} (h : i < 8) : (lowByte r).getLsbD i = r.getLsbD i := by
  rw [lowByte, BitVec.getLsbD_extractLsb', decide_eq_true h, Bool.true_and, Nat.zero_add]

/-- Eight of the register's own bits move it eight places. -/
theorem crcByte_own (r : BitVec 16) {b : Byte} {k j : Nat} (hb : ∀ i, i < 8 → b.getLsbD i = r.getLsbD (j + i)) (hk : k + j = 8) :
    crcByte (r <<< k) b = r <<< (k + 8) := by
  unfold crcByte
  simp only [List.foldl_cons, List.foldl_nil]
  rw [hb 7 (by omega), hb 6 (by omega), hb 5 (by omega), hb 4 (by omega), hb 3 (by omega), hb 2 (by omega), hb 1 (by omega), hb 0 (by omega),
    crcBit_own r (by omega), crcBit_own r (by omega), crcBit_own r (by omega), crcBit_own r (by omega), crcBit_own r (by omega),
    crcBit_own r (by omega), crcBit_own r (by omega), crcBit_own r (by omega)]

theorem crc16_residue (l : List Byte) : crc16 (l ++ be16 (crc16 l)) = 0#16 := by
  rw [crc16_append, be16, List.foldl_cons, List.foldl_cons, List.foldl_nil]
  generalize crc16 l = r
  have hhigh : crcByte r (highByte r) = r <<< 8 := by
    have := crcByte_own r (k := 0) (j := 8) (fun i hi => highByte_getLsbD r hi) rfl
    rwa [BitVec.shiftLeft_zero] at this
  rw [hhigh, crcByte_own r (k := 8) (j := 0) (fun i hi => (lowByte_getLsbD r hi).trans (by rw [Nat.zero_add])) rfl]
  exact BitVec.shiftLeft_eq_zero (by omega)

theorem hash6_eq (g : Sig) : hash6 g = (crc16 [highByte g, lowByte g]).toNat / 1024 := by
  rw [hash6, BitVec.toNat_ushiftRight, Nat.shiftRight_eq_div_pow]
  rfl

/-! ### The PROM bus (R181) -/

/-- The data bytes of a read: all acknowledged but the last. -/
theorem readSequence_eq {n : Nat} (hn : 0 < n) :
    readSequence n = List.replicate (n - 1) (.received true) ++ [.received false] := by
  obtain ⟨k, rfl⟩ : ∃ k, n = k + 1 := ⟨n - 1, by omega⟩
  rw [readSequence, List.range_succ, List.map_append, Nat.add_sub_cancel]
  congr 1
  · refine List.eq_replicate_iff.2 ⟨by simp, fun e he => ?_⟩
    obtain ⟨i, hi, rfl⟩ := List.mem_map.1 he
    simp [List.mem_range.1 hi]
  · simp

theorem highByte_ofNat (a : Nat) : highByte (BitVec.ofNat 16 a) = BitVec.ofNat 8 (a / 256) := by
  apply BitVec.eq_of_toNat_eq
  simp only [highByte, BitVec.extractLsb'_toNat, BitVec.toNat_ofNat, Nat.shiftRight_eq_div_pow]
  omega

theorem lowByte_ofNat (a : Nat) : lowByte (BitVec.ofNat 16 a) = BitVec.ofNat 8 a := by
  apply BitVec.eq_of_toNat_eq
  simp only [lowByte, BitVec.extractLsb'_toNat, BitVec.toNat_ofNat, Nat.shiftRight_eq_div_pow]
  omega

theorem wordAddress_fixture (a : Nat) : wordAddress 0x52 a = [BitVec.ofNat 8 (a / 256), BitVec.ofNat 8 a] := by
  rw [wordAddress, if_pos rfl, be16, highByte_ofNat, lowByte_ofNat]

theorem wordAddress_tag (a : Nat) : wordAddress 0x56 a = [BitVec.ofNat 8 a] := rfl

theorem sequence_fixtureRead (a n : Nat) :
    (BusOp.sequentialRead 0x52 a n).sequence =
      ([.start, .address 0x52 false, .sent (BitVec.ofNat 8 (a / 256)), .sent (BitVec.ofNat 8 a), .repeatedStart, .address 0x52 true] : List BusEvent)
        ++ readSequence n ++ ([.stop] : List BusEvent) := by
  rw [BusOp.sequence, wordAddress_fixture]
  rfl

theorem sequence_tagRead (a n : Nat) :
    (BusOp.sequentialRead 0x56 a n).sequence =
      ([.start, .address 0x56 false, .sent (BitVec.ofNat 8 a), .repeatedStart, .address 0x56 true] : List BusEvent)
        ++ readSequence n ++ ([.stop] : List BusEvent) := by
  rw [BusOp.sequence, wordAddress_tag]
  rfl

theorem busRun_silent {e : BusEvent} (he : ¬e.toDevice = true) (es : List BusEvent) (acks : List Bool) :
    busRun (e :: es) acks = (e :: (busRun es acks).1, (busRun es acks).2) := by
  simp only [busRun, if_neg he]

theorem busRun_true {e : BusEvent} (he : e.toDevice = true) (es : List BusEvent) (acks : List Bool) :
    busRun (e :: es) (true :: acks) = (e :: (busRun es acks).1, (busRun es acks).2) := by
  simp only [busRun, if_pos he]

theorem busRun_false {e : BusEvent} (he : e.toDevice = true) (es : List BusEvent) (acks : List Bool) :
    busRun (e :: es) (false :: acks) = ([e, .stop], false) := by
  simp only [busRun, if_pos he]

/-- A run whose first items are all acknowledged goes on with the items after them. -/
theorem busRun_append (pre post : List BusEvent) (acks : List Bool) :
    busRun (pre ++ post) (List.replicate (pre.countP BusEvent.toDevice) true ++ acks) = (pre ++ (busRun post acks).1, (busRun post acks).2) := by
  induction pre with
  | nil => rfl
  | cons e pre ih =>
    by_cases he : e.toDevice = true
    · rw [List.countP_cons_of_pos he, List.replicate_succ, List.cons_append, List.cons_append, busRun_true he, ih]
      rfl
    · rw [List.countP_cons_of_neg he, List.cons_append, busRun_silent he, ih]
      rfl

theorem busRun_acknowledged (es : List BusEvent) : busRun es (List.replicate (es.countP BusEvent.toDevice) true) = (es, true) := by
  have := busRun_append es [] []
  rwa [List.append_nil, List.append_nil, busRun, List.append_nil] at this

/-- Settles O51: payloads and codes by their definitions, the conditions bit by bit, the CRC by shifting its own register out, the bus by
induction on its items. -/
theorem wireLayouts : Obligations.WireLayouts := by
  unfold Obligations.WireLayouts
  refine ⟨fun source now n body hbody => ⟨?_, ?_⟩, fun w d c => ⟨rfl, rfl⟩, ⟨rfl, rfl⟩, fun o => ⟨rfl, rfl⟩, fun g c ph => ⟨rfl, rfl⟩,
    fun v => ⟨rfl, rfl⟩, fun l => ⟨rfl, rfl, rfl, rfl⟩, fun a c l => ⟨rfl, rfl⟩, fun s p m flag => ⟨?_, verdictPayload_length s p m flag⟩,
    fun s => ⟨?_, statusContent_length s⟩, conditions_bits_getLsbD, rfl, rfl, rfl, rfl, rfl, fun r b => rfl, rfl,
    fun l b => ⟨crc16_append l [b], crc16_residue l⟩, fun g => ⟨hash6_eq g, hash6_lt g⟩, fun a n data hn hdata => ?_,
    fun a l b => ⟨?_, rfl, rfl⟩, fun op acks n => ⟨fun hacks => ?_, fun pre e post rest hsequence he hacks => ?_, rfl⟩⟩
  · subst hbody
    rfl
  · rw [frameBits, frameBytes_length]
    omega
  · unfold State.verdictPayload
    cases m.leading <;> rfl
  · rw [← sigLatch_eq, ← sigLatch_eq, ← sourceLatch_eq]
    rfl
  · rw [hdata, ← readSequence_eq hn]
    exact ⟨sequence_fixtureRead a n, sequence_tagRead a n⟩
  · rw [BusOp.sequence, writeSequence, wordAddress_tag, List.map_append]
    rfl
  · rw [hacks]
    exact busRun_acknowledged _
  · rw [hsequence, hacks, busRun_append, busRun_false he]

end Sys2Proof.Proofs
end

section
/-! # Scope: the roster's entries, the contest for the allowance, and the completion of the own CLAIM (R44 to R46, R48, R50, R53 to R55, R57, R60, R64, R65, R73, R78) -/

namespace Sys2Proof.Proofs

open Sys2Proof.Machine

/-! ### The roster (R44 to R46) -/

/-- The source's entry is the new one, and every other source's entry is as it was. -/
theorem mem_rosterPut (x e : RosterEntry) (r : List RosterEntry) : e ∈ rosterPut x r ↔ e = x ∨ (e ∈ r ∧ e.source ≠ x.source) := by
  unfold rosterPut
  split
  · next hany =>
    obtain ⟨y, hy, hsource⟩ := List.any_eq_true.1 hany
    rw [beq_iff_eq] at hsource
    rw [List.mem_map]
    constructor
    · rintro ⟨z, hz, rfl⟩
      split
      · exact .inl rfl
      · next hne => exact .inr ⟨hz, hne⟩
    · rintro (rfl | ⟨he, hne⟩)
      · exact ⟨y, hy, if_pos hsource⟩
      · exact ⟨e, he, if_neg hne⟩
  · next hany =>
    have hnew : ∀ y ∈ r, y.source ≠ x.source := by simpa using hany
    rw [List.mem_append, List.mem_singleton]
    constructor
    · exact fun h => h.symm.imp id fun he => ⟨he, hnew e he⟩
    · exact fun h => h.symm.imp And.left id

theorem rosterWithout_of_absent {b : Byte} {s : State} (h : ∀ e ∈ s.claim.roster, e.source ≠ b) : s.rosterWithout b = s.claim.roster :=
  List.filter_eq_self.2 fun e he => decide_eq_true (h e he)

/-- A WITHDRAW or SETTLED from a station with no entry changes no sum, and nothing else (R46). -/
theorem takeRelease_of_absent {h : Header} {s : State} (habsent : ∀ e ∈ s.claim.roster, e.source ≠ h.source) : s.takeRelease h = s := by
  rw [State.takeRelease, rosterRemove_eq, rosterWithout_of_absent habsent, rosterChanged_same rfl]
  rfl

theorem takeRelease_roster (h : Header) (s : State) : (s.takeRelease h).claim.roster = s.rosterWithout h.source := by
  rw [State.takeRelease, State.rosterChanged_roster, rosterRemove_eq]

/-- Settles O13: the entry that the roster takes, and the frame of a roster change. -/
theorem claimEntersRoster : Obligations.ClaimEntersRoster := by
  unfold Obligations.ClaimEntersRoster
  intro h weight duration cycle s hr
  refine ⟨s.takeClaim h weight duration, congrArg _ (State.received_reaches _ _ _ hr _), fun e => ?_, by simp [SameBut]⟩
  rw [State.takeClaim, State.rosterChanged_roster]
  exact mem_rosterPut _ e s.claim.roster

/-- Settles O14: WITHDRAW and SETTLED are taken by one operation, which does not read the outcome. -/
theorem releaseRemovesEntry : Obligations.ReleaseRemovesEntry := by
  unfold Obligations.ReleaseRemovesEntry
  intro h outcome s hr
  have hwithdraw : exec (.withdraw h) s = .next (s.takeRelease h) := congrArg _ (State.received_reaches _ _ _ hr _)
  have hsettled : exec (.settled h outcome) s = .next (s.takeRelease h) := congrArg _ (State.received_reaches _ _ _ hr _)
  have hsame : SameBut [.claim, .port] s (s.takeRelease h) := by simp [SameBut]
  refine ⟨⟨_, hwithdraw, takeRelease_roster h s, hsame⟩, ⟨_, hsettled, takeRelease_roster h s, hsame⟩, fun habsent => ?_⟩
  rw [hwithdraw, hsettled, takeRelease_of_absent habsent]
  exact ⟨rfl, rfl⟩

/-! ### RAMP entry (R60, R65) -/

/-- The sequencer after a RAMP entry. -/
theorem enterRamp_seq (p : Profile) (s : State) :
    (s.enterRamp p).seq =
      { s.seq with phase := .ramp, lines := Phase.ramp.lines, rampDeadline := some (s.clock + BitVec.ofNat 32 p.duration), onDeadline := none,
                   drainDeadline := none, offDeadline := none } := by
  simp [State.enterRamp, State.changePhase, Sequencer.phaseChanged, keepIf, Phase.runs, timeAfter]

theorem rampIfWaiting_of_waiting {p : Profile} {s : State} (h : s.seq.phase = .waiting) : s.rampIfWaiting p = s.enterRamp p := by
  simp only [State.rampIfWaiting, h]

/-! ### The end of a hold and of the off-time (R50, R55, R64, R73) -/

section
variable {s : State} {p : Profile}

theorem tryClaim_of_fails (h : p.allowance < budgetSum s.claim.roster + p.weight) : s.tryClaim p = s.setClaim { s.claim with state := .blocked } := by
  rcases State.tryClaim_spec p s with ⟨hpass, -⟩ | ⟨-, heq⟩
  · omega
  · exact heq

theorem tryClaim_of_passes (h : budgetSum s.claim.roster + p.weight ≤ p.allowance) :
    s.tryClaim p = (s.handStep (s.ownClaim p)).setClaim { s.claim with state := .queued } := by
  rcases State.tryClaim_spec p s with ⟨-, heq⟩ | ⟨hfail, -⟩
  · exact heq
  · omega

theorem holdEnd_of_running {d : Time} (hc : s.claim.state = .held d) (hd : (s.clock - d).toInt < 0) : s.holdEnd = s := by
  unfold State.holdEnd
  rw [hc]
  cases s.profile <;> simp [not_expired_of_neg hd]

theorem holdEnd_of_runOut {d : Time} (hp : s.profile = some p) (hc : s.claim.state = .held d) (hd : 0 ≤ (s.clock - d).toInt) :
    s.holdEnd = if s.port.stationId = 0#5 then (s.setClaimState .idle).rampIfWaiting p else s.tryClaim p := by
  by_cases hid : s.port.stationId = 0#5 <;> simp [State.holdEnd, hp, hc, (expired_iff _ _).2 hd, State.standalone, hid]

theorem offTimeOut_of_not_due (h : ¬RunOut s s.seq.offDeadline ∨ s.seq.phase ≠ .rest) : s.offTimeOut = s := by
  unfold State.offTimeOut
  split
  · next hrest =>
    exact if_neg fun hdue => h.elim (fun hn => hn ((expiredOpt_iff _ _).1 hdue)) fun hn => hn hrest
  · rfl

/-- The state that the end of a REST begins its contest in: the next cycle, in WAITING (R64, R73). -/
def nextCycle (s : State) : State := (s.setSeq { s.seq with cycle := s.seq.cycle + 1#8 }).changePhase .waiting

theorem offTimeOut_of_due (hp : s.profile = some p) (hrun : RunOut s s.seq.offDeadline) (hrest : s.seq.phase = .rest) (hc : s.claim.state = .idle) :
    s.offTimeOut = (nextCycle s).beginContest p := by
  have hidle : (nextCycle s).claim.state = .idle := by simpa [nextCycle] using hc
  have hentry : s.offTimeOut = (nextCycle s).claimWaitingEntry p := by
    simp only [State.offTimeOut, hp, hrest, (expiredOpt_iff _ _).2 hrun, if_true]
    rfl
  rw [hentry, State.claimWaitingEntry, hidle]

/-- What the contest finds in WAITING is what REST has left, but for phase and cycle. -/
theorem nextCycle_frame (s : State) :
    (nextCycle s).seq.phase = .waiting ∧ (nextCycle s).seq.cycle = s.seq.cycle + 1#8 ∧ (nextCycle s).claim = s.claim
      ∧ (nextCycle s).port = s.port ∧ (nextCycle s).clock = s.clock ∧ (nextCycle s).rail.sag = s.rail.sag := by
  simp [nextCycle]

theorem beginContest_of_sag (h : s.rail.sag = .inForce) : s.beginContest p = s.setClaimState (.held s.freshHold) := by
  simp only [State.beginContest, h]
  rfl

theorem beginContest_of_standalone {n : Nat} (h : s.rail.sag = .armed n) (hid : s.port.stationId = 0#5) (hw : s.seq.phase = .waiting) :
    s.beginContest p = (s.setClaimState .idle).enterRamp p := by
  have hs : s.standalone = true := by simp [State.standalone, hid]
  simp only [State.beginContest, h, hs, if_true]
  exact rampIfWaiting_of_waiting hw

theorem beginContest_of_line {n : Nat} (h : s.rail.sag = .armed n) (hid : s.port.stationId ≠ 0#5) : s.beginContest p = s.tryClaim p := by
  simp [State.beginContest, h, State.standalone, hid]

end

/-- Settles O31: the off-time's contest by the sag detector, the straps and the budget, and the hold's end by the straps and the budget. -/
theorem contestForAllowance : Obligations.ContestForAllowance := by
  unfold Obligations.ContestForAllowance
  refine ⟨fun s p hp => ⟨fun hnot => congrArg _ (offTimeOut_of_not_due hnot), fun hrun hrest hc => ?_⟩, fun s p d hp hc => ⟨fun hd => ?_,
    fun hd hid hfail => ?_, fun hd hid hpass => ?_, fun hd hid hw => ?_⟩⟩
  · have hout := offTimeOut_of_due hp hrun hrest hc
    obtain ⟨hphase, hcycle, hclaim, hport, hclock, hsag⟩ := nextCycle_frame s
    have keeps := enterWaiting_keeps p (s.setSeq { s.seq with cycle := s.seq.cycle + 1#8 })
    have hwait : s.offTimeOut = (s.setSeq { s.seq with cycle := s.seq.cycle + 1#8 }).enterWaiting p := by
      simp [State.offTimeOut, hp, hrest, (expiredOpt_iff _ _).2 hrun]
    rw [← hwait] at keeps
    refine ⟨_, rfl, keeps.cycle, keeps.done, keeps.roster, by simp [SameBut], fun hs => ?_, fun n hs hid => ?_, fun n hs hid hfail => ?_,
      fun n hs hid hpass => ?_⟩
    · rw [hout, beginContest_of_sag (hsag.trans hs), State.freshHold, hclock, hport]
      exact ⟨hphase, hport, rfl⟩
    · rw [hout, beginContest_of_standalone (hsag.trans hs) (by rwa [hport]) hphase]
      exact ⟨enterRamp_phase _ _, by simp [State.enterRamp, State.setClaimState], by simp [State.enterRamp, hport]⟩
    · rw [hout, beginContest_of_line (hsag.trans hs) (by rwa [hport]), tryClaim_of_fails (by rwa [hclaim])]
      exact ⟨hphase, rfl, hport⟩
    · have hline : (nextCycle s).port.stationId ≠ 0#5 := by rwa [hport]
      obtain ⟨hstep, hchecked, -⟩ := tryClaim_checked p hline
      obtain ⟨hqueued, m, hm, htarget, -, hcontent⟩ := hchecked (by rwa [hclaim])
      rw [hout, beginContest_of_line (hsag.trans hs) hline]
      exact ⟨by rw [hstep.seq, hphase], hqueued, m, hm, htarget, by rw [hcontent, hcycle]⟩
  · exact congrArg _ (holdEnd_of_running hc hd)
  · refine congrArg _ (?_ : s.holdEnd = _)
    rw [holdEnd_of_runOut hp hc hd, if_neg hid, tryClaim_of_fails hfail]
    rfl
  · have hout : s.holdEnd = s.tryClaim p := by rw [holdEnd_of_runOut hp hc hd, if_neg hid]
    refine ⟨s.holdEnd, rfl, ?_, ?_, ?_⟩ <;> rw [hout]
    · rw [tryClaim_of_passes hpass]
      rfl
    · exact ((tryClaim_checked p hid).2.1 hpass).2
    · simp [SameBut]
  · have hout : s.holdEnd = (s.setClaimState .idle).enterRamp p := by
      rw [holdEnd_of_runOut hp hc hd, if_pos hid]
      exact rampIfWaiting_of_waiting hw
    refine ⟨s.holdEnd, rfl, ?_, ?_, ?_, ?_, ?_⟩ <;> rw [hout]
    · simp [State.enterRamp, State.setClaimState]
    · exact enterRamp_phase _ _
    · rw [enterRamp_seq]
      rfl
    · rw [enterRamp_seq]
      rfl
    · simp [SameBut, State.enterRamp]

/-! ### The completion of the own CLAIM (R53, R54, R57) -/

section
variable {s : State} {p : Profile}

theorem claimCompleted_of_passes (hp : s.profile = some p) (hc : s.claim.state = .queued) (h : budgetSum s.claim.roster + p.weight ≤ p.allowance) :
    s.claimCompleted = (s.setClaimState .standing).rampIfWaiting p := by
  have hpass : s.budgetPasses p = true := decide_eq_true h
  simp only [State.claimCompleted, hc, hp, hpass, if_true]

theorem claimCompleted_of_fails (hp : s.profile = some p) (hc : s.claim.state = .queued) (h : p.allowance < budgetSum s.claim.roster + p.weight) :
    s.claimCompleted = s.handWithdraw.startHold := by
  have hfail : s.budgetPasses p = false := decide_eq_false (Nat.not_le.2 h)
  simp only [State.claimCompleted, hc, hp, hfail, Bool.false_eq_true, if_false]

theorem rampIfWaiting_claim (p : Profile) (s : State) : (s.rampIfWaiting p).claim = s.claim := by
  unfold State.rampIfWaiting
  split <;> simp [State.enterRamp]

/-- The hold of a yield runs from the completion, with the draw of that instant (R54, R55). -/
theorem handWithdraw_startHold_spec (hs : s.port.stationId ≠ 0#5) :
    s.handWithdraw.startHold.claim.state = .held s.freshHold ∧ ClaimStep s s.handWithdraw.startHold
      ∧ ∃ m ∈ s.handWithdraw.startHold.port.queue, m.content = .withdraw ∧ m.target = 0#8 := by
  obtain ⟨hstep, -, hmem⟩ := handWithdraw_claimStep hs
  have hfresh : s.handWithdraw.freshHold = s.freshHold := by rw [State.freshHold, State.freshHold, hstep.clock, hstep.generator]
  exact ⟨congrArg ClaimState.held hfresh, hstep.trans (setClaimState_claimStep _ _), hmem⟩

/-- A completed CLAIM leaves the roster as it is, whatever the claim state. -/
theorem claimCompleted_roster (hs : s.port.stationId ≠ 0#5) (hp : s.profile = some p) : s.claimCompleted.claim.roster = s.claim.roster := by
  cases hc : s.claim.state with
  | queued =>
    rcases Nat.lt_or_ge p.allowance (budgetSum s.claim.roster + p.weight) with hfail | hpass
    · rw [claimCompleted_of_fails hp hc hfail]
      exact (handWithdraw_startHold_spec hs).2.1.roster
    · rw [claimCompleted_of_passes hp hc hpass, rampIfWaiting_claim]
      rfl
  | cancellingSag d => exact (claimCompleted_cancellingEnded hs hp (.inl ⟨d, hc⟩)).1.step.roster
  | cancellingEnd => exact (claimCompleted_cancellingEnded hs hp (.inr hc)).1.step.roster
  | idle | blocked | held | standing => simp only [State.claimCompleted, hc]

end

/-- Settles O22: by the claim state and the budget check, on the port that the CLAIM has left. -/
theorem claimCompletes : Obligations.ClaimCompletes := by
  unfold Obligations.ClaimCompletes
  intro s p b bt f n q alertFirst hs hp htx hq hbt hn
  obtain ⟨u, hu⟩ : ∃ u : State, u = { s with port := s.port.headGone (b + 8 * f.length) q } := ⟨_, rfl⟩
  have hexec : exec (.attemptCompletion bt alertFirst) s = .next u.claimCompleted := by
    refine congrArg _ (?_ : s.attemptCompletion bt alertFirst = _)
    rw [attemptCompletion_of_sent alertFirst htx hq hbt, if_pos hn, hu]
  have hline : u.port.stationId ≠ 0#5 := by rw [hu]; exact hs
  have hprofile : u.profile = some p := by rw [hu]; exact hp
  have hclaim : u.claim = s.claim := by rw [hu]
  have hseq : u.seq = s.seq := by rw [hu]
  have hclock : u.clock = s.clock := by rw [hu]
  have hfresh : u.freshHold = s.freshHold := by rw [hu]; rfl
  have hqueue : u.port.queue = q := by rw [hu]; rfl
  have hsame : SameBut [.port, .claim, .seq, .rail, .lis] s u.claimCompleted := by
    rw [hu]
    simp [SameBut]
  refine ⟨_, hexec, (claimCompleted_roster hline hprofile).trans (by rw [hclaim]), fun hc hw hpass => ?_, fun hc hfail => ?_, fun d hc hd => ?_,
    fun hc hw => ?_, hsame⟩
  · rw [claimCompleted_of_passes hprofile (by rwa [hclaim]) (by rwa [hclaim]), rampIfWaiting_of_waiting (by rw [← hseq] at hw; exact hw), enterRamp_seq]
    refine ⟨by simp [State.enterRamp, State.setClaimState], rfl, rfl, rfl, rfl, ?_, ?_⟩
    · rw [← hclock]
      rfl
    · rw [← hqueue]
      simp [State.enterRamp]
  · rw [claimCompleted_of_fails hprofile (by rwa [hclaim]) (by rwa [hclaim])]
    obtain ⟨hheld, hstep, hwithdraw⟩ := handWithdraw_startHold_spec hline
    exact ⟨hheld.trans (congrArg _ hfresh), hstep.seq.trans hseq, hwithdraw⟩
  · rw [← hclaim] at hc
    obtain ⟨hended, hwithdraw⟩ := claimCompleted_cancellingEnded hline hprofile (.inl ⟨d, hc⟩)
    refine ⟨?_, hended.step.seq.trans hseq, hwithdraw⟩
    have hrunning : (u.handWithdraw.clock - d).toInt < 0 := by
      rw [(handWithdraw_claimStep hline).1.clock, hclock]
      exact hd
    simp only [State.claimCompleted, hc, cancellingSagEnds_of_running hrunning]
    rfl
  · rw [← hclaim] at hc
    rw [← hseq] at hw
    obtain ⟨hended, hwithdraw⟩ := claimCompleted_cancellingEnded hline hprofile (.inr hc)
    refine ⟨?_, hended.step.seq.trans hseq, hwithdraw⟩
    have hphase : u.handWithdraw.seq.phase ≠ .waiting := by
      rw [(handWithdraw_claimStep hline).1.seq]
      exact hw
    simp only [State.claimCompleted, hc, cancellingEndEnds_elsewhere hphase]
    rfl

end Sys2Proof.Proofs
end

section
/-! # Scope: a sag at the claim logic and at the judge, and what hand-overs leave of the line port (R35 to R37, R55, R56, R134, R137, R138, R142, R184) -/

namespace Sys2Proof.Proofs

open Sys2Proof.Machine

/-! ### Non-step notices that join the port -/

/-- What hand-overs of notices other than CLAIMs leave of the line port: they stand behind its queue, and a standalone port takes none (R21, R35). -/
structure Joined (x y : LinePort) : Prop where
  stationId : y.stationId = x.stationId
  generator : y.generator = x.generator
  queue : ∃ l, (∀ n ∈ l, n.isClaim = false) ∧ y.queue = x.queue ++ l
  tx : x.tx ≠ .idle → y.tx = x.tx
  onWire : y.claimOnWire = x.claimOnWire
  alone : x.stationId = 0#5 → y = x

theorem Joined.refl (x : LinePort) : Joined x x := ⟨rfl, rfl, ⟨[], by simp⟩, fun _ => rfl, rfl, fun _ => rfl⟩

theorem Joined.of_eq {x y : LinePort} (h : y = x) : Joined x y := h ▸ .refl x

theorem Joined.trans {x y z : LinePort} (h : Joined x y) (k : Joined y z) : Joined x z := by
  obtain ⟨l, hl, hy⟩ := h.queue
  obtain ⟨m, hm, hz⟩ := k.queue
  refine ⟨k.stationId.trans h.stationId, k.generator.trans h.generator, ⟨l ++ m, fun n hn => ?_, by rw [hz, hy, List.append_assoc]⟩, fun hx => ?_,
    k.onWire.trans h.onWire, fun hx => ?_⟩
  · exact (List.mem_append.1 hn).elim (hl n) (hm n)
  · rw [k.tx (by rwa [h.tx hx]), h.tx hx]
  · rw [k.alone (by rwa [h.stationId]), h.alone hx]

theorem Joined.mem {x y : LinePort} (h : Joined x y) {n : Notice} (hn : n ∈ x.queue) : n ∈ y.queue := by
  obtain ⟨l, -, hy⟩ := h.queue
  rw [hy]
  exact List.mem_append_left l hn

theorem Joined.claim_free {x y : LinePort} (h : Joined x y) (hx : ∀ n ∈ x.queue, n.isClaim = false) : ∀ n ∈ y.queue, n.isClaim = false := by
  obtain ⟨l, hl, hy⟩ := h.queue
  rw [hy]
  exact fun n hn => (List.mem_append.1 hn).elim (hx n) (hl n)

theorem accepting_joined {x : LinePort} {n : Notice} (hs : x.stationId ≠ 0#5) (hn : n.isClaim = false) : Joined x (x.accepting n) :=
  ⟨rfl, rfl, ⟨[n], by simpa using hn, rfl⟩, fun h => if_neg h, accepting_claimOnWire hn x, fun h => absurd h hs⟩

section
variable {s : State}

theorem setCondition_joined (c : Condition) : Joined s.port (s.setCondition c).port := by
  obtain ⟨-, -, -, -, -, hport | ⟨-, -, -, hs, hport⟩⟩ := State.setCondition_spec c s <;> rw [hport]
  · exact .refl _
  · exact accepting_joined hs rfl

theorem handNotice_joined {n : Notice} (hn : n.isClaim = false) : Joined s.port (s.handNotice n).1.port := by
  rcases State.handNotice_spec n s with ⟨-, h⟩ | ⟨hs, -, h⟩ | ⟨-, -, h⟩ <;> rw [h]
  · exact .refl _
  · exact accepting_joined hs hn
  · exact setCondition_joined _

end

/-! ### A sag at the claim logic (R56) -/

/-- What a sag leaves of the own claim, its hold and its CLAIM; other notices stay in the queue. -/
structure SagTold (s t : State) : Prop where
  roster : t.claim.roster = s.claim.roster
  held : s.claim.state = .blocked ∨ (∃ d, s.claim.state = .held d) ∨ (s.claim.state = .queued ∧ s.port.claimOnWire = false) →
    t.claim.state = .held s.freshHold
  removed : s.claim.state = .queued → s.port.claimOnWire = false → ∀ n ∈ t.port.queue, n.isClaim = false
  marked : s.claim.state = .queued → s.port.claimOnWire = true →
    t.claim.state = .cancellingSag s.freshHold ∧ t.port.cancelAsked = true ∧ t.port.tx = s.port.tx
  restarted : (∃ d, s.claim.state = .cancellingSag d) → t.claim.state = .cancellingSag s.freshHold
  unmoved : s.claim.state = .idle ∨ s.claim.state = .standing ∨ s.claim.state = .cancellingEnd → t.claim.state = s.claim.state
  port : s.claim.state ≠ .queued → Joined s.port t.port
  queue : ∀ n ∈ s.port.queue, n.isClaim = false → n ∈ t.port.queue

/-- The hold that replaces a CLAIM taken out of the queue is drawn from the same generator. -/
theorem claimSag_of_removed {s : State} (hc : s.claim.state = .queued) (hw : s.port.claimOnWire = false) :
    s.claimSag = (s.setPort s.port.withoutClaim).setClaimState (.held s.freshHold) := by
  have hfresh : State.holdDeadline (s.setPort s.port.withoutClaim) = s.freshHold := by
    simp only [State.holdDeadline, State.draw, State.setPort_port, State.setPort_clock, (withoutClaim_eq s.port).2.1]
    rfl
  simp [State.claimSag, hc, hw, cancelClaim_of_not_onWire hw, State.startHold, hfresh]

theorem claimSag_of_onWire {s : State} (hc : s.claim.state = .queued) (hw : s.port.claimOnWire = true) :
    s.claimSag = (s.setPort { s.port with cancelAsked := true }).setClaimState (.cancellingSag s.freshHold) := by
  have hfresh : s.holdDeadline = s.freshHold := rfl
  simp [State.claimSag, hc, hw, State.cancelClaim, hfresh]

/-- In every claim state but QUEUED a sag leaves the port alone: it starts a hold, restarts it, or has no effect. -/
theorem claimSag_of_not_queued {s : State} (hc : s.claim.state ≠ .queued) :
    s.claimSag = s.setClaimState (match s.claim.state with
      | .blocked => .held s.freshHold | .held _ => .held s.freshHold | .cancellingSag _ => .cancellingSag s.freshHold | c => c) := by
  unfold State.claimSag
  cases h : s.claim.state with
  | queued => exact absurd h hc
  | blocked | held | cancellingSag => rfl
  | idle | standing | cancellingEnd => dsimp only; rw [← h]; rfl

theorem claimSag_told (s : State) : SagTold s s.claimSag := by
  by_cases hc : s.claim.state = .queued
  · cases hw : s.port.claimOnWire with
    | false =>
      rw [claimSag_of_removed hc hw]
      refine ⟨rfl, fun _ => rfl, fun _ _ => withoutClaim_free s.port, fun _ h => ?_, fun ⟨d, h⟩ => ?_, fun h => ?_, fun h => absurd hc h,
        fun n hn hclaim => ?_⟩
      · simp [hw] at h
      · simp [hc] at h
      · simp [hc] at h
      · simpa [(withoutClaim_eq s.port).2.2, hclaim] using hn
    | true =>
      rw [claimSag_of_onWire hc hw]
      refine ⟨rfl, fun h => ?_, fun _ h => ?_, fun _ _ => ⟨rfl, rfl, rfl⟩, fun ⟨d, h⟩ => ?_, fun h => ?_, fun h => absurd hc h, fun n hn _ => hn⟩
      · simp [hc, hw] at h
      · simp [hw] at h
      · simp [hc] at h
      · simp [hc] at h
  · rw [claimSag_of_not_queued hc]
    refine ⟨rfl, fun h => ?_, fun h => absurd h hc, fun h => absurd h hc, fun ⟨d, h⟩ => ?_, fun h => ?_, fun _ => .refl _, fun n hn _ => hn⟩
    · rcases h with h | ⟨d, h⟩ | ⟨h, -⟩
      · rw [h]; rfl
      · rw [h]; rfl
      · exact absurd h hc
    · rw [h]; rfl
    · rcases h with h | h | h <;> rw [h] <;> rfl

/-- A sag told behind hand-overs is a sag told before them: they move neither the claim nor what is on the wire. -/
theorem SagTold.of_joined {s u t : State} (h : SagTold u t) (hclaim : u.claim = s.claim) (hclock : u.clock = s.clock) (hport : Joined s.port u.port) :
    SagTold s t := by
  have hfresh : u.freshHold = s.freshHold := by rw [State.freshHold, State.freshHold, hclock, hport.generator]
  obtain ⟨hroster, hheld, hremoved, hmarked, hrestarted, hunmoved, hjoined, hqueue⟩ := h
  rw [hclaim, hfresh] at *
  rw [hport.onWire] at hheld hremoved hmarked
  refine ⟨hroster, hheld, hremoved, fun hc hw => ?_, hrestarted, hunmoved, fun hc => hport.trans (hjoined hc), fun n hn => hqueue n (hport.mem hn)⟩
  obtain ⟨hstate, hasked, htx⟩ := hmarked hc hw
  refine ⟨hstate, hasked, htx.trans (hport.tx fun hidle => ?_)⟩
  simp [LinePort.claimOnWire, LinePort.onWire, hidle] at hw

/-! ### A sag at the judge (R137, R138, R142) -/

/-- What a sag echo leaves of the judge: the sag flags that it sets, and its place in the echo list. -/
structure SagJudged (p : Profile) (e : Echo) (s t : State) : Prop where
  occurrences : t.judge.occurrences = s.judge.occurrences.map (fun o =>
    if ((e.eventTime - o.time).toInt).natAbs ≤ p.window + e.allowance then { o with sagFlag := true } else o)
  stored : e.retained p s.clock = true → s.judge.echoes.length < 32 →
    t.judge.echoes = s.judge.echoes ++ [e] ∧ t.judge.firstRefused = s.judge.firstRefused ∧ t.run = s.run ∧ t.port = s.port
  refused : e.retained p s.clock = true → 32 ≤ s.judge.echoes.length →
    t.judge.echoes = s.judge.echoes ∧ t.judge.firstRefused = s.judge.firstRefused.or (some e.source) ∧ t.run.conds.echoFull = true
  stale : e.retained p s.clock = false → t.judge.echoes = s.judge.echoes ∧ t.judge.firstRefused = s.judge.firstRefused
  port : Joined s.port t.port

theorem matchedBy_of_sag {p : Profile} {e : Echo} (he : e.kind = .sag) (o : Occurrence) :
    o.matchedBy p e = if ((e.eventTime - o.time).toInt).natAbs ≤ p.window + e.allowance then { o with sagFlag := true } else o := by
  have hm := matches_iff p e o
  simp only [he, reduceCtorEq, false_or, and_true] at hm
  unfold Occurrence.matchedBy
  simp only [hm, he]

theorem storeEcho_of_room {p : Profile} {e : Echo} {s : State} (hr : e.retained p s.clock = true) (h : s.judge.echoes.length < 32) :
    s.storeEcho p e = s.setJudge { s.judge with echoes := s.judge.echoes ++ [e] } := by
  rw [State.storeEcho, if_pos hr, if_pos (show _ < echoLimit from h)]

theorem storeEcho_of_full {p : Profile} {e : Echo} {s : State} (hr : e.retained p s.clock = true) (h : 32 ≤ s.judge.echoes.length) :
    s.storeEcho p e = (s.setJudge { s.judge with firstRefused := s.judge.firstRefused.or (some e.source) }).setCondition .echoFull := by
  rw [State.storeEcho, if_pos hr, if_neg (show ¬_ < echoLimit from Nat.not_lt.2 h)]
  cases s.judge.firstRefused <;> rfl

theorem storeEcho_of_stale {p : Profile} {e : Echo} {s : State} (hr : e.retained p s.clock = false) : s.storeEcho p e = s := by
  simp [State.storeEcho, hr]

theorem sagEcho_judged {p : Profile} {e : Echo} (he : e.kind = .sag) (s : State) : SagJudged p e s (s.sagEcho p e) := by
  have hmatched : (s.matchEcho p e).judge.occurrences = s.judge.occurrences.map (fun o =>
      if ((e.eventTime - o.time).toInt).natAbs ≤ p.window + e.allowance then { o with sagFlag := true } else o) :=
    List.map_congr_left fun o _ => matchedBy_of_sag he o
  unfold State.sagEcho
  cases hr : e.retained p s.clock with
  | false =>
    rw [storeEcho_of_stale (s := s.matchEcho p e) hr]
    exact ⟨hmatched, by simp [hr], by simp [hr], fun _ => ⟨rfl, rfl⟩, .refl _⟩
  | true =>
    by_cases hroom : s.judge.echoes.length < 32
    · rw [storeEcho_of_room (s := s.matchEcho p e) hr hroom]
      exact ⟨hmatched, fun _ _ => ⟨rfl, rfl, rfl, rfl⟩, fun _ h => by omega, by simp [hr], .refl _⟩
    · rw [storeEcho_of_full (s := s.matchEcho p e) hr (Nat.not_lt.1 hroom)]
      have hjudge : ∀ u : State, (u.setCondition .echoFull).judge = u.judge := fun u => by simp
      refine ⟨(congrArg Judge.occurrences (hjudge _)).trans hmatched, fun _ h => absurd h hroom, fun _ _ => ⟨(congrArg Judge.echoes (hjudge _)).trans rfl,
        (congrArg Judge.firstRefused (hjudge _)).trans rfl, (State.setCondition_spec .echoFull _).1⟩, by simp [hr], ?_⟩
      refine Joined.trans ?_ (setCondition_joined _)
      exact .refl _

/-! ### A received SAG -/

/-- The echo of a received SAG (R134). -/
def sagEchoOf (h : Header) (s : State) : Echo :=
  { kind := .sag, source := h.source, eventTime := s.clock - h.age.setWidth 32, allowance := 1 + (h.age.toNat + 255) / 256 }

theorem age_lt_iff (x : BitVec 16) : x.toNat < 65535 ↔ x ≠ 65535#16 := by
  bv_omega

theorem judgeSag_of_admitted {h : Header} {s : State} {p : Profile} (hp : s.profile = some p) (hage : h.age ≠ 65535#16) :
    s.judgeSag h = s.sagEcho p (sagEchoOf h s) := by
  simp only [State.judgeSag, hp, (age_lt_iff _).2 hage, if_true]
  rfl

theorem judgeSag_of_not_admitted {h : Header} {s : State} (hno : s.profile = none ∨ h.age = 65535#16) : s.judgeSag h = s := by
  unfold State.judgeSag
  split
  · rfl
  · next p hp =>
    refine if_neg fun hlt => (age_lt_iff _).1 hlt ?_
    exact hno.resolve_left (by simp [hp])

theorem judgeSag_joined (h : Header) (s : State) : Joined s.port (s.judgeSag h).port := by
  by_cases hno : s.profile = none ∨ h.age = 65535#16
  · rw [judgeSag_of_not_admitted hno]
    exact .refl _
  · rw [not_or] at hno
    obtain ⟨p, hp⟩ := Option.ne_none_iff_exists'.1 hno.1
    rw [judgeSag_of_admitted hp hno.2]
    exact (sagEcho_judged (p := p) (e := sagEchoOf h s) rfl s).port

/-- A port that hears is not sending, so the own CLAIM is not on the wire (R27, R41). -/
theorem claimOnWire_of_reaches {h : Header} {order : Bool} {s : State} (hr : Reaches h order s) : s.port.claimOnWire = false := by
  simp [LinePort.claimOnWire, hr.1.2.1]

/-- Settles O17: the claim logic is told first and leaves the judge as it is, which the echo then changes. -/
theorem sagReceived : Obligations.SagReceived := by
  unfold Obligations.SagReceived
  have hexec : ∀ (h : Header) (bus : BitVec 16) (s : State), Reaches h false s → exec (.sag h bus) s = .next (s.claimSag.judgeSag h) :=
    fun h bus s hr => congrArg _ (State.received_reaches _ _ _ hr _)
  refine ⟨fun h bus s hr => ?_, fun h bus s hr => ?_⟩
  · have hwire := claimOnWire_of_reaches hr
    have hclaim : (s.claimSag.judgeSag h).claim = s.claimSag.claim := by simp
    obtain ⟨hroster, hheld, hremoved, -, hrestarted, hunmoved, -, -⟩ := claimSag_told s
    refine ⟨_, hexec h bus s hr, by rw [hclaim, hroster], fun hc => ?_, fun hc => (judgeSag_joined h _).claim_free (hremoved hc hwire), fun hc => ?_,
      fun hc => by rw [hclaim, hunmoved hc], by simp [SameBut]⟩
    · rw [hclaim]
      exact hheld (by rcases hc with hc | hc | hc <;> simp [hc, hwire])
    · rw [hclaim]
      exact hrestarted hc
  · have hjudge : s.claimSag.judge = s.judge := by simp
    have hclock : s.claimSag.clock = s.clock := by simp
    have hprofile : s.claimSag.profile = s.profile := by simp
    refine ⟨_, hexec h bus s hr, fun hno => ?_, ?_⟩
    · rw [judgeSag_of_not_admitted (by rwa [hprofile]), hjudge]
    · rintro p hp hage e a rfl rfl
      have hecho : sagEchoOf h s.claimSag = sagEchoOf h s := by rw [sagEchoOf, hclock]; rfl
      have hjudged := sagEcho_judged (p := p) (e := sagEchoOf h s) rfl s.claimSag
      rw [judgeSag_of_admitted (hprofile.trans hp) hage, hecho]
      obtain ⟨hoccurrences, hstored, hrefused, hstale, -⟩ := hjudged
      rw [hjudge] at hoccurrences hstored hrefused hstale
      rw [hclock] at hstored hrefused hstale
      refine ⟨hoccurrences, fun hnear hroom => ?_, fun hnear hfull => ?_, fun hfar => ?_⟩
      · obtain ⟨hechoes, hfirst, -, -⟩ := hstored ((retained_iff p _ _).2 hnear) hroom
        exact ⟨hechoes, hfirst⟩
      · obtain ⟨hechoes, hfirst, hset⟩ := hrefused ((retained_iff p _ _).2 hnear) hfull
        refine ⟨hechoes, hset, hfirst.trans ?_⟩
        cases s.judge.firstRefused <;> rfl
      · refine hstale (Bool.eq_false_iff.2 fun hr => ?_)
        have := (retained_iff p _ _).1 hr
        exact absurd this (Int.not_le.2 hfar)

end Sys2Proof.Proofs
end

section
/-! # Scope: what fault reports leave of port, judge and table, and the deadlines of the powered phases (R58, R60, R62, R67, R70, R72, R87, R99, R118 to R126) -/

namespace Sys2Proof.Proofs

open Sys2Proof.Machine

/-! ### Fault reports and the other records (R116, R125) -/

section
variable {p : Profile} {g k : Sig} {t : Time} {s : State}

theorem find_append_other {x : SightingTable} {r : Record} (h : k ≠ r.sig) :
    SightingTable.find k { x with records := x.records ++ [r] } = x.find k := by
  simp [SightingTable.find, List.find?_append, Ne.symm h]

theorem announceOccurrence_find_other (h : k ≠ g) : (s.announceOccurrence p g t).table.find k = s.table.find k := by
  rw [announceOccurrence_table]
  change SightingTable.find k (if s.judge.occurrences.length < 8 then s.table else s.table.update g Record.leftUnjudged) = _
  split
  · rfl
  · exact SightingTable.find_update_other g k Record.leftUnjudged (fun _ => rfl) s.table h

theorem triggerSnapshot_find_other (h : k ≠ g) : (s.triggerSnapshot p g t).table.find k = s.table.find k := by
  rw [triggerSnapshot_table]
  split
  · exact SightingTable.find_update_other g k (fun r => { r with snapshot := (s.trigger p g t).2 }) (fun _ => rfl) s.table h
  · rfl

/-- A report touches no record of another signature, be it the first of its signature, lost, repeated or an occurrence. -/
theorem faultReport_find_other (h : k ≠ g) : (s.faultReport p g t).table.find k = s.table.find k := by
  unfold State.faultReport
  split
  · split
    · rw [triggerSnapshot_find_other h, announceOccurrence_find_other h]
      exact find_append_other h
    · have htable : ∀ u : State, (u.setCondition .tableFull).table = u.table := fun u => by simp
      exact (congrArg (SightingTable.find k) (htable _)).trans rfl
  · split
    · exact SightingTable.find_update_other g k (Record.repeated t) (fun _ => rfl) s.table h
    · rw [announceOccurrence_find_other h]
      exact SightingTable.find_update_other g k (Record.opened t) (fun _ => rfl) s.table h

end

/-! ### Fault reports at the line port and at the echo list -/

/-- An operation that hands notices over, if anything, and offers no echo. -/
structure HandsOver (s t : State) : Prop where
  port : Joined s.port t.port
  echoes : t.judge.echoes = s.judge.echoes

theorem HandsOver.refl (s : State) : HandsOver s s := ⟨.refl _, rfl⟩

theorem HandsOver.of_eq {s t : State} (hp : t.port = s.port) (hj : t.judge.echoes = s.judge.echoes) : HandsOver s t := ⟨.of_eq hp, hj⟩

theorem HandsOver.trans {s t u : State} (h : HandsOver s t) (k : HandsOver t u) : HandsOver s u :=
  ⟨h.port.trans k.port, k.echoes.trans h.echoes⟩

theorem HandsOver.ite {s t : State} (b : Bool) (h : HandsOver s t) : HandsOver s (if b then t else s) := by
  cases b
  · exact .refl s
  · exact h

section
variable (p : Profile) (g : Sig) (t : Time) (s : State)

theorem setCondition_handsOver (c : Condition) : HandsOver s (s.setCondition c) := ⟨setCondition_joined c, by simp⟩

theorem announceOccurrence_handsOver : HandsOver s (s.announceOccurrence p g t) := by
  have hoffered : Joined s.port (occurrenceOffered s).port := by
    unfold occurrenceOffered
    split
    · exact .refl _
    · exact setCondition_joined _
  refine ⟨?_, ?_⟩
  · rw [(announceOccurrence_alike p g t s).port]
    exact hoffered.trans (handNotice_joined rfl)
  · rw [announceOccurrence_judge]
    split <;> rfl

theorem triggerSnapshot_handsOver : HandsOver s (s.triggerSnapshot p g t) := by
  refine ⟨?_, by simp⟩
  obtain ⟨hmissed, hslot⟩ := triggerSnapshot_alike p g t s
  by_cases h : (p.classOf g).snapshot = true ∧ Missed s
  · rw [(hmissed h).port]
    exact setCondition_joined _
  · exact .of_eq (hslot h).port

theorem faultReport_handsOver : HandsOver s (s.faultReport p g t) := by
  unfold State.faultReport
  split
  · split
    · refine HandsOver.trans ?_ ((announceOccurrence_handsOver p g t _).trans (triggerSnapshot_handsOver p g t _))
      exact .of_eq rfl rfl
    · refine HandsOver.trans ?_ (setCondition_handsOver _ _)
      exact .of_eq rfl rfl
  · split
    · exact .of_eq rfl rfl
    · refine HandsOver.trans ?_ (announceOccurrence_handsOver p g t _)
      exact .of_eq rfl rfl

theorem foldl_handsOver {α : Type} {f : State → α → State} (h : ∀ s i, HandsOver s (f s i)) : ∀ (l : List α) (s : State), HandsOver s (l.foldl f s)
  | [], s => .refl s
  | i :: l, s => (h s i).trans (foldl_handsOver h l (f s i))

theorem faultReports_handsOver (cls : Nat) (l : List Nat) : HandsOver s (s.faultReports p cls l t) :=
  foldl_handsOver (fun s d => faultReport_handsOver p (signature cls d) t s) l s

end

/-! ### The end of a standing claim among hand-overs (R58, R60) -/

/-- What is handed over before and after the end of a standing claim neither hides its SETTLED nor moves the claim. -/
theorem standingEnded_among {o : Byte} {s u v t : State} (h : StandingEnded o u v) (hclaim : u.claim = s.claim) (hbefore : Joined s.port u.port)
    (hafter : v.claim.state = .idle → t.claim.state = .idle ∧ Joined v.port t.port) : StandingEnded o s t := by
  obtain ⟨hstanding, halone⟩ := h
  rw [hclaim, hbefore.stationId] at hstanding halone
  refine ⟨fun hs => ?_, fun hid hs => ?_⟩
  · obtain ⟨hidle, hnotice⟩ := hstanding hs
    obtain ⟨ht, hjoined⟩ := hafter hidle
    refine ⟨ht, fun hid => ?_⟩
    obtain ⟨n, hn, hcontent⟩ := hnotice hid
    exact ⟨n, hjoined.mem hn, hcontent⟩
  · obtain ⟨hidle, hport⟩ := halone hid hs
    obtain ⟨ht, hjoined⟩ := hafter hidle
    have hu : u.port = s.port := hbefore.alone hid
    exact ⟨ht, by rw [hjoined.alone (by rw [hport, hu]; exact hid), hport, hu]⟩

/-- A standing claim's end, by what it leaves. -/
theorem endStanding_standingEnded (o : Byte) (s : State) : StandingEnded o s (s.endStanding o) := by
  obtain ⟨x, c, heq, -, hended⟩ := endStanding_eq o s
  rw [heq]
  exact hended

theorem endStanding_roster (o : Byte) (s : State) : (s.endStanding o).claim.roster = s.claim.roster := by
  obtain ⟨x, c, heq, hroster, -⟩ := endStanding_eq o s
  rw [heq]
  exact hroster

/-! ### RAMP_DEADLINE (R67, R87) -/

theorem mem_channelsWhere (f : Nat → Bool) (k : Nat) : k ∈ channelsWhere f ↔ k < 8 ∧ f k = true := by
  simp [channelsWhere]

/-- The ramp-armed channels whose inside flag is clear (R87). -/
def rampFailed (p : Profile) (s : State) : List Nat :=
  channelsWhere (fun i => (p.channels.get i).rampFlag && !(s.rail.watch.get i).inside)

theorem mem_rampFailed (p : Profile) (s : State) (k : Nat) :
    k ∈ rampFailed p s ↔ k < 8 ∧ (p.channels.get k).rampFlag = true ∧ (s.rail.watch.get k).inside = false := by
  simp [rampFailed, mem_channelsWhere]

section
variable {s : State} {p : Profile}

theorem rampDeadlineOut_of_not_due (h : ¬RunOut s s.seq.rampDeadline ∨ s.seq.phase ≠ .ramp) : s.rampDeadlineOut = s := by
  unfold State.rampDeadlineOut
  split
  · next hramp =>
    exact if_neg fun hdue => h.elim (fun hn => hn ((expiredOpt_iff _ _).1 hdue)) fun hn => hn hramp
  · rfl

theorem rampDeadlineOut_of_due (hp : s.profile = some p) (hrun : RunOut s s.seq.rampDeadline) (hramp : s.seq.phase = .ramp) :
    s.rampDeadlineOut = ((s.faultReports p 3 (rampFailed p s) s.clock).endStanding 1#8).enterDrain p := by
  simp only [State.rampDeadlineOut, hp, hramp, (expiredOpt_iff _ _).2 hrun, if_true]
  rfl

/-! ### ON_TIME_DEADLINE (R70) -/

theorem runs_iff (ph : Phase) : ph.runs = true ↔ ph = .boot ∨ ph = .stress := by
  cases ph <;> simp [Phase.runs]

theorem onTimeOut_of_not_due (h : ¬RunOut s s.seq.onDeadline ∨ (s.seq.phase ≠ .boot ∧ s.seq.phase ≠ .stress)) : s.onTimeOut = s := by
  unfold State.onTimeOut
  split
  · refine if_neg fun hdue => ?_
    rw [Bool.and_eq_true, runs_iff, expiredOpt_iff] at hdue
    obtain ⟨hruns, hout⟩ := hdue
    rcases h with h | ⟨hboot, hstress⟩
    · exact h hout
    · exact hruns.elim hboot hstress
  · rfl

theorem onTimeOut_of_due (hp : s.profile = some p) (hrun : RunOut s s.seq.onDeadline) (hph : s.seq.phase = .boot ∨ s.seq.phase = .stress) :
    s.onTimeOut = s.enterDrain p := by
  simp [State.onTimeOut, hp, (runs_iff _).2 hph, (expiredOpt_iff _ _).2 hrun]

end

theorem enterDrain_lis (p : Profile) (s : State) :
    (s.enterDrain p).lis = { s.lis with idleFlag := false, parser := .hunt, gapDeadline := none, awaitDeadline := none, pulseDeadline := none } := by
  simp [State.enterDrain, State.changePhase, Listener.phaseChanged, Phase.runs]

theorem enterDrain_rail (p : Profile) (s : State) :
    (s.enterDrain p).rail = { s.rail with watch := s.rail.watch.map (ChannelWatch.phaseChanged .drain), tripCount := 0 } := by
  simp [State.enterDrain, State.changePhase, RailMonitor.phaseChanged, Phase.powered]

/-- Settles O30: both deadlines enter DRAIN, the ramp's behind its reports and the end of the standing claim. -/
theorem poweredPhasesEnd : Obligations.PoweredPhasesEnd := by
  unfold Obligations.PoweredPhasesEnd
  refine ⟨fun s p hp => ⟨fun hnot => congrArg _ (rampDeadlineOut_of_not_due hnot), fun hrun hramp => ?_⟩,
    fun s p hp => ⟨fun hnot => congrArg _ (onTimeOut_of_not_due hnot), fun hrun hph => ?_⟩⟩
  · have hsame : SameBut [.freeIndex, .run, .port, .claim, .seq, .rail, .lis, .table, .judge, .store] s s.rampDeadlineOut := by simp [SameBut]
    have hout := rampDeadlineOut_of_due hp hrun hramp
    have htable : s.rampDeadlineOut.table = (s.faultReports p 3 (rampFailed p s) s.clock).table := by rw [hout]; simp
    refine ⟨_, rfl, ?_, fun k hk hflag hinside => ?_, fun hinside => ?_, ?_, ?_, hsame⟩
    · rw [hout, enterDrain_seq]
      simp [Lines.unpowered]
    · rw [htable]
      exact (State.faultReports_spec p 3 s.clock (rampFailed p s) s).2 k ((mem_rampFailed p s k).2 ⟨hk, hflag, hinside⟩)
    · have hnone : rampFailed p s = [] := List.eq_nil_iff_forall_not_mem.2 fun k hk => by
        obtain ⟨hlt, hflag, hout⟩ := (mem_rampFailed p s k).1 hk
        simp [hinside k hlt hflag] at hout
      rw [htable, hnone]
      rfl
    · rw [hout]
      exact standingEnded_among (endStanding_standingEnded 1#8 _) (by simp) (faultReports_handsOver p s.clock s 3 _).port
        fun hidle => ⟨by simpa using hidle, .of_eq (by simp)⟩
    · rw [hout]
      simp [endStanding_roster]
  · have hsame : SameBut [.seq, .rail, .lis] s (s.enterDrain p) := by simp [SameBut]
    refine ⟨s.enterDrain p, congrArg _ (onTimeOut_of_due hp hrun hph), enterDrain_seq p s, enterDrain_lis p s, fun k hk => ?_, ?_, ?_, ?_, hsame⟩ <;>
      rw [enterDrain_rail]
    dsimp only
    rw [Eight.get_map _ _ k hk]
    exact ⟨rfl, rfl, rfl⟩

end Sys2Proof.Proofs
end

section
/-! # Scope: what a round's checks find and leave of the sag detector, and the sag that it confirms (R55, R56, R80, R81, R93, R94, R137) -/

namespace Sys2Proof.Proofs

open Sys2Proof.Machine

/-! ### The state that the checks of a round find (R80, R81, R96) -/

/-- The round sampled, written into the history and scaled. -/
def roundScaled (p : Profile) (inputs : Eight Int) (i : PanelSample) (s : State) : State :=
  ((s.roundBegun i).writeHistory (inputs.map convert)).scaleValues p (inputs.map convert)

section
variable {s : State} {p : Profile} {inputs : Eight Int} {i : PanelSample}

theorem exec_round_scaled (tripFirst : Bool) (hp : s.profile = some p) (hround : s.roundTaken = false) :
    exec (.round inputs i tripFirst) s = .next (((roundScaled p inputs i s).phaseChecks p tripFirst).sagCheck p) := by
  rw [exec_round _ _ _ _ hround]
  simp [State.roundHandled, hp, roundScaled]

@[simp] theorem roundScaled_frame :
    (roundScaled p inputs i s).clock = s.clock ∧ (roundScaled p inputs i s).run = s.run ∧ (roundScaled p inputs i s).port = s.port
      ∧ (roundScaled p inputs i s).claim = s.claim ∧ (roundScaled p inputs i s).seq = s.seq ∧ (roundScaled p inputs i s).lis = s.lis
      ∧ (roundScaled p inputs i s).table = s.table ∧ (roundScaled p inputs i s).judge = s.judge := by
  simp [roundScaled]

@[simp] theorem roundScaled_rail :
    (roundScaled p inputs i s).rail.sag = s.rail.sag ∧ (roundScaled p inputs i s).rail.tripCount = s.rail.tripCount
      ∧ (roundScaled p inputs i s).rail.watch = s.rail.watch := by
  simp [roundScaled, State.scaleValues, State.writeHistory]

theorem roundScaled_value {k : Nat} (hk : k < 8) : (roundScaled p inputs i s).rail.values.get k = roundValue p inputs k := by
  simp only [roundScaled, State.scaleValues, State.setRail_rail]
  rw [Eight.get_zip _ _ _ k hk, Eight.get_map _ _ k hk]
  rfl

end

/-! ### The window and REST checks (R84, R90) -/

/-- A check made channel by channel: it hands reports over and changes the channels' watch alone of the rail monitor. -/
structure Watched (s t : State) : Prop extends HandsOver s t where
  rail : t.rail = { s.rail with watch := t.rail.watch }

theorem Watched.refl (s : State) : Watched s s := ⟨.refl s, rfl⟩

theorem Watched.trans {s t u : State} (h : Watched s t) (k : Watched t u) : Watched s u := by
  refine ⟨h.toHandsOver.trans k.toHandsOver, ?_⟩
  have hu := k.rail
  rwa [h.rail] at hu

theorem setWatch_watched (k : Nat) (w : ChannelWatch) (s : State) : Watched s (s.setWatch k w) := ⟨.of_eq rfl rfl, rfl⟩

theorem faultReport_watched (p : Profile) (g : Sig) (t : Time) (s : State) : Watched s (s.faultReport p g t) :=
  ⟨faultReport_handsOver p g t s, by simp⟩

theorem windowStep_watched (p : Profile) (k : Nat) (s : State) : Watched s (s.windowStep p k) := by
  unfold State.windowStep
  dsimp only
  split
  · split
    · exact (setWatch_watched _ _ s).trans (faultReport_watched _ _ _ _)
    · exact setWatch_watched _ _ s
  · exact .refl s

theorem restStep_watched (p : Profile) (k : Nat) (s : State) : Watched s (s.restStep p k) := by
  unfold State.restStep
  dsimp only
  split
  · split
    · exact (setWatch_watched _ _ s).trans (faultReport_watched _ _ _ _)
    · exact setWatch_watched _ _ s
  · exact .refl s

theorem foldl_watched {step : State → Nat → State} (h : ∀ s k, Watched s (step s k)) : ∀ (l : List Nat) (s : State), Watched s (l.foldl step s)
  | [], s => .refl s
  | k :: l, s => (h s k).trans (foldl_watched h l (step s k))

theorem windowCheck_watched (p : Profile) (s : State) : Watched s (s.windowCheck p) := foldl_watched (fun s k => windowStep_watched p k s) _ s

theorem restCheck_watched (p : Profile) (s : State) : Watched s (s.restCheck p) := foldl_watched (fun s k => restStep_watched p k s) _ s

/-! ### The sag detector and the echo list until its own check (R93) -/

/-- An operation that neither the sag detector nor the echo list notices. -/
structure SagUnseen (s t : State) : Prop where
  sag : t.rail.sag = s.rail.sag
  echoes : t.judge.echoes = s.judge.echoes

theorem SagUnseen.refl (s : State) : SagUnseen s s := ⟨rfl, rfl⟩

theorem SagUnseen.trans {s t u : State} (h : SagUnseen s t) (k : SagUnseen t u) : SagUnseen s u := ⟨k.sag.trans h.sag, k.echoes.trans h.echoes⟩

theorem SagUnseen.ite {s t : State} (b : Bool) (h : SagUnseen s t) : SagUnseen s (if b then t else s) := by
  cases b
  · exact .refl s
  · exact h

theorem Watched.sagUnseen {s t : State} (h : Watched s t) : SagUnseen s t := ⟨by rw [h.rail], h.echoes⟩

section
variable (p : Profile) (s : State)

theorem enterStress_sagUnseen : SagUnseen s (s.enterStress p) := by
  refine ⟨?_, by simp⟩
  unfold State.enterStress
  dsimp only
  split <;> simp

theorem enterBoot_sagUnseen : SagUnseen s (s.enterBoot p) := by
  unfold State.enterBoot
  dsimp only
  split
  · refine SagUnseen.trans ?_ (enterStress_sagUnseen p _)
    exact ⟨by simp, by simp⟩
  · exact ⟨by simp, by simp⟩

theorem railsSettled_sagUnseen : SagUnseen s (s.railsSettled p) := by
  unfold State.railsSettled
  split
  · exact SagUnseen.trans ⟨by simp, by simp⟩ (enterBoot_sagUnseen p _)
  · exact .refl s

theorem takeTrip_sagUnseen : SagUnseen s (s.takeTrip p) := by
  have hopen : SagUnseen s s.openSwitch := ⟨by simp, by simp⟩
  unfold State.takeTrip
  split
  · exact (hopen.trans (faultReport_watched p (signature 5 s.seq.phase.code.toNat) s.clock s.openSwitch).sagUnseen).trans ⟨by simp [enterDrain_rail], by simp⟩
  · exact .refl s

theorem enterClosing_sagUnseen (reason : EndReason) : SagUnseen s (s.enterClosing reason) := by
  refine ⟨by simp, ?_⟩
  unfold State.enterClosing
  dsimp only
  split <;> simp [State.dropOccurrences]

theorem endDrain_sagUnseen : SagUnseen s (s.endDrain p) := by
  have hend : ∀ (reason : EndReason) (u : State), SagUnseen u (u.endRun reason) := fun reason u =>
    SagUnseen.trans ⟨by simp, by simp⟩ (enterClosing_sagUnseen u.enterOff reason)
  have hdone : SagUnseen s (s.setSeq { s.seq with done := s.seq.done + 1#8 }) := ⟨rfl, rfl⟩
  unfold State.endDrain
  dsimp only
  split
  · exact hdone.trans (hend _ _)
  · exact hdone.trans (hend _ _)
  · split
    · exact hdone.trans (hend _ _)
    · exact hdone.trans ⟨by simp [State.enterRest], by simp⟩

theorem tripCounted_sagUnseen : SagUnseen s (s.tripCounted p) := ⟨rfl, rfl⟩

theorem poweredChecks_sagUnseen (tripFirst : Bool) : SagUnseen s (s.poweredChecks p tripFirst) := by
  have hflags : SagUnseen s (if s.seq.phase == .ramp then s.rampFlags p else s) := SagUnseen.ite _ ⟨rfl, rfl⟩
  have hcounted := hflags.trans (tripCounted_sagUnseen p _)
  unfold State.poweredChecks
  dsimp only
  split
  · exact (hcounted.trans (.ite _ (takeTrip_sagUnseen p _))).trans (.ite _ (railsSettled_sagUnseen p _))
  · exact (hcounted.trans (.ite _ (railsSettled_sagUnseen p _))).trans (.ite _ (takeTrip_sagUnseen p _))

/-- The checks of every phase leave the detector and the echo list for the sag check as the round found them. -/
theorem phaseChecks_sagUnseen (tripFirst : Bool) : SagUnseen s (s.phaseChecks p tripFirst) := by
  have hflags : SagUnseen s (s.drainFlags p) := ⟨rfl, rfl⟩
  unfold State.phaseChecks
  cases s.seq.phase with
  | off | waiting => exact .refl s
  | ramp => exact poweredChecks_sagUnseen p s tripFirst
  | boot | stress => exact (windowCheck_watched p s).sagUnseen.trans (poweredChecks_sagUnseen p _ tripFirst)
  | rest => exact (restCheck_watched p s).sagUnseen
  | drain =>
    dsimp only
    split
    · refine hflags.trans ?_
      unfold State.drainComplete
      split
      · exact endDrain_sagUnseen p _
      · exact .refl _
    · exact hflags

end

theorem phaseChecks_of_unchecked {s : State} (p : Profile) (tripFirst : Bool) (h : s.seq.phase = .off ∨ s.seq.phase = .waiting) :
    s.phaseChecks p tripFirst = s := by
  rcases h with h | h <;> simp only [State.phaseChecks, h]

/-! ### A sag confirmed (R94) -/

/-- The own sag mark of this instant (R94, R137). -/
def ownMark (s : State) : Echo := { kind := .sag, source := s.ownId, eventTime := s.clock, allowance := 1 }

/-- The detector in force, its own mark taken by the judge. -/
def sagMarked (p : Profile) (s : State) : State := (s.setRail { s.rail with sag := .inForce }).sagEcho p (ownMark s)

/-- The SAG handed over behind the mark: the state in which the claim logic is told. -/
def sagHanded (p : Profile) (s : State) : State :=
  ((sagMarked p s).handNotice (handedAs (.sag (sagValue (s.rail.values.get 0))) 0#8 s)).1

/-- The SAG notice of a bus value, taken at an instant (R94). -/
def SagNotice (v : Nat) (t : Time) (m : Notice) : Prop := m.content = .sag (BitVec.ofNat 16 (min v 65535)) ∧ m.target = 0#8 ∧ m.eventTime = t

section
variable {p : Profile} {s : State}

theorem sagConfirmed_eq : s.sagConfirmed p = (sagHanded p s).claimSag := by
  have hrail : (sagMarked p s).rail.values = s.rail.values := by simp [sagMarked]
  have hclock : (sagMarked p s).clock = s.clock := by simp [sagMarked]
  rw [sagHanded, handedAs, ← hrail, ← hclock]
  rfl

theorem ownMark_retained : (ownMark s).retained p s.clock = true := by
  simp only [retained_iff, ownMark, BitVec.sub_self, BitVec.toInt_zero]
  omega

theorem sagMarked_judged : SagJudged p (ownMark s) (s.setRail { s.rail with sag := .inForce }) (sagMarked p s) := sagEcho_judged rfl _

@[simp] theorem sagHanded_frame : (sagHanded p s).clock = s.clock ∧ (sagHanded p s).claim = s.claim ∧ (sagHanded p s).seq = s.seq
    ∧ (sagHanded p s).judge = (sagMarked p s).judge ∧ (sagHanded p s).rail = { s.rail with sag := .inForce } := by
  simp [sagHanded, sagMarked]

theorem sagHanded_joined : Joined s.port (sagHanded p s).port := (sagMarked_judged (p := p)).port.trans (handNotice_joined rfl)

/-- The SAG is in the queue, or its refusal has set OUTBOUND_FULL (R35). -/
theorem sagHanded_notice (hs : s.port.stationId ≠ 0#5) :
    (∃ m ∈ (sagHanded p s).port.queue, m.isClaim = false ∧ SagNotice (s.rail.values.get 0) s.clock m)
      ∨ ¬Room (sagMarked p s) ∧ (sagHanded p s).run.conds.outboundFull = true := by
  unfold sagHanded
  rcases State.handNotice_spec (handedAs (.sag (sagValue (s.rail.values.get 0))) 0#8 s) (sagMarked p s) with ⟨hid, -⟩ | ⟨-, -, h⟩ | ⟨-, hfull, h⟩
  · rw [(sagMarked_judged (p := p)).port.stationId] at hid
    exact absurd hid hs
  · rw [h]
    exact .inl ⟨_, List.mem_append_right _ (List.mem_singleton_self _), rfl, rfl, rfl, rfl⟩
  · rw [h]
    exact .inr ⟨hfull, (State.setCondition_spec .outboundFull _).1⟩

theorem sagConfirmed_told : SagTold s (s.sagConfirmed p) := by
  rw [sagConfirmed_eq]
  exact (claimSag_told _).of_joined (by simp) (by simp) sagHanded_joined

/-- The SAG stays in the queue as the own CLAIM leaves it, and a refusal stays told. -/
theorem sagConfirmed_notice (hs : s.port.stationId ≠ 0#5) :
    (∃ m ∈ (s.sagConfirmed p).port.queue, SagNotice (s.rail.values.get 0) s.clock m)
      ∨ ¬Room (sagMarked p s) ∧ (s.sagConfirmed p).run.conds.outboundFull = true := by
  rw [sagConfirmed_eq]
  refine (sagHanded_notice (p := p) hs).imp (fun ⟨m, hm, hclaim, hnotice⟩ => ⟨m, (claimSag_told _).queue m hm hclaim, hnotice⟩)
    fun ⟨hfull, hset⟩ => ⟨hfull, ?_⟩
  rw [(sagHanded p s).claimSag_frame.2.2.2.2.2.1]
  exact hset

theorem sagConfirmed_judge : (s.sagConfirmed p).judge = (sagMarked p s).judge := by
  rw [sagConfirmed_eq]
  simp

theorem sagConfirmed_run : (s.sagConfirmed p).run = (sagHanded p s).run := by
  rw [sagConfirmed_eq]
  simp

@[simp] theorem sagConfirmed_rail : (s.sagConfirmed p).rail = { s.rail with sag := .inForce } := by
  rw [sagConfirmed_eq]
  simp

/-- A mark with no place in the echo list sets ECHO_FULL, which the hand-over of the SAG leaves set. -/
theorem sagConfirmed_echoes :
    (s.judge.echoes.length < 32 → (s.sagConfirmed p).judge.echoes = s.judge.echoes ++ [ownMark s])
      ∧ (32 ≤ s.judge.echoes.length → (s.sagConfirmed p).judge.echoes = s.judge.echoes ∧ (s.sagConfirmed p).run.conds.echoFull = true) := by
  obtain ⟨-, hstored, hrefused, -, -⟩ := sagMarked_judged (p := p) (s := s)
  rw [sagConfirmed_judge, sagConfirmed_run]
  refine ⟨fun hroom => (hstored ownMark_retained hroom).1, fun hfull => ?_⟩
  obtain ⟨hechoes, -, hset⟩ := hrefused ownMark_retained hfull
  exact ⟨hechoes, handNotice_rises _ _ .echoFull hset⟩

theorem sagConfirmed_flags : ∀ o ∈ (s.sagConfirmed p).judge.occurrences, ((s.clock - o.time).toInt).natAbs ≤ p.window + 1 → o.sagFlag = true := by
  rw [sagConfirmed_judge, (sagMarked_judged (p := p)).occurrences]
  intro o ho hnear
  obtain ⟨o', -, rfl⟩ := List.mem_map.1 ho
  split
  · rfl
  · next hfar =>
    rw [if_neg hfar] at hnear
    exact absurd hnear hfar

/-- With room for both, the mark sets no condition, and the SAG joins the queue. -/
theorem sagConfirmed_room (hs : s.port.stationId ≠ 0#5) (hroom : Room s) (hechoes : s.judge.echoes.length < 32) :
    ∃ m ∈ (s.sagConfirmed p).port.queue, SagNotice (s.rail.values.get 0) s.clock m := by
  refine (sagConfirmed_notice (p := p) hs).resolve_right fun ⟨hfull, _⟩ => hfull ?_
  obtain ⟨-, -, -, hport⟩ := (sagMarked_judged (p := p)).stored ownMark_retained hechoes
  rw [Room, hport]
  exact hroom

/-! ### The sag check of a round (R93) -/

theorem sagCheck_of_above {n : Nat} (hs : s.rail.sag = .armed n) (h : p.sagThreshold ≤ s.rail.values.get 0) :
    s.sagCheck p = s.setRail { s.rail with sag := .armed 0 } := by
  simp [State.sagCheck, hs, Nat.not_lt.2 h]

theorem sagCheck_of_below {n : Nat} (hs : s.rail.sag = .armed n) (h : s.rail.values.get 0 < p.sagThreshold) (hn : n + 1 < p.sagDwell) :
    s.sagCheck p = s.setRail { s.rail with sag := .armed (n + 1) } := by
  simp [State.sagCheck, hs, h, Nat.not_le.2 hn]

theorem sagCheck_of_confirmed {n : Nat} (hs : s.rail.sag = .armed n) (h : s.rail.values.get 0 < p.sagThreshold) (hn : p.sagDwell ≤ n + 1) :
    s.sagCheck p = s.sagConfirmed p := by
  simp [State.sagCheck, hs, h, hn]

theorem sagCheck_of_inForce (hs : s.rail.sag = .inForce) :
    s.sagCheck p = s.setRail { s.rail with sag := if p.sagThreshold + p.sagHysteresis ≤ s.rail.values.get 0 then .armed 0 else .inForce } := by
  simp only [State.sagCheck, hs]
  split
  · rfl
  · rw [← hs]
    rfl

/-- A sag check either confirms a sag or moves the detector alone. -/
theorem sagCheck_cases (p : Profile) (s : State) : s.sagCheck p = s.sagConfirmed p ∨ ∃ x, s.sagCheck p = s.setRail { s.rail with sag := x } := by
  cases hs : s.rail.sag with
  | inForce => exact .inr ⟨_, sagCheck_of_inForce hs⟩
  | armed n =>
    rcases Nat.lt_or_ge (s.rail.values.get 0) p.sagThreshold with hlt | hge
    · rcases Nat.lt_or_ge (n + 1) p.sagDwell with hn | hn
      · exact .inr ⟨_, sagCheck_of_below hs hlt hn⟩
      · exact .inl (sagCheck_of_confirmed hs hlt hn)
    · exact .inr ⟨_, sagCheck_of_above hs hge⟩

end

/-- Settles O29: the checks of the phase leave detector and echo list to the sag check, and in OFF and WAITING they leave everything to it. -/
theorem sagDetector : Obligations.SagDetector := by
  unfold Obligations.SagDetector
  intro inputs i tripFirst s p v hp hround hv
  obtain ⟨u, hu⟩ : ∃ u, u = (roundScaled p inputs i s).phaseChecks p tripFirst := ⟨_, rfl⟩
  have hexec : exec (.round inputs i tripFirst) s = .next (u.sagCheck p) := by rw [exec_round_scaled tripFirst hp hround, hu]
  have hunseen := phaseChecks_sagUnseen p (roundScaled p inputs i s) tripFirst
  have hvalues := (phaseChecks_checksKeep p tripFirst (roundScaled p inputs i s)).values
  have hstation := (phaseChecks_kept (roundScaled p inputs i s) p tripFirst).stationId
  rw [← hu] at hunseen hvalues hstation
  have hsag : u.rail.sag = s.rail.sag := hunseen.sag.trans (by simp)
  have hechoes : u.judge.echoes = s.judge.echoes := hunseen.echoes.trans (by simp)
  have hvalue : u.rail.values.get 0 = v := by rw [hvalues, roundScaled_value (by omega), hv]
  have hid : u.port.stationId = s.port.stationId := hstation.trans (by simp)
  have hclock : u.clock = s.clock := by rw [hu]; simp
  have hmark : ownMark u = ownMark s := by rw [ownMark, ownMark, State.ownId, State.ownId, hid, hclock]
  have hidle : s.seq.phase = .off ∨ s.seq.phase = .waiting → u.port = s.port ∧ u.claim = s.claim ∧ u.judge = s.judge := fun hph => by
    have hsame : u = roundScaled p inputs i s := hu.trans (phaseChecks_of_unchecked p tripFirst (by simpa using hph))
    rw [hsame]
    simp
  refine ⟨_, hexec, fun n hs hge => ?_, fun n hs hlt hn => ?_, fun n hs hlt hn => ?_, fun hs => ?_, fun hph => ⟨fun n hs hno => ?_, fun hs => ?_⟩⟩
  · rw [sagCheck_of_above (hsag.trans hs) (by rwa [hvalue])]
    rfl
  · rw [sagCheck_of_below (hsag.trans hs) (by rwa [hvalue]) hn]
    rfl
  · rw [sagCheck_of_confirmed (hsag.trans hs) (by rwa [hvalue]) hn]
    obtain ⟨hroom, hfull⟩ := sagConfirmed_echoes (p := p) (s := u)
    rw [hechoes, hmark] at hroom
    rw [hechoes] at hfull
    have hflags := sagConfirmed_flags (p := p) (s := u)
    have hnotice := sagConfirmed_notice (p := p) (s := u)
    have hnoticeRoom := sagConfirmed_room (p := p) (s := u)
    rw [hclock] at hflags hnotice hnoticeRoom
    rw [hid, hvalue] at hnotice hnoticeRoom
    rw [hechoes] at hnoticeRoom
    refine ⟨by simp, fun hline => (hnotice hline).imp id And.right, hroom, hfull, hflags, fun hph => ?_⟩
    obtain ⟨hport, hclaim, -⟩ := hidle hph
    obtain ⟨-, hheld, hremoved, hmarked, hrestarted, hunmoved, -, -⟩ :=
      (sagConfirmed_told (p := p) (s := u)).of_joined hclaim hclock (.of_eq hport)
    exact ⟨fun hline hr => hnoticeRoom hline (by rwa [Room, hport]), hheld, hremoved, hmarked, hrestarted, hunmoved⟩
  · rw [sagCheck_of_inForce (hsag.trans hs), hvalue]
    rfl
  · obtain ⟨-, hclaim, hjudge⟩ := hidle hph
    rcases Nat.lt_or_ge v p.sagThreshold with hlt | hge
    · rw [sagCheck_of_below (hsag.trans hs) (by rwa [hvalue]) (Nat.not_le.1 fun hn => hno ⟨hlt, hn⟩)]
      exact ⟨hjudge, hclaim⟩
    · rw [sagCheck_of_above (hsag.trans hs) (by rwa [hvalue])]
      exact ⟨hjudge, hclaim⟩
  · obtain ⟨-, hclaim, hjudge⟩ := hidle hph
    rw [sagCheck_of_inForce (hsag.trans hs)]
    exact ⟨hjudge, hclaim⟩

end Sys2Proof.Proofs
end

section
/-! # Scope: the settled and trip reports of a powered round (R58, R60, R66, R68, R71, R86, R91, R92, R107) -/

namespace Sys2Proof.Proofs

open Sys2Proof.Machine

/-! ### BOOT and DRAIN entry -/

section
variable (p : Profile) (s : State)

theorem enterStress_seq :
    (s.enterStress p).seq =
      { s.seq with phase := .stress, lines := Phase.stress.lines, rampDeadline := none, drainDeadline := none, offDeadline := none } := by
  unfold State.enterStress
  dsimp only
  split <;> simp [State.changePhase, Sequencer.phaseChanged, keepIf, Phase.runs]

/-- With no stages STRESS is entered in the same instant; its lines are BOOT's (R68). -/
theorem enterBoot_seq :
    (s.enterBoot p).seq =
      { s.seq with phase := if p.stages = [] then .stress else .boot, lines := Phase.boot.lines, rampDeadline := none,
                   onDeadline := some (s.clock + BitVec.ofNat 32 (1000 * p.onTime)), drainDeadline := none, offDeadline := none } := by
  unfold State.enterBoot
  cases hstages : p.stages with
  | nil => simp [enterStress_seq, State.changePhase, Sequencer.phaseChanged, keepIf, Phase.runs, timeAfter, Phase.lines]
  | cons st rest => simp [State.changePhase, Sequencer.phaseChanged, keepIf, Phase.runs, timeAfter]

/-- STRESS entry starts the pulse watch and leaves the listener as it is (R111). -/
theorem enterStress_lis : ∃ d, (s.enterStress p).lis = { s.lis with pulseDeadline := d } := by
  unfold State.enterStress
  dsimp only
  split <;> exact ⟨_, rfl⟩

theorem enterBoot_lis :
    (s.enterBoot p).lis.stage = -1 ∧ (s.enterBoot p).lis.stalled = [] ∧ (s.enterBoot p).lis.parser = .hunt ∧ (s.enterBoot p).lis.idleFlag = false := by
  unfold State.enterBoot
  dsimp only
  split
  · obtain ⟨d, hlis⟩ := enterStress_lis p (((s.changePhase .boot).setSeq
      { (s.changePhase .boot).seq with onDeadline := some (timeAfter (s.changePhase .boot).clock (1000 * p.onTime)) }).setLis _)
    rw [hlis]
    exact ⟨rfl, rfl, rfl, rfl⟩
  · exact ⟨rfl, rfl, rfl, rfl⟩

end

/-! ### The settled report (R58, R66) -/

/-- What a settled report taken in RAMP leaves (R58, R66, R107). -/
structure BootReached (p : Profile) (s t : State) : Prop where
  seq : t.seq =
    { s.seq with phase := if p.stages = [] then .stress else .boot, lines := Phase.boot.lines, rampDeadline := none,
                 onDeadline := some (s.clock + BitVec.ofNat 32 (1000 * p.onTime)), drainDeadline := none, offDeadline := none }
  lis : t.lis.stage = -1 ∧ t.lis.stalled = [] ∧ t.lis.parser = .hunt ∧ t.lis.idleFlag = false
  ended : StandingEnded 0#8 s t

section
variable {p : Profile} {s t u : State}

theorem railsSettled_reached (h : s.seq.phase = .ramp) : BootReached p s (s.railsSettled p) := by
  have htaken : s.railsSettled p = (s.endStanding 0#8).enterBoot p := by simp only [State.railsSettled, h]
  rw [htaken]
  refine ⟨by rw [enterBoot_seq]; simp, enterBoot_lis p _, ?_⟩
  refine standingEnded_among (endStanding_standingEnded 0#8 s) rfl (.refl _) fun hidle => ⟨by simpa using hidle, .of_eq (by simp)⟩

theorem railsSettled_of_elsewhere (h : s.seq.phase ≠ .ramp) : s.railsSettled p = s := by
  unfold State.railsSettled
  split
  · next hramp => exact absurd hramp h
  · rfl

/-! ### The trip report (R58, R71) -/

/-- What a trip report leaves: the report under the phase it finds, and DRAIN (R58, R71). -/
structure Tripped (p : Profile) (s t : State) : Prop where
  seq : t.seq =
    { s.seq with phase := .drain, rampDeadline := none, onDeadline := none, offDeadline := none,
                 drainDeadline := some (s.clock + BitVec.ofNat 32 p.drainTimeout), lines := Lines.unpowered }
  tripCount : t.rail.tripCount = 0
  reported : t.table.Reported (signature 5 s.seq.phase.code.toNat) s.clock
  others : ∀ k, k ≠ signature 5 s.seq.phase.code.toNat → t.table.find k = s.table.find k
  ended : StandingEnded 2#8 s t
  idle : s.claim.state = .idle → t.claim.state = .idle ∧ Joined s.port t.port
  lis : t.lis.stage = s.lis.stage ∧ t.lis.stalled = s.lis.stalled

theorem endStanding_of_idle {o : Byte} (h : s.claim.state = .idle) : s.endStanding o = s := by
  simp only [State.endStanding, h]

theorem takeTrip_tripped (h : s.seq.phase.powered = true) : Tripped p s (s.takeTrip p) := by
  obtain ⟨g, hg⟩ : ∃ g, g = signature 5 s.seq.phase.code.toNat := ⟨_, rfl⟩
  obtain ⟨u, hu⟩ : ∃ u, u = s.openSwitch.faultReport p g s.clock := ⟨_, rfl⟩
  have htaken : s.takeTrip p = (u.endStanding 2#8).enterDrain p := by rw [State.takeTrip, if_pos h, hu, hg]
  have hclaim : u.claim = s.claim := by rw [hu]; simp
  have hport : Joined s.port u.port := by
    rw [hu]
    exact (HandsOver.of_eq (s := s) (by simp) (by simp)).trans (faultReport_handsOver p g s.clock s.openSwitch) |>.port
  have htable : (s.takeTrip p).table = u.table := by rw [htaken]; simp
  rw [htaken] at htable ⊢
  refine ⟨?_, by rw [enterDrain_rail], ?_, fun k hk => ?_, ?_, fun hidle => ?_, ?_⟩
  · rw [enterDrain_seq, hu]
    simp [State.openSwitch]
  · rw [htable, hu, ← hg]
    exact (State.faultReport_spec p g s.clock s.openSwitch).2
  · rw [htable, hu, faultReport_find_other (by rwa [hg])]
    simp
  · exact standingEnded_among (endStanding_standingEnded 2#8 u) hclaim hport fun hidle => ⟨by simpa using hidle, .of_eq (by simp)⟩
  · rw [endStanding_of_idle (by rwa [hclaim])]
    exact ⟨by simpa [hclaim] using hidle, hport.trans (.of_eq (by simp))⟩
  · rw [enterDrain_lis, hu]
    simp

/-! ### The sag check behind the reports (R93) -/

theorem sagCheck_rail (p : Profile) (s : State) : ∃ x, (s.sagCheck p).rail = { s.rail with sag := x } := by
  rcases sagCheck_cases p s with h | ⟨x, h⟩ <;> rw [h]
  · exact ⟨_, sagConfirmed_rail⟩
  · exact ⟨x, rfl⟩

/-- An idle claim stays idle under a sag, whose notices join the port (R56). -/
theorem sagCheck_of_idle (h : s.claim.state = .idle) : (s.sagCheck p).claim.state = .idle ∧ Joined s.port (s.sagCheck p).port := by
  rcases sagCheck_cases p s with hcheck | ⟨x, hcheck⟩ <;> rw [hcheck]
  · have htold := sagConfirmed_told (p := p) (s := s)
    exact ⟨(htold.unmoved (.inl h)).trans h, htold.port (by simp [h])⟩
  · exact ⟨h, .refl _⟩

theorem BootReached.sagChecked (h : BootReached p s t) : BootReached p s (t.sagCheck p) := by
  obtain ⟨hseq, hlis, hended⟩ := h
  exact ⟨by simpa using hseq, by simpa using hlis, standingEnded_among hended rfl (.refl _) sagCheck_of_idle⟩

theorem Tripped.sagChecked (h : Tripped p s t) : Tripped p s (t.sagCheck p) := by
  obtain ⟨hseq, hcount, hreported, hothers, hended, hidle, hlis⟩ := h
  obtain ⟨x, hrail⟩ := sagCheck_rail p t
  refine ⟨by simpa using hseq, by rw [hrail]; exact hcount, by simpa using hreported, by simpa using hothers,
    standingEnded_among hended rfl (.refl _) sagCheck_of_idle, fun h => ?_, by simpa using hlis⟩
  obtain ⟨ht, hjoined⟩ := hidle h
  obtain ⟨hchecked, hmore⟩ := sagCheck_of_idle (p := p) ht
  exact ⟨hchecked, hjoined.trans hmore⟩

end

/-! ### Class 5 reports and the window check -/

theorem signature_inj {c c' d d' : Nat} (hc : c < 16) (hc' : c' < 16) (hd : d < 4096) (hd' : d' < 4096) :
    signature c d = signature c' d' ↔ c = c' ∧ d = d' := by
  simp only [signature, BitVec.toNat_inj.symm, BitVec.toNat_ofNat]
  omega

theorem windowClass_lt (ch : Channel) (v : Nat) : windowClass ch v < 3 := by
  unfold windowClass
  split <;> omega

theorem windowStep_find_other {k : Sig} {i : Nat} {p : Profile} {s : State} (h : ∀ v, k ≠ signature (windowClass (p.channels.get i) v) i) :
    (s.windowStep p i).table.find k = s.table.find k := by
  unfold State.windowStep
  dsimp only
  split
  · split
    · exact faultReport_find_other (h _)
    · rfl
  · rfl

/-- The window check reports under classes 1 and 2, so it leaves the trip's records alone (R84, R92). -/
theorem windowCheck_find_trip {d : Nat} (hd : d < 4096) (p : Profile) (s : State) :
    (s.windowCheck p).table.find (signature 5 d) = s.table.find (signature 5 d) := by
  refine List.foldlRecOn (motive := fun u : State => u.table.find (signature 5 d) = s.table.find (signature 5 d)) _ _ rfl fun u hu i hi => ?_
  have hlt : i < 8 := by
    have : ∀ i ∈ [2, 3, 4, 5, 6, 7], i < 8 := by decide
    exact this i hi
  refine (windowStep_find_other fun v heq => ?_).trans hu
  have hclass := windowClass_lt (p.channels.get i) v
  have := (signature_inj (by omega) (by omega) hd (by omega)).1 heq
  omega

/-! ### What the reports of a powered round find -/

/-- The window check where the board runs (R83). -/
def roundWatched (p : Profile) (s : State) : State := if s.seq.phase.runs then s.windowCheck p else s

/-- The inside flags and the trip count of a round kept, before its reports are handed over (R86, R91). -/
def roundCounted (p : Profile) (s : State) : State := (if s.seq.phase == .ramp then s.rampFlags p else s).tripCounted p

/-- What the reports of a powered round find of the state before it: other counts, and window reports handed over. -/
structure ReportsFind (s u : State) : Prop where
  clock : u.clock = s.clock
  claim : u.claim = s.claim
  seq : u.seq = s.seq
  lis : u.lis = s.lis
  port : Joined s.port u.port
  trips : ∀ d, d < 4096 → u.table.find (signature 5 d) = s.table.find (signature 5 d)

section
variable (p : Profile) (s : State)

@[simp] theorem roundCounted_frame :
    (roundCounted p s).clock = s.clock ∧ (roundCounted p s).claim = s.claim ∧ (roundCounted p s).seq = s.seq ∧ (roundCounted p s).lis = s.lis
      ∧ (roundCounted p s).port = s.port ∧ (roundCounted p s).table = s.table := by
  unfold roundCounted
  split <;> simp

theorem roundWatched_watched : Watched s (roundWatched p s) := by
  unfold roundWatched
  split
  · exact windowCheck_watched p s
  · exact .refl s

theorem roundWatched_rail :
    (roundWatched p s).rail.values = s.rail.values ∧ (roundWatched p s).rail.tripCount = s.rail.tripCount := by
  rw [(roundWatched_watched p s).rail]
  exact ⟨rfl, rfl⟩

theorem reportsFind : ReportsFind s (roundCounted p (roundWatched p s)) := by
  have hport := (roundWatched_watched p s).port
  unfold roundWatched at hport ⊢
  split at hport
  · next hruns =>
    rw [if_pos hruns]
    exact ⟨by simp, by simp, by simp, by simp, by simpa using hport, fun d hd => by simpa using windowCheck_find_trip hd p s⟩
  · next hruns =>
    rw [if_neg hruns]
    exact ⟨by simp, by simp, by simp, by simp, by simpa using hport, fun d _ => by simp⟩

theorem phaseChecks_of_powered (tripFirst : Bool) (h : s.seq.phase = .ramp ∨ s.seq.phase = .boot ∨ s.seq.phase = .stress) :
    s.phaseChecks p tripFirst = (roundWatched p s).poweredChecks p tripFirst := by
  rcases h with h | h | h <;> simp [State.phaseChecks, roundWatched, h, Phase.runs]

end

/-! ### The reports handed over (R66, R71) -/

section
variable {p : Profile} {s : State} {tripFirst : Bool}

/-- A round that settles without a trip. -/
theorem poweredChecks_of_settled (hramp : s.seq.phase = .ramp) (hsettled : s.settledRound p = true) (htrip : s.tripReached p = false) :
    s.poweredChecks p tripFirst = (roundCounted p s).railsSettled p := by
  simp [State.poweredChecks, roundCounted, hramp, hsettled, htrip]

/-- The settled report first: the trip is taken in the phase that it enters. -/
theorem poweredChecks_of_settled_trip (hramp : s.seq.phase = .ramp) (hsettled : s.settledRound p = true) (htrip : s.tripReached p = true) :
    s.poweredChecks p false = ((roundCounted p s).railsSettled p).takeTrip p := by
  simp [State.poweredChecks, roundCounted, hramp, hsettled, htrip]

/-- The trip alone, or the trip first: the settled report then finds DRAIN. -/
theorem poweredChecks_of_trip (hpowered : s.seq.phase.powered = true) (htrip : s.tripReached p = true)
    (hfirst : ¬(tripFirst = false ∧ s.seq.phase = .ramp ∧ s.settledRound p = true)) :
    s.poweredChecks p tripFirst = (roundCounted p s).takeTrip p := by
  have hdrain : ((roundCounted p s).takeTrip p).seq.phase ≠ .ramp := by
    rw [(takeTrip_tripped (by simpa using hpowered)).seq]
    simp
  have hdiscarded := railsSettled_of_elsewhere (p := p) hdrain
  unfold roundCounted at hdiscarded ⊢
  cases tripFirst with
  | true => simp only [State.poweredChecks, htrip, if_true, hdiscarded, ite_self]
  | false =>
    have hnot : (s.seq.phase == .ramp && s.settledRound p) = false := by
      simpa only [Bool.eq_false_iff, ne_eq, Bool.and_eq_true, beq_iff_eq, true_and] using hfirst
    simp only [State.poweredChecks, htrip, hnot, if_true, Bool.false_eq_true, if_false]

/-- The state in which a powered round hands its reports over. -/
def reportsState (p : Profile) (inputs : Eight Int) (i : PanelSample) (s : State) : State :=
  roundCounted p (roundWatched p (roundScaled p inputs i s))

variable {inputs : Eight Int} {i : PanelSample}

theorem reportsState_find : ReportsFind s (reportsState p inputs i s) := by
  obtain ⟨hclock, hclaim, hseq, hlis, hport, htrips⟩ := reportsFind p (roundScaled p inputs i s)
  exact ⟨hclock.trans (by simp), hclaim.trans (by simp), hseq.trans (by simp), hlis.trans (by simp), (Joined.of_eq (by simp)).trans hport,
    fun d hd => (htrips d hd).trans (by simp)⟩

theorem settledRound_iff : (roundWatched p (roundScaled p inputs i s)).settledRound p = true ↔ RoundSettles p inputs := by
  have hvalue : ∀ k, k < 8 → (roundWatched p (roundScaled p inputs i s)).rail.values.get k = roundValue p inputs k := fun k hk => by
    rw [(roundWatched_rail p _).1, roundScaled_value hk]
  simp only [State.settledRound, List.all_eq_true, List.mem_range, Bool.or_eq_true, Bool.not_eq_true', Channel.holds, Bool.and_eq_true,
    decide_eq_true_eq, RoundSettles]
  refine forall₂_congr fun k hk => ?_
  rw [hvalue k hk]
  cases (p.channels.get k).rampFlag <;> simp

theorem tripReached_iff : (roundWatched p (roundScaled p inputs i s)).tripReached p = true
    ↔ p.tripLimit < roundValue p inputs 1 ∧ p.tripDwell ≤ s.rail.tripCount + 1 := by
  obtain ⟨hvalues, hcount⟩ := roundWatched_rail p (roundScaled p inputs i s)
  simp only [State.tripReached, hvalues, hcount, roundScaled_value (show 1 < 8 by omega), roundScaled_rail, Bool.and_eq_true, decide_eq_true_eq]

end

/-- Settles O26: the round's one report is the settled one, and the sag check leaves what it has entered. -/
theorem railsSettled : Obligations.RailsSettled := by
  unfold Obligations.RailsSettled
  intro inputs i tripFirst s p hp hround hramp hno hsettles
  obtain ⟨hclock, hclaim, hseq, -, hport, -⟩ := reportsState_find (p := p) (s := s) (inputs := inputs) (i := i)
  have htable : (reportsState p inputs i s).table = s.table := by simp [reportsState, roundWatched, hramp, Phase.runs]
  have htrip : (roundWatched p (roundScaled p inputs i s)).tripReached p = false := by
    rw [Bool.eq_false_iff, ne_eq, tripReached_iff]
    omega
  have hchecks : (roundScaled p inputs i s).phaseChecks p tripFirst = (reportsState p inputs i s).railsSettled p := by
    rw [phaseChecks_of_powered p _ tripFirst (.inl (by simpa using hramp)),
      poweredChecks_of_settled (by simp [roundWatched, Phase.runs, hramp]) (settledRound_iff.2 hsettles) htrip]
    rfl
  have hreached := (railsSettled_reached (p := p) (s := reportsState p inputs i s) (by rwa [hseq])).sagChecked
  obtain ⟨htseq, ⟨hstage, hstalled, hparser, hidle⟩, hended⟩ := hreached
  rw [hseq, hclock] at htseq
  refine ⟨_, by rw [exec_round_scaled tripFirst hp hround, hchecks], ?_⟩
  rw [htseq]
  exact ⟨rfl, rfl, rfl, rfl, hstage, hstalled, hparser, hidle, standingEnded_among hended hclaim hport fun h => ⟨h, .refl _⟩, rfl, rfl,
    by simpa using htable⟩

/-- What the trip of a round finds: the state that the reports find, or where the settled report comes first what that has entered. -/
structure TripFinds (p : Profile) (detail : Nat) (outcome : Byte) (s w : State) : Prop where
  powered : w.seq.phase.powered = true
  code : w.seq.phase.code.toNat = detail
  clock : w.clock = s.clock
  kept : w.seq.cycle = s.seq.cycle ∧ w.seq.done = s.seq.done ∧ w.seq.endRequest = s.seq.endRequest
  trips : ∀ d, d < 4096 → w.table.find (signature 5 d) = s.table.find (signature 5 d)
  ended : ∀ t, Tripped p w t → StandingEnded outcome s t
  listener : (outcome = 0#8 → w.lis.stage = -1 ∧ w.lis.stalled = [])
    ∧ (outcome = 2#8 → w.lis.stage = s.lis.stage ∧ w.lis.stalled = s.lis.stalled)

section
variable {p : Profile} {s u : State}

theorem powered_iff (ph : Phase) : ph.powered = true ↔ ph = .ramp ∨ ph = .boot ∨ ph = .stress := by
  cases ph <;> simp [Phase.powered]

theorem ReportsFind.tripFinds (h : ReportsFind s u) (hpowered : s.seq.phase.powered = true) : TripFinds p s.seq.phase.code.toNat 2#8 s u := by
  obtain ⟨hclock, hclaim, hseq, hlis, hport, htrips⟩ := h
  refine ⟨by rwa [hseq], by rw [hseq], hclock, by simp [hseq], htrips, fun t ht => ?_, by simp, by simp [hlis]⟩
  exact standingEnded_among ht.ended hclaim hport fun hidle => ⟨hidle, .refl _⟩

theorem ReportsFind.settled_tripFinds (h : ReportsFind s u) (hramp : s.seq.phase = .ramp) :
    TripFinds p (if p.stages = [] then 4 else 3) 0#8 s (u.railsSettled p) := by
  obtain ⟨hclock, hclaim, hseq, -, hport, htrips⟩ := h
  obtain ⟨hwseq, ⟨hstage, hstalled, -, -⟩, hended⟩ := railsSettled_reached (p := p) (s := u) (by rwa [hseq])
  refine ⟨?_, ?_, by simpa using hclock, by simp [hwseq, hseq], by simpa using htrips, fun t ht => ?_, fun _ => ⟨hstage, hstalled⟩, by simp⟩
  · rw [hwseq]
    dsimp only
    split <;> rfl
  · rw [hwseq]
    dsimp only
    split <;> rfl
  · exact standingEnded_among hended hclaim hport ht.idle

end

/-- Settles O27: the trip is taken in the phase that it finds, RAMP's with the standing claim's end, which a settled report before it has told already. -/
theorem feedTrip : Obligations.FeedTrip := by
  unfold Obligations.FeedTrip
  intro inputs i tripFirst s p detail outcome hp hround hphase hover hdwell hcase
  have hpowered := (powered_iff _).2 hphase
  have hfind := reportsState_find (p := p) (s := s) (inputs := inputs) (i := i)
  have htrip : (roundWatched p (roundScaled p inputs i s)).tripReached p = true := tripReached_iff.2 ⟨hover, hdwell⟩
  have hseq : (roundWatched p (roundScaled p inputs i s)).seq = s.seq := by
    unfold roundWatched
    split <;> simp
  have hchecks := phaseChecks_of_powered p (roundScaled p inputs i s) tripFirst (by simpa using hphase)
  obtain ⟨w, hw, hfinds⟩ : ∃ w, (roundScaled p inputs i s).phaseChecks p tripFirst = w.takeTrip p ∧ TripFinds p detail outcome s w := by
    rw [hchecks]
    rcases hcase with ⟨hfirst, hramp, hsettles, rfl, rfl⟩ | ⟨hnot, rfl, rfl⟩
    · rw [hfirst, poweredChecks_of_settled_trip (by rwa [hseq]) (settledRound_iff.2 hsettles) htrip]
      exact ⟨_, rfl, hfind.settled_tripFinds hramp⟩
    · rw [poweredChecks_of_trip (by rwa [hseq]) htrip (by rwa [hseq, settledRound_iff])]
      exact ⟨_, rfl, hfind.tripFinds hpowered⟩
  obtain ⟨hwpowered, hcode, hclock, ⟨hcycle, hdone, hrequest⟩, htrips, hended, hreached, hkept⟩ := hfinds
  have htripped := (takeTrip_tripped (p := p) hwpowered).sagChecked
  have hstanding := hended _ htripped
  obtain ⟨htseq, hcount, hreported, hothers, -, -, hstage, hstalled⟩ := htripped
  have hsmall : detail < 4096 := by
    have := w.seq.phase.code.isLt
    omega
  rw [hcode] at hreported hothers
  rw [hclock] at htseq hreported
  refine ⟨_, by rw [exec_round_scaled tripFirst hp hround, hw], by rw [htseq], by rw [htseq], by rw [htseq]; rfl, hcount, hreported,
    fun d hlow hhigh hd => ?_, fun _ => ⟨hstanding, by rwa [hstage, hstalled], by rwa [hstage, hstalled]⟩, ?_⟩
  · rw [hothers _ fun heq => hd ((signature_inj (by omega) (by omega) (by omega) hsmall).1 heq).2, htrips d (by omega)]
  · rw [htseq]
    exact ⟨hcycle, hdone, hrequest⟩

end Sys2Proof.Proofs
end

section
/-! # Scope: the end of a drain, by completion and by its deadline (R10, R72, R73, R88, R89) -/

namespace Sys2Proof.Proofs

open Sys2Proof.Machine

/-! ### What a round's sag check leaves of the run controller -/

/-- Nothing of the run controller but its conditions and its alert has changed. -/
def RunNoted (s t : State) : Prop := ∃ c a, t.run = { s.run with conds := c, alert := a }

theorem RunNoted.of_eq {s t : State} (h : t.run = s.run) : RunNoted s t := ⟨_, _, h⟩

theorem RunNoted.trans {s t u : State} (h : RunNoted s t) (k : RunNoted t u) : RunNoted s u := by
  obtain ⟨_, _, ht⟩ := h
  obtain ⟨c, a, hu⟩ := k
  exact ⟨c, a, by rw [hu, ht]⟩

section
variable (p : Profile) (s : State)

theorem setCondition_noted (c : Condition) : RunNoted s (s.setCondition c) := ⟨_, _, setCondition_run c s⟩

theorem handNotice_noted (n : Notice) : RunNoted s (s.handNotice n).1 := ⟨_, _, handNotice_run n s⟩

theorem storeEcho_noted (e : Echo) : RunNoted s (s.storeEcho p e) := by
  unfold State.storeEcho
  split
  · split
    · exact .of_eq rfl
    · exact .trans (.of_eq rfl) (setCondition_noted _ _)
  · exact .of_eq rfl

theorem sagConfirmed_noted : RunNoted s (s.sagConfirmed p) := by
  have hmarked : RunNoted s (sagMarked p s) := .trans (.of_eq rfl) (storeEcho_noted p _ (ownMark s))
  exact (hmarked.trans (handNotice_noted _ _)).trans (.of_eq sagConfirmed_run)

theorem sagCheck_noted : RunNoted s (s.sagCheck p) := by
  rcases sagCheck_cases p s with h | ⟨x, h⟩ <;> rw [h]
  · exact sagConfirmed_noted p s
  · exact .of_eq rfl

end

/-! ### Entry to CLOSING, whatever is open (R10) -/

theorem enterClosing_run (reason : EndReason) (s : State) :
    (s.enterClosing reason).run = { s.run with state := .closing, endTime := s.clock, endReason := reason } := by
  unfold State.enterClosing
  dsimp only
  split <;> simp

theorem enterClosing_aborted_occurrences (s : State) : (s.enterClosing .aborted).judge.occurrences = [] := by
  simp [State.enterClosing, State.dropOccurrences_spec]

/-- The drop after an abort counts in the records and keeps what is reported. -/
theorem enterClosing_grown (t : Time) (reason : EndReason) (s : State) : s.table.Grown t (s.enterClosing reason).table := by
  unfold State.enterClosing
  dsimp only
  split
  · exact ⟨fun r => { r with unjudged := satInc^[s.openOf r.sig] r.unjudged }, [], fun _ => ⟨rfl, id⟩, by simp [State.dropOccurrences_spec, State.openOf]⟩
  · exact SightingTable.grown_of_records _ _ _ (by simp)

/-! ### The end of a drain (R72, R73) -/

theorem enterRest_seq (p : Profile) (s : State) :
    (s.enterRest p).seq =
      { s.seq with phase := .rest, rampDeadline := none, onDeadline := none, drainDeadline := none, lines := Lines.unpowered,
                   offDeadline := some (s.clock + BitVec.ofNat 32 (1000 * p.offTime)) } := by
  simp [State.enterRest, State.changePhase, Sequencer.phaseChanged, keepIf, Phase.lines, Phase.runs, timeAfter]

/-- How the end of a drain ends the run, if it does: by the end request, and without one by the last cycle (R73). -/
def drainOutcome (p : Profile) (q : Sequencer) : Option EndReason :=
  match q.endRequest with
  | .stopped => some .stopped
  | .aborted => some .aborted
  | .none => if q.cycle.toNat = p.cycles then some .complete else none

/-- A cycle counted as done. -/
def cycleDone (s : State) : State := s.setSeq { s.seq with done := s.seq.done + 1#8 }

theorem endDrain_eq (p : Profile) (s : State) :
    s.endDrain p = match drainOutcome p s.seq with
      | some reason => (cycleDone s).endRun reason
      | none => (cycleDone s).enterRest p := by
  have htaken : s.endDrain p = match s.seq.endRequest with
      | .stopped => (cycleDone s).endRun .stopped
      | .aborted => (cycleDone s).endRun .aborted
      | .none => if s.seq.cycle.toNat = p.cycles then (cycleDone s).endRun .complete else (cycleDone s).enterRest p := rfl
  rw [htaken, drainOutcome]
  cases s.seq.endRequest with
  | stopped | aborted => rfl
  | none =>
    dsimp only
    split <;> rfl

/-- What the end of a drain leaves of sequencer and run controller (R10, R73). -/
structure DrainEnded (p : Profile) (s t : State) : Prop where
  done : t.seq.done = s.seq.done + 1#8
  cycle : t.seq.cycle = s.seq.cycle
  deadline : t.seq.drainDeadline = none
  ended : ∀ reason, drainOutcome p s.seq = some reason →
    t.seq.phase = .off ∧ t.run.state = .closing ∧ t.run.endReason = reason ∧ t.run.endTime = s.clock
  rests : drainOutcome p s.seq = none →
    t.seq.phase = .rest ∧ t.run.state = s.run.state ∧ t.seq.offDeadline = some (s.clock + BitVec.ofNat 32 (1000 * p.offTime))

section
variable {p : Profile} {s t u : State}

theorem endDrain_ended : DrainEnded p s (s.endDrain p) := by
  rw [endDrain_eq]
  cases hout : drainOutcome p s.seq with
  | some reason =>
    dsimp only [State.endRun]
    constructor <;> simp [hout, enterOff_seq, enterClosing_run, cycleDone]
  | none =>
    dsimp only
    constructor <;> simp [hout, enterRest_seq, cycleDone]

/-- The drain's end is told by the state in which the round, or the deadline, came. -/
theorem DrainEnded.of_found (h : DrainEnded p u t) (hseq : u.seq = s.seq) (hclock : u.clock = s.clock) (hstate : u.run.state = s.run.state) :
    DrainEnded p s t := by
  obtain ⟨hdone, hcycle, hdeadline, hended, hrests⟩ := h
  rw [hseq] at hdone hcycle hended hrests
  rw [hclock] at hended hrests
  rw [hstate] at hrests
  exact ⟨hdone, hcycle, hdeadline, hended, hrests⟩

theorem DrainEnded.sagChecked (h : DrainEnded p s t) : DrainEnded p s (t.sagCheck p) := by
  obtain ⟨hdone, hcycle, hdeadline, hended, hrests⟩ := h
  obtain ⟨c, a, hrun⟩ := sagCheck_noted p t
  constructor <;> simpa [hrun]

theorem endDrain_grown (t : Time) : s.table.Grown t (s.endDrain p).table := by
  rw [endDrain_eq]
  cases drainOutcome p s.seq with
  | some reason => simpa [State.endRun, cycleDone] using enterClosing_grown t reason (cycleDone s).enterOff
  | none => exact SightingTable.grown_of_records _ _ _ (by simp [cycleDone])

theorem endDrain_aborted_occurrences (h : s.seq.endRequest = .aborted) : (s.endDrain p).judge.occurrences = [] := by
  rw [endDrain_eq]
  simp only [drainOutcome, h]
  exact enterClosing_aborted_occurrences _

/-! ### Completion (R88) -/

theorem drainedRound_of_below {inputs : Eight Int} {i : PanelSample}
    (h : ∀ k, k < 8 → (p.channels.get k).offFlag = true → roundValue p inputs k ≤ (p.channels.get k).offLevel) :
    (roundScaled p inputs i s).drainedRound p = true := by
  simp only [State.drainedRound, List.all_eq_true, List.mem_range, Bool.or_eq_true, Bool.not_eq_true', decide_eq_true_eq]
  intro k hk
  rw [roundScaled_value hk]
  cases hflag : (p.channels.get k).offFlag with
  | false => exact .inl rfl
  | true => exact .inr (h k hk hflag)

theorem phaseChecks_of_drained {tripFirst : Bool} (hdrain : s.seq.phase = .drain) (hdrained : s.drainedRound p = true) :
    s.phaseChecks p tripFirst = (s.drainFlags p).endDrain p := by
  simp [State.phaseChecks, State.drainComplete, hdrain, hdrained]

/-! ### DRAIN_DEADLINE (R89) -/

/-- The off-armed channels whose held-up flag is set (R89). -/
def drainHeld (p : Profile) (s : State) : List Nat :=
  channelsWhere (fun i => (p.channels.get i).offFlag && (s.rail.watch.get i).heldUp)

theorem mem_drainHeld {k : Nat} : k ∈ drainHeld p s ↔ k < 8 ∧ (p.channels.get k).offFlag = true ∧ (s.rail.watch.get k).heldUp = true := by
  simp [drainHeld, mem_channelsWhere]

theorem drainDeadlineOut_of_not_due (h : ¬RunOut s s.seq.drainDeadline ∨ s.seq.phase ≠ .drain) : s.drainDeadlineOut = s := by
  unfold State.drainDeadlineOut
  split
  · next hdrain => exact if_neg fun hdue => h.elim (fun hn => hn ((expiredOpt_iff _ _).1 hdue)) fun hn => hn hdrain
  · rfl

theorem drainDeadlineOut_of_due (hp : s.profile = some p) (hrun : RunOut s s.seq.drainDeadline) (hdrain : s.seq.phase = .drain) :
    s.drainDeadlineOut = (s.faultReports p 4 (drainHeld p s) s.clock).endDrain p := by
  simp only [State.drainDeadlineOut, hp, hdrain, (expiredOpt_iff _ _).2 hrun, if_true]
  rfl

end

/-- Settles O28: the round's completion and the deadline end the drain alike, which the sag check of the round leaves as it is. -/
theorem drainEnds : Obligations.DrainEnds := by
  unfold Obligations.DrainEnds
  refine ⟨fun inputs i tripFirst s p hp hround hdrain hbelow => ?_, fun s p hp => ⟨fun hnot => congrArg _ (drainDeadlineOut_of_not_due hnot),
    fun hrun hdrain => ?_⟩⟩
  · have hexec := exec_round_scaled (inputs := inputs) (i := i) tripFirst hp hround
    rw [phaseChecks_of_drained (by simpa using hdrain) (drainedRound_of_below hbelow)] at hexec
    obtain ⟨hdone, hcycle, hdeadline, hended, hrests⟩ :=
      (endDrain_ended.of_found (p := p) (s := s) (u := (roundScaled p inputs i s).drainFlags p) (by simp) (by simp) (by simp)).sagChecked
    exact ⟨_, hexec, hdone, hcycle, hdeadline, fun h => hended _ (by simp [drainOutcome, h]), fun h => hended _ (by simp [drainOutcome, h]),
      fun h hlast => hended _ (by simp [drainOutcome, h, hlast]), fun h hmore => hrests (by simp [drainOutcome, h, hmore])⟩
  · obtain ⟨u, hu⟩ : ∃ u, u = s.faultReports p 4 (drainHeld p s) s.clock := ⟨_, rfl⟩
    have hout : s.drainDeadlineOut = u.endDrain p := by rw [drainDeadlineOut_of_due hp hrun hdrain, hu]
    have hseq : u.seq = s.seq := by rw [hu]; simp
    have hsame : SameBut [.freeIndex, .run, .port, .seq, .rail, .lis, .table, .judge, .store, .closing] s s.drainDeadlineOut := by simp [SameBut]
    obtain ⟨hdone, hcycle, -, hended, hrests⟩ := endDrain_ended (p := p) (s := u)
    rw [hseq] at hdone hcycle hended hrests
    refine ⟨_, rfl, ?_⟩
    rw [hout] at hsame ⊢
    refine ⟨hdone, hcycle, fun k hk hflag hheld => ?_, fun h => ?_, fun h => ?_, fun h hlast => ?_, fun h hmore => ?_, hsame⟩
    · have hreported : u.table.Reported (signature 4 k) s.clock := by
        rw [hu]
        exact (State.faultReports_spec p 4 s.clock (drainHeld p s) s).2 k (mem_drainHeld.2 ⟨hk, hflag, hheld⟩)
      exact (endDrain_grown s.clock).reported hreported
    · obtain ⟨hoff, hstate, hreason, -⟩ := hended .stopped (by simp [drainOutcome, h])
      exact ⟨hoff, hstate, hreason⟩
    · obtain ⟨hoff, hstate, hreason, -⟩ := hended .aborted (by simp [drainOutcome, h])
      exact ⟨hoff, hstate, hreason, endDrain_aborted_occurrences (by rw [hseq, h])⟩
    · obtain ⟨hoff, -, hreason, -⟩ := hended .complete (by simp [drainOutcome, h, hlast])
      exact ⟨hoff, hreason⟩
    · exact (hrests (by simp [drainOutcome, h, hmore])).1

end Sys2Proof.Proofs
end

section
/-! # Scope: a stage code's advance, skip, regression and repeat (R68, R69, R102, R106, R108 to R111) -/

namespace Sys2Proof.Proofs

open Sys2Proof.Machine

/-! ### The second byte of a code (R102, R103, R106) -/

/-- The byte is in the ring and the mark at its end. -/
def codeRead (b : Byte) (s : State) : State := (s.setLis { s.lis with trace := pushByte b s.lis.trace }).parserHunts

theorem pushByte_eq (b : Byte) (l : List Byte) : pushByte b l = (l ++ [b]).drop (l.length + 1 - 512) := by
  simp [pushByte, newest]

theorem codeRead_eq (b : Byte) (s : State) :
    codeRead b s = { s with lis := { s.lis with
      trace := (s.lis.trace ++ [b]).drop (s.lis.trace.length + 1 - 512), parser := .hunt, gapDeadline := none } } := by
  simp only [codeRead, pushByte_eq, State.parserHunts, State.setLis]

theorem exec_codeByte {p : Profile} {s : State} {high b : Byte} (h : Hearing p s) (hparser : s.lis.parser = .codeLo high)
    (hcode : high ++ b ≠ p.identityCode) : exec (.byteReceived b) s = .next ((codeRead b s).classify p (high ++ b)) := by
  obtain ⟨hp, henabled, hidle⟩ := h
  have hreceives : s.receives = true := by simp [State.receives, henabled, hidle]
  refine congrArg _ (?_ : s.byteReceived b = _)
  simp only [State.byteReceived, hp, hreceives, if_true, State.parse, State.setLis_lis, hparser, word16, if_neg hcode]
  rfl

theorem exec_stageByte {p : Profile} {s : State} {high b : Byte} {j : Nat} (h : Hearing p s) (hparser : s.lis.parser = .codeLo high)
    (hcode : high ++ b ≠ p.identityCode) (hindex : stageIndex p s.lis.stage (high ++ b) = some j) :
    exec (.byteReceived b) s = .next ((codeRead b s).stageCode p j) := by
  have hsame : stageIndex p (codeRead b s).lis.stage (high ++ b) = some j := by rwa [codeRead_eq]
  rw [exec_codeByte h hparser hcode, State.classify, hsame]

/-! ### The index moved, and the phase with it (R68, R69, R109, R111) -/

theorem enterStress_pulse (p : Profile) (s : State) :
    (s.enterStress p).lis.pulseDeadline =
      if p.pulseInterval = 0 then none else some (s.clock + BitVec.ofNat 32 (p.pulseInterval + 1)) := by
  unfold State.enterStress
  dsimp only
  split <;> simp [State.changePhase, Listener.phaseChanged, Phase.runs, timeAfter]

section
variable {p : Profile} {s : State} {j : Nat}

theorem finalStage_of_last (hlast : j + 1 = p.stages.length) (hboot : s.seq.phase = .boot) : s.finalStage p j = s.enterStress p := by
  simp [State.finalStage, hlast, hboot]

theorem finalStage_of_not_last (h : j + 1 < p.stages.length ∨ s.seq.phase = .stress) : s.finalStage p j = s := by
  rcases h with h | h
  · exact if_neg (by omega)
  · simp [State.finalStage, h]

theorem fallBack_of_stress (h : s.seq.phase = .stress) : s.fallBack = s.changePhase .boot := by
  simp [State.fallBack, h]

theorem fallBack_of_boot (h : s.seq.phase = .boot) : s.fallBack = s := by
  simp [State.fallBack, h]

theorem stageDeadline_eq (p : Profile) (i : Nat) (s : State) :
    s.stageDeadline p i = (p.stages[i]?).map (fun st => s.clock + BitVec.ofNat 32 (100 * st.maxWait + 1)) := by
  unfold State.stageDeadline
  cases p.stages[i]? <;> rfl

end

/-- A change between BOOT and STRESS: of the listener the pulse deadline alone, and neither on-time deadline nor cycle counter. -/
structure StillRuns (s t : State) : Prop where
  runs : t.seq.phase = .boot ∨ t.seq.phase = .stress
  lis : t.lis = { s.lis with pulseDeadline := t.lis.pulseDeadline }
  onDeadline : t.seq.onDeadline = s.seq.onDeadline
  cycle : t.seq.cycle = s.seq.cycle

section
variable {p : Profile} {s : State}

theorem StillRuns.refl (h : s.seq.phase = .boot ∨ s.seq.phase = .stress) : StillRuns s s := ⟨h, rfl, rfl, rfl⟩

theorem finalStage_stillRuns (j : Nat) (h : s.seq.phase = .boot ∨ s.seq.phase = .stress) : StillRuns s (s.finalStage p j) := by
  unfold State.finalStage
  split
  · split
    · obtain ⟨d, hlis⟩ := enterStress_lis p s
      exact ⟨.inr (by rw [enterStress_seq]), by rw [hlis], by rw [enterStress_seq], by rw [enterStress_seq]⟩
    · exact .refl h
  · exact .refl h

theorem fallBack_stillRuns (h : s.seq.phase = .boot ∨ s.seq.phase = .stress) : StillRuns s s.fallBack := by
  rcases h with h | h
  · rw [fallBack_of_boot h]
    exact .refl (.inl h)
  · rw [fallBack_of_stress h]
    constructor <;> simp [State.changePhase, Sequencer.phaseChanged, Listener.phaseChanged, keepIf, Phase.runs]

end

/-! ### The index that a code matches against the one reached (R109) -/

/-- The report of a skip or of a regression, and of an advance or a repeat none (R109). -/
def stageReported (p : Profile) (j : Nat) (s : State) : State :=
  if s.lis.stage + 1 < (j : Int) then s.faultReport p (signature 7 j) s.clock
  else if (j : Int) < s.lis.stage then s.faultReport p (signature 8 j) s.clock
  else s

/-- The index moved behind the report. -/
def stageMoved (p : Profile) (j : Nat) (s : State) : State := (stageReported p j s).moveStage p j

section
variable {p : Profile} {s : State} {j : Nat}

theorem stageReported_frame :
    (stageReported p j s).seq = s.seq ∧ (stageReported p j s).lis = s.lis ∧ (stageReported p j s).clock = s.clock := by
  unfold stageReported
  (repeat' split) <;> simp

@[simp] theorem stageMoved_frame :
    (stageMoved p j s).seq = s.seq ∧ (stageMoved p j s).clock = s.clock ∧ (stageMoved p j s).table = (stageReported p j s).table := by
  obtain ⟨hseq, -, hclock⟩ := stageReported_frame (p := p) (s := s) (j := j)
  simp [stageMoved, hseq, hclock]

theorem stageMoved_lis :
    (stageMoved p j s).lis =
      { s.lis with stage := j, awaitDeadline := (p.stages[j + 1]?).map (fun st => s.clock + BitVec.ofNat 32 (100 * st.maxWait + 1)) } := by
  obtain ⟨-, hlis, hclock⟩ := stageReported_frame (p := p) (s := s) (j := j)
  simp [stageMoved, State.moveStage, stageDeadline_eq, hlis, hclock]

theorem stageMoved_of_advance (h : (j : Int) = s.lis.stage + 1) : stageMoved p j s = s.moveStage p j := by
  rw [stageMoved, stageReported, if_neg (by omega), if_neg (by omega)]

theorem stageReported_of_skip (h : s.lis.stage + 1 < (j : Int)) : (stageReported p j s).table.Reported (signature 7 j) s.clock := by
  rw [stageReported, if_pos h]
  exact (State.faultReport_spec _ _ _ _).2

theorem stageReported_of_regression (h : (j : Int) < s.lis.stage) : (stageReported p j s).table.Reported (signature 8 j) s.clock := by
  rw [stageReported, if_neg (by omega), if_pos h]
  exact (State.faultReport_spec _ _ _ _).2

theorem stageCode_of_repeat (h : (j : Int) = s.lis.stage) : s.stageCode p j = s := by
  rw [State.stageCode, if_neg (by omega), if_neg (by omega), if_neg (by omega)]

theorem stageCode_of_ahead (h : s.lis.stage < (j : Int)) : s.stageCode p j = (stageMoved p j s).finalStage p j := by
  by_cases hadvance : (j : Int) = s.lis.stage + 1
  · rw [State.stageCode, if_pos hadvance, stageMoved_of_advance hadvance]
  · have hskip : s.lis.stage + 1 < (j : Int) := by omega
    rw [State.stageCode, if_neg hadvance, if_pos hskip, stageMoved, stageReported, if_pos hskip]

theorem stageCode_of_regression (h : (j : Int) < s.lis.stage) : s.stageCode p j = (stageMoved p j s).fallBack := by
  rw [State.stageCode, if_neg (by omega), if_neg (by omega), if_pos h, stageMoved, stageReported, if_neg (by omega), if_pos h]

theorem stageCode_table (h : (j : Int) ≠ s.lis.stage) : (s.stageCode p j).table = (stageReported p j s).table := by
  rcases lt_or_gt_of_ne h with hback | hahead
  · rw [stageCode_of_regression hback]
    simp
  · rw [stageCode_of_ahead hahead]
    simp

/-- Whatever the index, a stage code leaves the board running, and of the listener it changes index, awaited stage and pulse watch at most. -/
theorem stageCode_stillRuns (hruns : s.seq.phase = .boot ∨ s.seq.phase = .stress) (h : (j : Int) ≠ s.lis.stage) :
    StillRuns (stageMoved p j s) (s.stageCode p j) := by
  have hmoved : (stageMoved p j s).seq.phase = .boot ∨ (stageMoved p j s).seq.phase = .stress := by simpa using hruns
  rcases lt_or_gt_of_ne h with hback | hahead
  · rw [stageCode_of_regression hback]
    exact fallBack_stillRuns hmoved
  · rw [stageCode_of_ahead hahead]
    exact finalStage_stillRuns j hmoved

/-- What a stage code leaves in every case. -/
structure StageTaken (p : Profile) (j : Nat) (s t : State) : Prop where
  runs : t.seq.phase = .boot ∨ t.seq.phase = .stress
  lis : t.lis = { s.lis with stage := j, awaitDeadline := t.lis.awaitDeadline, pulseDeadline := t.lis.pulseDeadline }
  awaited : (j : Int) ≠ s.lis.stage →
    t.lis.awaitDeadline = (p.stages[j + 1]?).map (fun st => s.clock + BitVec.ofNat 32 (100 * st.maxWait + 1))
  onDeadline : t.seq.onDeadline = s.seq.onDeadline
  cycle : t.seq.cycle = s.seq.cycle

theorem stageCode_taken (hruns : s.seq.phase = .boot ∨ s.seq.phase = .stress) : StageTaken p j s (s.stageCode p j) := by
  by_cases h : (j : Int) = s.lis.stage
  · rw [stageCode_of_repeat h]
    exact ⟨hruns, by rw [h], fun hne => absurd h hne, rfl, rfl⟩
  · obtain ⟨hstill, hlis, honDeadline, hcycle⟩ := stageCode_stillRuns (p := p) hruns h
    rw [stageMoved_lis] at hlis
    exact ⟨hstill, by rw [hlis], fun _ => by rw [hlis], by simpa using honDeadline, by simpa using hcycle⟩

theorem stageCode_of_regression_phase (hruns : s.seq.phase = .boot ∨ s.seq.phase = .stress) (h : (j : Int) < s.lis.stage) :
    (s.stageCode p j).seq.phase = .boot
      ∧ (s.stageCode p j).lis.pulseDeadline = if s.seq.phase = .stress then none else s.lis.pulseDeadline := by
  rw [stageCode_of_regression h]
  rcases hruns with hph | hph
  · rw [fallBack_of_boot (by simpa using hph)]
    simp [hph, stageMoved_lis]
  · rw [fallBack_of_stress (by simpa using hph)]
    simp [hph, State.changePhase, Listener.phaseChanged, Sequencer.phaseChanged, Phase.runs]

theorem stageCode_of_last (h : s.lis.stage < (j : Int)) (hlast : j + 1 = p.stages.length) (hboot : s.seq.phase = .boot) :
    (s.stageCode p j).seq.phase = .stress
      ∧ (s.stageCode p j).lis.pulseDeadline =
          if p.pulseInterval = 0 then none else some (s.clock + BitVec.ofNat 32 (p.pulseInterval + 1)) := by
  rw [stageCode_of_ahead h, finalStage_of_last hlast (by simpa using hboot), enterStress_pulse, enterStress_seq]
  simp

theorem stageCode_of_not_last (h : s.lis.stage < (j : Int)) (hmore : j + 1 < p.stages.length ∨ s.seq.phase = .stress) :
    s.stageCode p j = stageMoved p j s := by
  rw [stageCode_of_ahead h, finalStage_of_not_last (by simpa using hmore)]

theorem stageCode_advance_sameBut (h : (j : Int) = s.lis.stage + 1) : SameBut [.seq, .rail, .lis] s (s.stageCode p j) := by
  rw [stageCode_of_ahead (by omega), stageMoved_of_advance h]
  simp [SameBut]

end

/-! ### The blocks and lines around it (R62) -/

theorem sameBut_table {blocks : List Block} {s t : State} (h : SameBut blocks s t) (hb : Block.table ∉ blocks) : t.table = s.table := by
  obtain ⟨-, -, -, -, -, -, -, -, -, -, -, -, -, htable, -⟩ := h
  exact htable.resolve_left hb

/-- A change of the listener does not show where the listener may differ. -/
theorem sameBut_of_lis {blocks : List Block} {s t : State} {l : Listener} (hb : Block.lis ∈ blocks) (h : SameBut blocks { s with lis := l } t) :
    SameBut blocks s t := by
  simpa only [SameBut, hb, true_or] using h

theorem lines_eq_of_linesOfPhase {s : State} (h : s.LinesOfPhase) : s.seq.lines = s.seq.phase.lines := by
  obtain ⟨hswitch, hreset, hstrap, henable⟩ := h
  obtain ⟨hswitch', hreset', hstrap', henable'⟩ := Phase.lines_of s.seq.phase
  rw [← hswitch'] at hswitch
  rw [← hreset'] at hreset
  rw [← hstrap'] at hstrap
  rw [← henable'] at henable
  exact (Lines.mk.injEq ..).mpr ⟨hswitch, hreset, hstrap, henable⟩

/-- The lines are the same in BOOT and in STRESS (R62). -/
theorem lines_of_runs {s : State} (h : s.seq.phase = .boot ∨ s.seq.phase = .stress) (hlines : s.LinesOfPhase) : s.seq.lines = Phase.boot.lines := by
  rw [lines_eq_of_linesOfPhase hlines]
  rcases h with h | h <;> rw [h]
  rfl

/-- Settles O33: by the side of the index reached on which the index matched lies; the report comes before the move, and the phase changes behind it. -/
theorem stageCode : Obligations.StageCode := by
  unfold Obligations.StageCode
  intro b high s p j ring next hh hparser hcode hindex hruns hring hnext
  have hexec := exec_stageByte hh hparser hcode hindex
  have hkept := byteReceived_kept s b
  have hsame : SameBut [.freeIndex, .run, .port, .seq, .rail, .lis, .table, .judge, .store] s (s.byteReceived b) := by simp [SameBut]
  rw [Host.Outcome.next.inj hexec] at hkept hsame
  obtain ⟨u, hu⟩ : ∃ u, u = { s with lis := { s.lis with trace := ring, parser := .hunt, gapDeadline := none } } := ⟨_, rfl⟩
  rw [codeRead_eq, ← hring, ← hu] at hexec hkept hsame
  have hclock : u.clock = s.clock := by rw [hu]
  have hstage : u.lis.stage = s.lis.stage := by rw [hu]
  have hpulse : u.lis.pulseDeadline = s.lis.pulseDeadline := by rw [hu]
  have hseq : u.seq = s.seq := by rw [hu]
  have htaken := stageCode_taken (p := p) (s := u) (j := j) (by rwa [hseq])
  have hmoved := stageMoved_lis (p := p) (s := u) (j := j)
  rw [hclock, ← hnext] at hmoved
  obtain ⟨htruns, htlis, hawaited, honDeadline, hcycle⟩ := htaken
  rw [hclock, ← hnext, hstage] at hawaited
  rw [hseq] at honDeadline hcycle
  rw [hexec]
  refine ⟨fun h => ?_, fun h hmore => ?_, _, rfl, ?_⟩
  · rw [stageCode_of_repeat (by rwa [hstage]), hu]
  · rw [stageCode_of_not_last (by omega) (by rwa [hseq]), stageMoved_of_advance (by rwa [hstage])]
    rw [State.moveStage, stageDeadline_eq, hclock, ← hnext, hu]
    rfl
  · refine ⟨by rw [htlis, hu], by rw [htlis, hu], by rw [htlis, hu], by rw [htlis, hu], by rw [htlis, hu], by rw [htlis, hu], by rw [htlis],
      by rw [htlis, hu], hawaited, fun h => ?_, fun h => ?_, fun h => ?_, fun h hlast hboot => ?_, fun h hmore => ?_, fun hlines => ?_, honDeadline,
      hcycle, hsame⟩
    · have hadvance := stageCode_advance_sameBut (p := p) (s := u) (j := j) (by rwa [hstage])
      generalize u.stageCode p j = t at hadvance ⊢
      subst hu
      have hmoves : SameBut [.seq, .rail, .lis] s t := sameBut_of_lis (by simp) hadvance
      exact ⟨sameBut_table hmoves (by simp), hmoves⟩
    · have hreported := stageReported_of_skip (p := p) (s := u) (j := j) (by rwa [hstage])
      rwa [← stageCode_table (by omega), hclock] at hreported
    · have hreported := stageReported_of_regression (p := p) (s := u) (j := j) (by rwa [hstage])
      rw [← stageCode_table (by omega), hclock] at hreported
      obtain ⟨hboot, hpulsed⟩ := stageCode_of_regression_phase (p := p) (s := u) (j := j) (by rwa [hseq]) (by rwa [hstage])
      rw [hseq, hpulse] at hpulsed
      exact ⟨hreported, hboot, hpulsed⟩
    · have hstress := stageCode_of_last (p := p) (s := u) (j := j) (by rwa [hstage]) hlast (by rwa [hseq])
      rwa [hclock] at hstress
    · rw [stageCode_of_not_last (by rwa [hstage]) (.inl hmore), hmoved]
      exact ⟨by simpa using hseq, hpulse⟩
    · rw [lines_of_runs htruns (hkept.lines hlines), lines_of_runs hruns hlines]

end Sys2Proof.Proofs
end

section
/-! # Scope: the checks of one channel in a round, the trip count, and the inside and held-up flags (R84, R86, R88, R90, R91, R92) -/

namespace Sys2Proof.Proofs

open Sys2Proof.Machine

/-! ### One channel's check in one round (R84, R90) -/

section
variable {ch : Channel} {v : Nat} {w : ChannelWatch}

theorem holds_iff : ch.holds v = true ↔ ch.low ≤ v ∧ v ≤ ch.high := by simp [Channel.holds]

theorem windowRound_of_inside (h : ch.low ≤ v ∧ v ≤ ch.high) : w.windowRound ch v = ({ w with windowCount := 0, windowLatch := false }, false) :=
  if_pos (holds_iff.2 h)

theorem windowRound_of_latched (h : ¬(ch.low ≤ v ∧ v ≤ ch.high)) (hlatch : w.windowLatch = true) :
    w.windowRound ch v = ({ w with windowCount := 0 }, false) := by
  rw [ChannelWatch.windowRound, if_neg (mt holds_iff.1 h), if_pos hlatch]

theorem windowRound_of_clear (h : ¬(ch.low ≤ v ∧ v ≤ ch.high)) (hlatch : w.windowLatch = false) :
    w.windowRound ch v =
      ({ w with windowCount := if ch.dwell ≤ w.windowCount + 1 then 0 else w.windowCount + 1, windowLatch := decide (ch.dwell ≤ w.windowCount + 1) },
        decide (ch.dwell ≤ w.windowCount + 1)) := by
  rw [ChannelWatch.windowRound, if_neg (mt holds_iff.1 h), if_neg (by simp [hlatch])]
  split
  · next hdwell => simp [hdwell]
  · next hdwell => simp [hdwell, hlatch]

/-- Inside, with the latch set, or below the dwell the window check makes no report (R84). -/
theorem windowRound_silent (h : (ch.low ≤ v ∧ v ≤ ch.high) ∨ w.windowLatch = true ∨ w.windowCount + 1 < ch.dwell) : (w.windowRound ch v).2 = false := by
  by_cases hinside : ch.low ≤ v ∧ v ≤ ch.high
  · rw [windowRound_of_inside hinside]
  · cases hlatch : w.windowLatch with
    | true => rw [windowRound_of_latched hinside hlatch]
    | false =>
      rw [windowRound_of_clear hinside hlatch]
      have hbelow : w.windowCount + 1 < ch.dwell := by simpa [hinside, hlatch] using h
      exact decide_eq_false (Nat.not_le.2 hbelow)

theorem restRound_of_below (h : v ≤ ch.offLevel) : w.restRound ch v = ({ w with restCount := 0 }, false) := if_pos h

theorem restRound_of_above (h : ch.offLevel < v) :
    w.restRound ch v =
      ({ w with restCount := (w.restCount + 1) % 256, restLatch := w.restLatch || decide (ch.dwell ≤ (w.restCount + 1) % 256) },
        !w.restLatch && decide (ch.dwell ≤ (w.restCount + 1) % 256)) := by
  rw [ChannelWatch.restRound, if_neg (Nat.not_le.2 h)]
  split
  · next hreports => simp [hreports]
  · next hsilent =>
    cases hlatch : w.restLatch with
    | true => simp
    | false =>
      have hshort : ¬ch.dwell ≤ (w.restCount + 1) % 256 := fun hdwell => hsilent ⟨hdwell, hlatch⟩
      simp [hshort]

/-- At or below the off level, with the latch set, or below the dwell the REST off check makes no report (R90). -/
theorem restRound_silent (h : v ≤ ch.offLevel ∨ w.restLatch = true ∨ (w.restCount + 1) % 256 < ch.dwell) : (w.restRound ch v).2 = false := by
  rcases Nat.lt_or_ge ch.offLevel v with habove | hbelow
  · rw [restRound_of_above habove]
    have hlatched : w.restLatch = true ∨ (w.restCount + 1) % 256 < ch.dwell := h.resolve_left (Nat.not_le.2 habove)
    rcases hlatched with hlatch | hshort
    · simp [hlatch]
    · simp [Nat.not_le.2 hshort]
  · rw [restRound_of_below hbelow]

end

/-! ### What a check leaves of the channel checked and of the others -/

/-- A channel's watch kept, with the report that its check makes. -/
def watchTaken (p : Profile) (i : Nat) (g : Sig) (x : ChannelWatch × Bool) (s : State) : State :=
  if x.2 then (s.setWatch i x.1).faultReport p g s.clock else s.setWatch i x.1

/-- An operation that has no part in the checks of channel k: its watch and its records are as they were, and what is reported stays. -/
structure Spares (k : Nat) (s t : State) : Prop where
  watch : t.rail.watch.get k = s.rail.watch.get k
  values : t.rail.values = s.rail.values
  clock : t.clock = s.clock
  grown : s.table.Grown s.clock t.table
  records : ∀ c, c < 16 → t.table.find (signature c k) = s.table.find (signature c k)

/-- The check of channel k, made in `s`, has left the watch and, where it reports, the report of signature g; without a report, and of every
other signature, the records of the channel are as they were. -/
structure Checked (k : Nat) (g : Sig) (x : ChannelWatch × Bool) (s t : State) : Prop where
  watch : t.rail.watch.get k = x.1
  reported : x.2 = true → t.table.Reported g s.clock
  records : ∀ c, c < 16 → (x.2 = false ∨ signature c k ≠ g) → t.table.find (signature c k) = s.table.find (signature c k)

section
variable {k i : Nat} {p : Profile} {g : Sig} {x : ChannelWatch × Bool} {s t u : State}

theorem Spares.refl (k : Nat) (s : State) : Spares k s s := ⟨rfl, rfl, rfl, SightingTable.grown_of_records _ _ _ rfl, fun _ _ => rfl⟩

theorem Spares.trans (h : Spares k s t) (j : Spares k t u) : Spares k s u := by
  have hgrown := j.grown
  rw [h.clock] at hgrown
  exact ⟨j.watch.trans h.watch, j.values.trans h.values, j.clock.trans h.clock, h.grown.trans hgrown,
    fun c hc => (j.records c hc).trans (h.records c hc)⟩

/-- An operation that reports nothing. -/
theorem Spares.of_table (hwatch : t.rail.watch.get k = s.rail.watch.get k) (hvalues : t.rail.values = s.rail.values) (hclock : t.clock = s.clock)
    (htable : t.table = s.table) : Spares k s t :=
  ⟨hwatch, hvalues, hclock, SightingTable.grown_of_records _ _ _ (by rw [htable]), fun _ _ => by rw [htable]⟩

theorem Checked.found (h : Spares k s u) (j : Checked k g x u t) : Checked k g x s t := by
  obtain ⟨hwatch, hreported, hrecords⟩ := j
  rw [h.clock] at hreported
  exact ⟨hwatch, hreported, fun c hc hother => (hrecords c hc hother).trans (h.records c hc)⟩

theorem Checked.left (h : Checked k g x s t) (hclock : t.clock = s.clock) (j : Spares k t u) : Checked k g x s u := by
  have hgrown := j.grown
  rw [hclock] at hgrown
  exact ⟨j.watch.trans h.watch, fun hreports => hgrown.reported (h.reported hreports),
    fun c hc hother => (j.records c hc).trans (h.records c hc hother)⟩

theorem watchTaken_clock : (watchTaken p i g x s).clock = s.clock := by
  unfold watchTaken
  split <;> simp

theorem watchTaken_checked (hk : k < 8) : Checked k g x s (watchTaken p k g x s) := by
  have hwatch : (s.setWatch k x.1).rail.watch.get k = x.1 := Eight.get_set_same _ _ k hk
  unfold watchTaken
  split
  · next hreports =>
    refine ⟨by simpa using hwatch, fun _ => (State.faultReport_spec p g s.clock _).2, fun c _ hother => ?_⟩
    exact faultReport_find_other (hother.resolve_left (by simp [hreports]))
  · next hsilent => exact ⟨hwatch, fun hreports => absurd hreports hsilent, fun _ _ _ => rfl⟩

theorem watchTaken_spares (hi : i < 8) (hk : k < 8) (hne : i ≠ k) (hg : ∀ c, c < 16 → signature c k ≠ g) :
    Spares k s (watchTaken p i g x s) := by
  have hset : Spares k s (s.setWatch i x.1) := .of_table (Eight.get_set_other _ _ i k hi hk hne) rfl rfl rfl
  unfold watchTaken
  split
  · refine hset.trans ⟨by simp, by simp, by simp, (State.faultReport_spec p g s.clock _).1, fun c hc => faultReport_find_other (hg c hc)⟩
  · exact hset

/-! ### Checks made channel by channel -/

variable {step : State → Nat → State}

theorem foldl_spares (hspares : ∀ u i, i < 8 → i ≠ k → Spares k u (step u i)) :
    ∀ (l : List Nat) (s : State), (∀ i ∈ l, i < 8 ∧ i ≠ k) → Spares k s (l.foldl step s)
  | [], s, _ => .refl k s
  | i :: l, s, hl => by
    obtain ⟨hi, hne⟩ := hl i List.mem_cons_self
    exact (hspares s i hi hne).trans (foldl_spares hspares l (step s i) fun j hj => hl j (List.mem_cons_of_mem i hj))

/-- A channel is checked once, with the value and the watch that the round found: the other channels' checks have no part in its own. -/
theorem foldl_checked {f : Nat → ChannelWatch → ChannelWatch × Bool} {sig : Nat → Sig} {l : List Nat} (hnodup : l.Nodup) (hlt : ∀ i ∈ l, i < 8)
    (hmem : k ∈ l) (hspares : ∀ u i, i < 8 → i ≠ k → Spares k u (step u i))
    (hstep : ∀ u : State, step u k = watchTaken p k (sig (u.rail.values.get k)) (f (u.rail.values.get k) (u.rail.watch.get k)) u) :
    Checked k (sig (s.rail.values.get k)) (f (s.rail.values.get k) (s.rail.watch.get k)) s (l.foldl step s) := by
  have hk := hlt k hmem
  obtain ⟨before, after, rfl⟩ := List.append_of_mem hmem
  obtain ⟨-, hafter, hbefore⟩ := List.nodup_append.1 hnodup
  have hfound : Spares k s (before.foldl step s) := foldl_spares hspares before s fun i hi =>
    ⟨hlt i (by simp [hi]), hbefore i hi k List.mem_cons_self⟩
  have hleft := foldl_spares hspares after (step (before.foldl step s) k) fun i hi =>
    ⟨hlt i (by simp [hi]), fun heq => (List.nodup_cons.1 hafter).1 (heq ▸ hi)⟩
  rw [List.foldl_append, List.foldl_cons]
  rw [hstep, hfound.values, hfound.watch] at hleft ⊢
  exact ((watchTaken_checked hk).left watchTaken_clock hleft).found hfound

end

section
variable {p : Profile} {k i : Nat} {s : State}

theorem signature_ne {c c' : Nat} (hc : c < 16) (hc' : c' < 16) (hk : k < 8) (hi : i < 8) (hne : i ≠ k) : signature c k ≠ signature c' i :=
  fun heq => hne ((signature_inj hc hc' (by omega) (by omega)).1 heq).2.symm

/-- Of rail low and rail high a value outside its window is reported under one alone (R84). -/
theorem signature_opposite_ne {ch : Channel} {v : Nat} (hk : k < 8) :
    signature (if v < ch.low then 2 else 1) k ≠ signature (windowClass ch v) k := by
  unfold windowClass
  split <;> rw [ne_eq, signature_inj] <;> omega

theorem windowStep_of_armed (h : (p.channels.get i).windowFlag = true) :
    s.windowStep p i = watchTaken p i (signature (windowClass (p.channels.get i) (s.rail.values.get i)) i)
      ((s.rail.watch.get i).windowRound (p.channels.get i) (s.rail.values.get i)) s := by
  simp only [State.windowStep, h, if_true]
  rfl

theorem windowStep_of_unarmed (h : (p.channels.get i).windowFlag = false) : s.windowStep p i = s := by
  simp [State.windowStep, h]

theorem windowStep_spares (hi : i < 8) (hk : k < 8) (hne : i ≠ k) : Spares k s (s.windowStep p i) := by
  cases hflag : (p.channels.get i).windowFlag with
  | false =>
    rw [windowStep_of_unarmed hflag]
    exact .refl k s
  | true =>
    rw [windowStep_of_armed hflag]
    have hclass := windowClass_lt (p.channels.get i) (s.rail.values.get i)
    exact watchTaken_spares hi hk hne fun c hc => signature_ne hc (by omega) hk hi hne

theorem restStep_of_armed (h : (p.channels.get i).offFlag = true) :
    s.restStep p i = watchTaken p i (signature 4 i) ((s.rail.watch.get i).restRound (p.channels.get i) (s.rail.values.get i)) s := by
  simp only [State.restStep, h, if_true]
  rfl

theorem restStep_of_unarmed (h : (p.channels.get i).offFlag = false) : s.restStep p i = s := by
  simp [State.restStep, h]

theorem restStep_spares (hi : i < 8) (hk : k < 8) (hne : i ≠ k) : Spares k s (s.restStep p i) := by
  cases hflag : (p.channels.get i).offFlag with
  | false =>
    rw [restStep_of_unarmed hflag]
    exact .refl k s
  | true =>
    rw [restStep_of_armed hflag]
    exact watchTaken_spares hi hk hne fun c hc => signature_ne hc (by omega) hk hi hne

theorem windowCheck_checked (hlow : 2 ≤ k) (hhigh : k ≤ 7) (hflag : (p.channels.get k).windowFlag = true) :
    Checked k (signature (windowClass (p.channels.get k) (s.rail.values.get k)) k)
      ((s.rail.watch.get k).windowRound (p.channels.get k) (s.rail.values.get k)) s (s.windowCheck p) :=
  foldl_checked (f := fun v w => w.windowRound (p.channels.get k) v) (sig := fun v => signature (windowClass (p.channels.get k) v) k)
    (by decide) (by decide) (by simp only [List.mem_cons, List.not_mem_nil, or_false]; omega)
    (fun _ _ hi hne => windowStep_spares hi (by omega) hne) (fun _ => windowStep_of_armed hflag)

theorem restCheck_checked (hk : k < 8) (hflag : (p.channels.get k).offFlag = true) :
    Checked k (signature 4 k) ((s.rail.watch.get k).restRound (p.channels.get k) (s.rail.values.get k)) s (s.restCheck p) :=
  foldl_checked (f := fun v w => w.restRound (p.channels.get k) v) (sig := fun _ => signature 4 k)
    List.nodup_range (fun _ => List.mem_range.1) (List.mem_range.2 hk)
    (fun _ _ hi hne => restStep_spares hi hk hne) (fun _ => restStep_of_armed hflag)

end

/-! ### What the checks of a round leave (R84, R86, R88, R90 to R92) -/

section
variable {p : Profile} {k : Nat} {s t : State} {tripFirst : Bool}

/-- The sag check moves the sag detector alone of the rail monitor. -/
@[simp] theorem sagCheck_counts :
    (s.sagCheck p).rail.watch = s.rail.watch ∧ (s.sagCheck p).rail.tripCount = s.rail.tripCount ∧ (s.sagCheck p).rail.values = s.rail.values := by
  obtain ⟨x, hrail⟩ := sagCheck_rail p s
  rw [hrail]
  exact ⟨rfl, rfl, rfl⟩

theorem sagCheck_spares : Spares k s (s.sagCheck p) := .of_table (by simp) (by simp) (by simp) (by simp)

theorem tripCounted_spares : Spares k s (s.tripCounted p) := .of_table rfl rfl rfl rfl

theorem tripCounted_of_no_trip (h : s.tripReached p = false) :
    (s.tripCounted p).rail.tripCount = if p.tripLimit < s.rail.values.get 1 then s.rail.tripCount + 1 else 0 := by
  simp [State.tripCounted, h]

/-- The inside flags have no part in the trip count (R86, R91). -/
theorem roundCounted_tripCount (h : s.tripReached p = false) :
    (roundCounted p s).rail.tripCount = if p.tripLimit < s.rail.values.get 1 then s.rail.tripCount + 1 else 0 := by
  unfold roundCounted
  split
  · exact tripCounted_of_no_trip (s := s.rampFlags p) h
  · exact tripCounted_of_no_trip h

/-- Without a trip the settled report is the only one that a powered round can hand over (R86, R91). -/
theorem poweredChecks_of_no_trip (h : s.tripReached p = false) :
    s.poweredChecks p tripFirst = if s.seq.phase == .ramp && s.settledRound p then (roundCounted p s).railsSettled p else roundCounted p s := by
  simp [State.poweredChecks, roundCounted, h]

theorem enterStress_tripCount : (s.enterStress p).rail.tripCount = s.rail.tripCount := by
  unfold State.enterStress
  dsimp only
  split <;> simp [State.changePhase, RailMonitor.phaseChanged, Phase.powered]

theorem enterBoot_tripCount : (s.enterBoot p).rail.tripCount = s.rail.tripCount := by
  unfold State.enterBoot
  dsimp only
  split
  · rw [enterStress_tripCount]
    simp [State.changePhase, RailMonitor.phaseChanged, Phase.powered]
  · simp [State.changePhase, RailMonitor.phaseChanged, Phase.powered]

/-- A settled report finds the board powered and leaves it so, with the trip count as it stands (R83, R91). -/
theorem railsSettled_powered (h : s.seq.phase.powered = true) :
    (s.railsSettled p).seq.phase.powered = true ∧ (s.railsSettled p).rail.tripCount = s.rail.tripCount := by
  by_cases hramp : s.seq.phase = .ramp
  · refine ⟨?_, ?_⟩
    · rw [(railsSettled_reached hramp).seq]
      dsimp only
      split <;> rfl
    · simp only [State.railsSettled, hramp]
      rw [enterBoot_tripCount]
      simp
  · rw [railsSettled_of_elsewhere hramp]
    exact ⟨h, rfl⟩

theorem rampFlags_inside (hk : k < 8) :
    ((s.rampFlags p).rail.watch.get k).inside =
      if (p.channels.get k).rampFlag then (p.channels.get k).holds (s.rail.values.get k) else (s.rail.watch.get k).inside := by
  simp only [State.rampFlags, State.setRail_rail]
  rw [Eight.get_zip _ _ _ k hk, Eight.get_zip _ _ _ k hk]
  cases (p.channels.get k).rampFlag <;> rfl

theorem drainFlags_heldUp (hk : k < 8) :
    ((s.drainFlags p).rail.watch.get k).heldUp =
      if (p.channels.get k).offFlag then decide ((p.channels.get k).offLevel < s.rail.values.get k) else (s.rail.watch.get k).heldUp := by
  simp only [State.drainFlags, State.setRail_rail]
  rw [Eight.get_zip _ _ _ k hk, Eight.get_zip _ _ _ k hk]
  cases (p.channels.get k).offFlag <;> rfl

/-! ### The round as its command brings it (R80, R83) -/

variable {inputs : Eight Int} {i : PanelSample}

/-- The checks of the phase made on a round's values, and the sag check behind them. -/
def roundChecked (p : Profile) (inputs : Eight Int) (i : PanelSample) (tripFirst : Bool) (s : State) : State :=
  ((roundScaled p inputs i s).phaseChecks p tripFirst).sagCheck p

theorem exec_round_checked (hp : s.profile = some p) (hround : s.roundTaken = false) :
    exec (.round inputs i tripFirst) s = .next (roundChecked p inputs i tripFirst s) := exec_round_scaled tripFirst hp hround

theorem roundScaled_watch : (roundScaled p inputs i s).rail.watch = s.rail.watch := by simp

/-- The conversions of a round touch neither watch nor records, so a check tells of the state before the round. -/
theorem Checked.of_roundScaled {g : Sig} {x : ChannelWatch × Bool} (h : Checked k g x (roundScaled p inputs i s) t) : Checked k g x s t := by
  obtain ⟨hwatch, hreported, hrecords⟩ := h
  exact ⟨hwatch, by simpa using hreported, by simpa using hrecords⟩

theorem roundWatched_seq : (roundWatched p s).seq = s.seq := by
  unfold roundWatched
  split <;> simp

theorem tripReached_of_no_trip (hno : roundValue p inputs 1 ≤ p.tripLimit ∨ s.rail.tripCount + 1 < p.tripDwell) :
    (roundWatched p (roundScaled p inputs i s)).tripReached p = false := by
  rw [Bool.eq_false_iff, ne_eq, tripReached_iff]
  omega

/-- A powered round that neither trips nor settles the rails hands the sequencer no report (R86, R91). -/
theorem phaseChecks_of_unreported (hpowered : s.seq.phase.powered = true)
    (hno : roundValue p inputs 1 ≤ p.tripLimit ∨ s.rail.tripCount + 1 < p.tripDwell) (hunsettled : s.seq.phase = .ramp → ¬RoundSettles p inputs) :
    (roundScaled p inputs i s).phaseChecks p tripFirst = reportsState p inputs i s := by
  rw [phaseChecks_of_powered p _ tripFirst (by simpa using (powered_iff _).1 hpowered), poweredChecks_of_no_trip (tripReached_of_no_trip hno)]
  refine if_neg fun hsettles => ?_
  simp only [Bool.and_eq_true, beq_iff_eq, settledRound_iff, roundWatched_seq, roundScaled_frame] at hsettles
  obtain ⟨hramp, hsettled⟩ := hsettles
  exact hunsettled hramp hsettled

/-- A powered round without a trip leaves the board powered, and the trip count as the feed current has it (R91). -/
theorem roundChecked_powered (hpowered : s.seq.phase.powered = true)
    (hno : roundValue p inputs 1 ≤ p.tripLimit ∨ s.rail.tripCount + 1 < p.tripDwell) :
    (roundChecked p inputs i tripFirst s).seq.phase.powered = true
      ∧ (roundChecked p inputs i tripFirst s).rail.tripCount = if p.tripLimit < roundValue p inputs 1 then s.rail.tripCount + 1 else 0 := by
  have htrip := tripReached_of_no_trip (i := i) hno
  have hcount : (reportsState p inputs i s).rail.tripCount = if p.tripLimit < roundValue p inputs 1 then s.rail.tripCount + 1 else 0 := by
    obtain ⟨hvalues, hbefore⟩ := roundWatched_rail p (roundScaled p inputs i s)
    rw [reportsState, roundCounted_tripCount htrip, hvalues, hbefore, roundScaled_value (by omega)]
    simp
  have hfound : (reportsState p inputs i s).seq.phase.powered = true := by rwa [reportsState_find.seq]
  obtain ⟨hsettledPowered, hsettledCount⟩ := railsSettled_powered (p := p) hfound
  have hchecks := phaseChecks_of_powered p (roundScaled p inputs i s) tripFirst (by simpa using (powered_iff _).1 hpowered)
  rw [poweredChecks_of_no_trip htrip] at hchecks
  simp only [roundChecked, State.sagCheck_frame, sagCheck_counts, hchecks]
  split
  · exact ⟨hsettledPowered, hsettledCount.trans hcount⟩
  · exact ⟨hfound, hcount⟩

/-- A round in BOOT or STRESS without a trip makes the window check of each window-armed channel and leaves the sequencer alone (R84). -/
theorem roundChecked_window (hphase : s.seq.phase = .boot ∨ s.seq.phase = .stress)
    (hno : roundValue p inputs 1 ≤ p.tripLimit ∨ s.rail.tripCount + 1 < p.tripDwell) (hlow : 2 ≤ k) (hhigh : k ≤ 7)
    (hflag : (p.channels.get k).windowFlag = true) :
    (roundChecked p inputs i tripFirst s).seq = s.seq
      ∧ Checked k (signature (windowClass (p.channels.get k) (roundValue p inputs k)) k)
          ((s.rail.watch.get k).windowRound (p.channels.get k) (roundValue p inputs k)) s (roundChecked p inputs i tripFirst s) := by
  have hpowered : s.seq.phase.powered = true := (powered_iff _).2 (.inr hphase)
  have hramp : s.seq.phase ≠ .ramp := by rcases hphase with h | h <;> simp [h]
  have hruns : s.seq.phase.runs = true := by rcases hphase with h | h <;> simp [h, Phase.runs]
  have hchecks := phaseChecks_of_unreported (i := i) (tripFirst := tripFirst) hpowered hno fun h => absurd h hramp
  have hstate : reportsState p inputs i s = ((roundScaled p inputs i s).windowCheck p).tripCounted p := by
    simp [reportsState, roundWatched, roundCounted, hruns, hramp]
  have hchecked := windowCheck_checked (s := roundScaled p inputs i s) hlow hhigh hflag
  rw [roundScaled_value (by omega), roundScaled_watch] at hchecked
  rw [roundChecked, hchecks]
  refine ⟨by simpa using reportsState_find.seq, ?_⟩
  rw [hstate]
  exact (hchecked.left (by simp) (tripCounted_spares.trans sagCheck_spares)).of_roundScaled

/-- A round in REST makes the REST off check of each off-armed channel and leaves the sequencer alone (R90). -/
theorem roundChecked_rest (hphase : s.seq.phase = .rest) (hk : k < 8) (hflag : (p.channels.get k).offFlag = true) :
    (roundChecked p inputs i tripFirst s).seq = s.seq
      ∧ Checked k (signature 4 k) ((s.rail.watch.get k).restRound (p.channels.get k) (roundValue p inputs k)) s
          (roundChecked p inputs i tripFirst s) := by
  have hchecks : (roundScaled p inputs i s).phaseChecks p tripFirst = (roundScaled p inputs i s).restCheck p := by
    simp [State.phaseChecks, hphase]
  have hchecked := restCheck_checked (s := roundScaled p inputs i s) hk hflag
  rw [roundScaled_value hk, roundScaled_watch] at hchecked
  rw [roundChecked, hchecks]
  exact ⟨by simp, (hchecked.left (by simp) sagCheck_spares).of_roundScaled⟩

/-- A round in RAMP that does not settle keeps the inside flags alone, of sequencer, table and flags (R86). -/
theorem roundChecked_ramp (hramp : s.seq.phase = .ramp) (hno : roundValue p inputs 1 ≤ p.tripLimit ∨ s.rail.tripCount + 1 < p.tripDwell)
    (hunsettled : ¬RoundSettles p inputs) :
    (roundChecked p inputs i tripFirst s).seq = s.seq ∧ (roundChecked p inputs i tripFirst s).table = s.table
      ∧ ∀ k, k < 8 → ((roundChecked p inputs i tripFirst s).rail.watch.get k).inside =
          if (p.channels.get k).rampFlag then (p.channels.get k).holds (roundValue p inputs k) else (s.rail.watch.get k).inside := by
  have hchecks := phaseChecks_of_unreported (i := i) (tripFirst := tripFirst) ((powered_iff _).2 (.inl hramp)) hno fun _ => hunsettled
  have hstate : reportsState p inputs i s = ((roundScaled p inputs i s).rampFlags p).tripCounted p := by
    simp [reportsState, roundWatched, roundCounted, Phase.runs, hramp]
  rw [roundChecked, hchecks, hstate]
  refine ⟨by simp, by simp, fun k hk => ?_⟩
  have hinside := rampFlags_inside (p := p) (s := roundScaled p inputs i s) hk
  rw [roundScaled_value hk, roundScaled_watch] at hinside
  simpa using (congrArg ChannelWatch.inside tripCounted_spares.watch).trans hinside

/-- A round in DRAIN that does not end it keeps the held-up flags (R88). -/
theorem roundChecked_drain (hdrain : s.seq.phase = .drain)
    (hup : ∃ k, k < 8 ∧ (p.channels.get k).offFlag = true ∧ (p.channels.get k).offLevel < roundValue p inputs k) :
    (roundChecked p inputs i tripFirst s).seq = s.seq ∧ (roundChecked p inputs i tripFirst s).table = s.table
      ∧ ∀ k, k < 8 → ((roundChecked p inputs i tripFirst s).rail.watch.get k).heldUp =
          if (p.channels.get k).offFlag then decide ((p.channels.get k).offLevel < roundValue p inputs k) else (s.rail.watch.get k).heldUp := by
  have hundrained : (roundScaled p inputs i s).drainedRound p = false := by
    obtain ⟨k, hk, hflag, hlevel⟩ := hup
    rw [State.drainedRound, List.all_eq_false]
    refine ⟨k, List.mem_range.2 hk, ?_⟩
    rw [roundScaled_value hk, hflag]
    simpa using hlevel
  have hchecks : (roundScaled p inputs i s).phaseChecks p tripFirst = (roundScaled p inputs i s).drainFlags p := by
    simp [State.phaseChecks, hdrain, hundrained]
  rw [roundChecked, hchecks]
  refine ⟨by simp, by simp, fun k hk => ?_⟩
  have hheld := drainFlags_heldUp (p := p) (s := roundScaled p inputs i s) hk
  rw [roundScaled_value hk, roundScaled_watch] at hheld
  simpa using hheld

end

/-- Settles O25: each channel is checked once, with the watch and the value that the round finds, and neither the other channels' checks nor the sag
check has a part in what its own leaves. -/
theorem channelChecks : Obligations.ChannelChecks := by
  unfold Obligations.ChannelChecks
  refine ⟨fun inputs i tripFirst s p k v hp hround hphase hno hlow hhigh hflag hv => ?_,
    fun inputs i tripFirst s p k v n hp hround hphase hk hflag hv hn => ?_, fun inputs i tripFirst s p hp hround => ?_⟩
  · obtain ⟨hseq, hwatch, hreported, hrecords⟩ := roundChecked_window (i := i) (tripFirst := tripFirst) hphase hno hlow hhigh hflag
    rw [← hv] at hwatch hreported hrecords
    refine ⟨_, exec_round_checked hp hround, hseq, fun hinside => ?_, fun houtside hlatch => ?_, fun houtside hlatch => ?_, fun hsilent => ?_⟩
    · rw [hwatch, windowRound_of_inside hinside]
      exact ⟨rfl, rfl⟩
    · rw [hwatch, windowRound_of_latched houtside hlatch]
      exact ⟨rfl, hlatch⟩
    · rw [windowRound_of_clear houtside hlatch] at hwatch hreported
      refine ⟨by rw [hwatch], by rw [hwatch], fun hdwell => ⟨hreported (decide_eq_true hdwell), ?_⟩⟩
      exact hrecords _ (by split <;> omega) (.inr (signature_opposite_ne (by omega)))
    · have hunreported := windowRound_silent hsilent
      exact ⟨hrecords 1 (by omega) (.inl hunreported), hrecords 2 (by omega) (.inl hunreported)⟩
  · obtain ⟨hseq, hwatch, hreported, hrecords⟩ :=
      roundChecked_rest (p := p) (inputs := inputs) (i := i) (tripFirst := tripFirst) hphase hk hflag
    rw [← hv] at hwatch hreported hrecords
    subst hn
    refine ⟨_, exec_round_checked hp hround, hseq, fun hbelow => ?_, fun habove => ?_, fun hsilent => ?_⟩
    · rw [hwatch, restRound_of_below hbelow]
      exact ⟨rfl, rfl⟩
    · rw [restRound_of_above habove] at hwatch hreported
      exact ⟨by rw [hwatch], by rw [hwatch], fun hlatch hdwell => hreported (by simp [hlatch, hdwell])⟩
    · exact hrecords 4 (by omega) (.inl (restRound_silent hsilent))
  · refine ⟨_, exec_round_checked hp hround, fun hpowered => ⟨fun hwithin => ?_, fun hover hbelow => ?_⟩, fun hramp hno hout => ?_,
      fun hdrain hup => roundChecked_drain hdrain hup⟩
    · obtain ⟨hstill, hcount⟩ := roundChecked_powered (i := i) (tripFirst := tripFirst) hpowered (.inl hwithin)
      exact ⟨by rw [hcount, if_neg (Nat.not_lt.2 hwithin)], hstill⟩
    · obtain ⟨hstill, hcount⟩ := roundChecked_powered (inputs := inputs) (i := i) (tripFirst := tripFirst) hpowered (.inr hbelow)
      exact ⟨by rw [hcount, if_pos hover], hstill⟩
    · obtain ⟨k, hk, hflag, hoff⟩ := hout
      exact roundChecked_ramp hramp hno fun hsettles => hoff (hsettles k hk hflag)

end Sys2Proof.Proofs
end

section
/-! # Scope: a received byte at the parser, codes that are no stage code, and the listener's timers (R100, R102 to R106, R110 to R112) -/

namespace Sys2Proof.Proofs

open Sys2Proof.Machine

/-! ### A byte at the ring (R100, R102) -/

theorem receives_iff (s : State) : s.receives = true ↔ s.seq.lines.listenerEnabled = true ∧ s.lis.idleFlag = true := by
  simp [State.receives]

theorem byteReceived_of_hearing {p : Profile} {s : State} (b : Byte) (h : Hearing p s) :
    s.byteReceived b = (s.setLis { s.lis with trace := pushByte b s.lis.trace }).parse p b := by
  obtain ⟨hp, hreceives⟩ := h
  simp only [State.byteReceived, hp, (receives_iff s).2 hreceives, if_true]

theorem byteReceived_of_deaf {s : State} (b : Byte) (h : s.seq.lines.listenerEnabled = false ∨ s.lis.idleFlag = false) : s.byteReceived b = s := by
  unfold State.byteReceived
  split
  · refine if_neg fun hreceives => ?_
    obtain ⟨henabled, hidle⟩ := (receives_iff s).1 hreceives
    rcases h with h | h
    · exact absurd henabled (by simp [h])
    · exact absurd hidle (by simp [h])
  · rfl

/-! ### The parser's moves (R103 to R105) -/

section
variable {p : Profile} {b : Byte} {s : State}

theorem parse_hunt (h : s.lis.parser = .hunt) : s.parse p b = if b = p.leadByte then s.parserIn .codeHi else s := by
  simp only [State.parse, h]

theorem parse_codeHi (h : s.lis.parser = .codeHi) : s.parse p b = s.parserIn (.codeLo b) := by
  simp only [State.parse, h]

theorem parse_codeLo {high : Byte} (h : s.lis.parser = .codeLo high) :
    s.parse p b = if high ++ b = p.identityCode then s.parserIn .idLen else s.parserHunts.classify p (high ++ b) := by
  simp only [State.parse, h]
  rfl

theorem parse_idLen (h : s.lis.parser = .idLen) :
    s.parse p b = if 1 ≤ b.toNat ∧ b.toNat ≤ 16 then s.parserIn (.idBytes b.toNat []) else s.parserHunts := by
  simp only [State.parse, h]

theorem parse_idBytes {n : Nat} {got : List Byte} (h : s.lis.parser = .idBytes n got) :
    s.parse p b =
      if got.length + 1 < n then s.parserIn (.idBytes n (got ++ [b])) else s.parserHunts.offerIdentity (got ++ [b]) := by
  simp only [State.parse, h]

end

/-- Settles O32: the byte joins the ring, and each state of the parser has one move for it. -/
theorem parserTakesByte : Obligations.ParserTakesByte := by
  unfold Obligations.ParserTakesByte
  refine fun b s p => ⟨fun hdeaf => congrArg _ (byteReceived_of_deaf b hdeaf), fun hh ring late hring hlate => ?_⟩
  have hexec : exec (.byteReceived b) s = .next ((s.setLis { s.lis with trace := ring }).parse p b) := by
    rw [hring, ← pushByte_eq]
    exact congrArg _ (byteReceived_of_hearing b hh)
  have hread : ∀ {x : Parser}, s.lis.parser = x → (s.setLis { s.lis with trace := ring }).lis.parser = x := fun h => h
  rw [hexec, hlate]
  refine ⟨fun hparser hb => ?_, fun hparser hb => ?_, fun hparser => ?_, fun high hparser hcode => ?_, fun hparser hlow hhigh => ?_,
    fun hparser hlen => ?_, fun n got hparser hmore => ?_, fun n got hparser hlast => ?_⟩
  · rw [parse_hunt (hread hparser), if_neg hb]
    rfl
  · rw [parse_hunt (hread hparser), if_pos hb]
    rfl
  · rw [parse_codeHi (hread hparser)]
    rfl
  · rw [parse_codeLo (hread hparser), if_pos hcode]
    rfl
  · rw [parse_idLen (hread hparser), if_pos ⟨hlow, hhigh⟩]
    rfl
  · rw [parse_idLen (hread hparser), if_neg (by omega)]
    rfl
  · rw [parse_idBytes (hread hparser), if_pos hmore]
    rfl
  · rw [parse_idBytes (hread hparser), if_neg (by omega)]
    rfl

/-! ### A code that is no stage code (R106, R111) -/

section
variable {p : Profile} {s : State} {code : BitVec 16}

theorem classify_of_no_stage (h : stageIndex p s.lis.stage code = none) :
    s.classify p code =
      if code = p.pulseCode then s.pulseCode p
      else if p.errorLow ≤ code.toNat ∧ code.toNat ≤ p.errorHigh then s.faultReport p (signature 11 (code.toNat - p.errorLow)) s.clock
      else s := by
  rw [State.classify, h]

theorem pulseCode_of_watched (hstress : s.seq.phase = .stress) (hinterval : p.pulseInterval ≠ 0) :
    s.pulseCode p = s.setLis { s.lis with pulseDeadline := some (s.clock + BitVec.ofNat 32 (p.pulseInterval + 1)) } := by
  simp only [State.pulseCode, hstress, if_neg hinterval, timeAfter]

theorem pulseCode_of_unwatched (h : s.seq.phase ≠ .stress ∨ p.pulseInterval = 0) : s.pulseCode p = s := by
  unfold State.pulseCode
  split
  · next hstress => exact if_pos (h.resolve_left (not_not_intro hstress))
  · rfl

end

/-- Settles O34: the code's second byte ends the mark, and the code is classified on what that leaves. -/
theorem otherCodes : Obligations.OtherCodes := by
  unfold Obligations.OtherCodes
  intro b high s p hh hparser hcode hindex
  obtain ⟨x, hx⟩ : ∃ x, x = { s.lis with
    trace := (s.lis.trace ++ [b]).drop (s.lis.trace.length + 1 - 512), parser := .hunt, gapDeadline := none } := ⟨_, rfl⟩
  have hread : codeRead b s = s.setLis x := by
    rw [codeRead_eq, ← hx]
    rfl
  have hnone : stageIndex p (s.setLis x).lis.stage (high ++ b) = none := by rwa [State.setLis_lis, hx]
  rw [exec_codeByte hh hparser hcode, hread, classify_of_no_stage hnone]
  refine ⟨x, hx, fun hpulse hstress hinterval => ?_, fun hpulse hunwatched => ?_, fun hpulse hlow hhigh => ?_, fun hpulse hout => ?_⟩
  · have hwatched : (s.setLis x).seq.phase = .stress := hstress
    rw [if_pos hpulse, pulseCode_of_watched hwatched hinterval]
    rfl
  · have hignored : (s.setLis x).seq.phase ≠ .stress ∨ p.pulseInterval = 0 := hunwatched
    rw [if_pos hpulse, pulseCode_of_unwatched hignored]
    rfl
  · rw [if_neg hpulse, if_pos ⟨hlow, hhigh⟩]
    exact ⟨_, rfl, by simp, (State.faultReport_spec p _ s.clock (s.setLis x)).2⟩
  · rw [if_neg hpulse, if_neg (by omega)]
    rfl

/-! ### Idle flag and gap deadline (R100, R104) -/

section
variable {s : State}

theorem idleFlagSet_of_enabled (h : s.seq.lines.listenerEnabled = true) : s.idleFlagSet = s.setLis { s.lis with idleFlag := true } := if_pos h

theorem idleFlagSet_of_disabled (h : s.seq.lines.listenerEnabled = false) : s.idleFlagSet = s := if_neg (by simp [h])

theorem gapDeadlineOut_of_due (h : RunOut s s.lis.gapDeadline) : s.gapDeadlineOut = s.parserHunts := if_pos ((expiredOpt_iff _ _).2 h)

theorem gapDeadlineOut_of_not_due (h : ¬RunOut s s.lis.gapDeadline) : s.gapDeadlineOut = s := if_neg (mt (expiredOpt_iff _ _).1 h)

end

/-! ### A stall, and a lost pulse (R110, R112) -/

/-- The stage awaited is overdue: no stage is awaited until the index moves again. -/
def awaitEnded (s : State) : State := s.setLis { s.lis with awaitDeadline := none }

/-- The overdue stage is noted among the stalls of the cycle. -/
def stallNoted (s : State) : State :=
  s.setLis { s.lis with awaitDeadline := none, stalled := s.lis.stalled ++ [(s.lis.stage + 1).toNat] }

section
variable {p : Profile} {s : State}

theorem awaitedStageOut_of_known (hp : s.profile = some p) (hrun : RunOut s s.lis.awaitDeadline)
    (hknown : (s.lis.stage + 1).toNat ∈ s.lis.stalled) : s.awaitedStageOut = awaitEnded s := by
  simp only [State.awaitedStageOut, hp, (expiredOpt_iff _ _).2 hrun, if_true]
  exact if_pos hknown

theorem awaitedStageOut_of_new (hp : s.profile = some p) (hrun : RunOut s s.lis.awaitDeadline)
    (hnew : (s.lis.stage + 1).toNat ∉ s.lis.stalled) :
    s.awaitedStageOut = (stallNoted s).faultReport p (signature 6 (s.lis.stage + 1).toNat) s.clock := by
  simp only [State.awaitedStageOut, hp, (expiredOpt_iff _ _).2 hrun, if_true]
  exact if_neg hnew

theorem awaitedStageOut_of_not_due (h : ¬RunOut s s.lis.awaitDeadline) : s.awaitedStageOut = s := by
  unfold State.awaitedStageOut
  split
  · exact if_neg (mt (expiredOpt_iff _ _).1 h)
  · rfl

theorem pulseDeadlineOut_of_due (hp : s.profile = some p) (hrun : RunOut s s.lis.pulseDeadline) (hstress : s.seq.phase = .stress) :
    s.pulseDeadlineOut = (s.faultReport p (signature 9 0) s.clock).enterDrain p := by
  simp only [State.pulseDeadlineOut, hp, hstress, (expiredOpt_iff _ _).2 hrun, if_true]

theorem pulseDeadlineOut_of_not_due (h : ¬RunOut s s.lis.pulseDeadline ∨ s.seq.phase ≠ .stress) : s.pulseDeadlineOut = s := by
  unfold State.pulseDeadlineOut
  split
  · next hstress => exact if_neg fun hdue => h.elim (fun hn => hn ((expiredOpt_iff _ _).1 hdue)) fun hn => hn hstress
  · rfl

/-- A lost pulse is reported before DRAIN begins, and DRAIN keeps the report. -/
theorem pulseLost_spec (hp : s.profile = some p) (hrun : RunOut s s.lis.pulseDeadline) (hstress : s.seq.phase = .stress) :
    s.pulseDeadlineOut.table.Reported 0x9000#16 s.clock
      ∧ s.pulseDeadlineOut.seq.phase = .drain
      ∧ s.pulseDeadlineOut.seq.drainDeadline = some (s.clock + BitVec.ofNat 32 p.drainTimeout)
      ∧ s.pulseDeadlineOut.lis.pulseDeadline = none ∧ s.pulseDeadlineOut.lis.parser = .hunt := by
  have hreported : (s.faultReport p (signature 9 0) s.clock).table.Reported 0x9000#16 s.clock := (State.faultReport_spec p _ s.clock s).2
  rw [pulseDeadlineOut_of_due hp hrun hstress, enterDrain_seq, enterDrain_lis]
  exact ⟨by simpa using hreported, rfl, by simp, rfl, rfl⟩

end

/-- Settles O35: each timer by whether it has run out; a stall by whether the cycle has it already. -/
theorem listenerTimers : Obligations.ListenerTimers := by
  unfold Obligations.ListenerTimers
  refine ⟨fun s => ⟨fun henabled => congrArg _ (idleFlagSet_of_enabled henabled), fun hdisabled => congrArg _ (idleFlagSet_of_disabled hdisabled),
      fun hrun => congrArg _ (gapDeadlineOut_of_due hrun), fun hnot => congrArg _ (gapDeadlineOut_of_not_due hnot)⟩,
    fun s p hp => ⟨fun hrun hknown => congrArg _ (awaitedStageOut_of_known hp hrun hknown), fun hrun hnew => ?_, fun hrun hstress => ?_,
      fun hnot => congrArg _ (awaitedStageOut_of_not_due hnot), fun hnot => congrArg _ (pulseDeadlineOut_of_not_due hnot)⟩⟩
  · have hout := awaitedStageOut_of_new hp hrun hnew
    refine ⟨_, congrArg Host.Outcome.next hout, ?_, ?_, (State.faultReport_spec p _ s.clock (stallNoted s)).2⟩ <;> simp [stallNoted]
  · obtain ⟨hreported, hdrain, hdeadline, hpulse, hparser⟩ := pulseLost_spec hp hrun hstress
    exact ⟨_, rfl, hdrain, hdeadline, hpulse, hparser, hreported, by simp [SameBut]⟩

end Sys2Proof.Proofs
end

section
/-! # Scope: the accounting of occurrences, and that every step keeps it (R116, R119 to R122, R127, R129, R144, R147) -/

namespace Sys2Proof.Proofs

open Sys2Proof.Machine

/-! ### A record's account, and the table's -/

/-- A record accounts for each of its occurrences, `n` of them open, unless its occurrences count has saturated (R129). -/
def Balanced (r : Record) (n : Nat) : Prop := r.occurrences < 65535 → r.occurrences = r.localCount + r.commonCount + r.unjudged + n

/-- The records account for the open occurrences, `n g` of them of signature `g` (R116, R129). -/
structure Accounts (records : List Record) (n : Sig → Nat) : Prop where
  nodup : (records.map Record.sig).Nodup
  recorded : ∀ g, 0 < n g → ∃ r ∈ records, r.sig = g
  balanced : ∀ r ∈ records, Balanced r (n r.sig)

theorem openOf_pos_iff {s : State} {g : Sig} : 0 < s.openOf g ↔ ∃ o ∈ s.judge.occurrences, o.sig = g := by
  simp [State.openOf, List.countP_pos_iff]

theorem accounted_iff (s : State) : s.Accounted ↔ Accounts s.table.records s.openOf := by
  refine ⟨fun ⟨hnodup, hrecorded, hbalanced⟩ => ⟨hnodup, fun g hg => ?_, hbalanced⟩,
    fun ⟨hnodup, hrecorded, hbalanced⟩ => ⟨hnodup, fun o ho => hrecorded _ (openOf_pos_iff.2 ⟨o, ho, rfl⟩), hbalanced⟩⟩
  obtain ⟨o, ho, rfl⟩ := openOf_pos_iff.1 hg
  exact hrecorded o ho

section
variable {r : Record} {n : Nat}

theorem Balanced.opened (h : Balanced r n) (t : Time) : Balanced (r.opened t) (n + 1) := by
  simp only [Balanced, Record.opened, satInc] at h ⊢
  omega

theorem Balanced.leftUnjudged (h : Balanced r (n + 1)) : Balanced r.leftUnjudged n := by
  simp only [Balanced, Record.leftUnjudged, satInc] at h ⊢
  omega

theorem Balanced.judge (h : Balanced r (n + 1)) (p : Profile) (o : Occurrence) : Balanced (o.judge p r) n := by
  unfold Occurrence.judge
  split
  · simp only [Balanced, Record.judgedCommon, satInc] at h ⊢
    omega
  · simp only [Balanced, Record.judgedLocal, satInc] at h ⊢
    omega

/-- Open occurrences dropped one after another, until none is open (R147). -/
theorem Balanced.dropped (h : Balanced r n) : Balanced { r with unjudged := satInc^[n] r.unjudged } 0 := by
  induction n generalizing r with
  | zero => exact h
  | succ n ih => exact ih h.leftUnjudged

end

section
variable {x : List Record} {n m : Sig → Nat}

/-- Every record changed, with its signature kept. -/
theorem Accounts.map (h : Accounts x n) {f : Record → Record} (hsig : ∀ r, (f r).sig = r.sig) (hopen : ∀ g, 0 < m g → ∃ r ∈ x, r.sig = g)
    (hbalanced : ∀ r, Balanced r (n r.sig) → Balanced (f r) (m r.sig)) : Accounts (x.map f) m := by
  have hsigs : (x.map f).map Record.sig = x.map Record.sig := by simp [Function.comp_def, hsig]
  refine ⟨by rw [hsigs]; exact h.nodup, fun g hg => ?_, fun r hr => ?_⟩
  · obtain ⟨r, hr, rfl⟩ := hopen g hg
    exact ⟨f r, List.mem_map_of_mem hr, hsig r⟩
  · obtain ⟨q, hq, rfl⟩ := List.mem_map.1 hr
    rw [hsig]
    exact hbalanced q (h.balanced q hq)

/-- The record of one signature changed, and the count of its open occurrences with it. -/
theorem Accounts.update {t : SightingTable} (h : Accounts t.records n) {g : Sig} {f : Record → Record} (hsig : ∀ r, (f r).sig = r.sig)
    (hother : ∀ k, k ≠ g → m k = n k) (hopen : 0 < m g → ∃ r ∈ t.records, r.sig = g)
    (hbalanced : ∀ r, Balanced r (n g) → Balanced (f r) (m g)) : Accounts (t.update g f).records m := by
  refine h.map (fun r => ?_) (fun k hk => ?_) (fun r hr => ?_)
  · split
    · exact hsig r
    · rfl
  · by_cases hkg : k = g
    · rw [hkg] at hk ⊢
      exact hopen hk
    · exact h.recorded k (by rwa [hother k hkg] at hk)
  · split
    · next hrg => rw [hrg] at hr ⊢; exact hbalanced r hr
    · next hrg => rwa [hother _ hrg]

/-- A change of one record that leaves its counts as they are. -/
theorem Accounts.update_same {t : SightingTable} (h : Accounts t.records n) {g : Sig} {f : Record → Record} (hsig : ∀ r, (f r).sig = r.sig)
    (hbalanced : ∀ r, Balanced r (n g) → Balanced (f r) (n g)) : Accounts (t.update g f).records n :=
  h.update hsig (fun _ _ => rfl) (h.recorded g) hbalanced

end

/-! ### Operations on other blocks, or on other fields of these -/

section
variable {s t : State}

/-- The records as they were, and occurrences of the same signatures open. -/
theorem accounted_of_sigs (h : s.Accounted) (hrecords : t.table.records = s.table.records)
    (hsigs : t.judge.occurrences.map Occurrence.sig = s.judge.occurrences.map Occurrence.sig) : t.Accounted := by
  have hopen : t.openOf = s.openOf := funext fun g => by
    have hcount : ∀ u : State, u.openOf g = (u.judge.occurrences.map Occurrence.sig).count g := fun u => by
      simp [State.openOf, List.count, List.countP_map, Function.comp_def]
    rw [hcount, hcount, hsigs]
  rw [accounted_iff] at h ⊢
  rwa [hrecords, hopen]

theorem accounted_of_eq (h : s.Accounted) (htable : t.table = s.table) (hjudge : t.judge = s.judge) : t.Accounted :=
  accounted_of_sigs h (by rw [htable]) (by rw [hjudge])

/-- A clearing leaves no record and nothing open (R8, R16). -/
theorem accounted_of_cleared (hrecords : s.table.records = []) (hjudge : s.judge.occurrences = []) : s.Accounted := by
  simp [State.Accounted, hrecords, hjudge]

theorem foldl_accounted {α : Type} {step : State → α → State} (hstep : ∀ u a, u.Accounted → (step u a).Accounted) :
    ∀ (l : List α) (s : State), s.Accounted → (l.foldl step s).Accounted
  | [], _, h => h
  | a :: l, s, h => foldl_accounted hstep l (step s a) (hstep s a h)

/-- A change of one record that leaves its counts as they are, with nothing opened or closed. -/
theorem updateRecord_accounted (h : s.Accounted) {g : Sig} {f : Record → Record} (hsig : ∀ r, (f r).sig = r.sig)
    (hbalanced : ∀ r, Balanced r (s.openOf g) → Balanced (f r) (s.openOf g)) : (s.updateRecord g f).Accounted := by
  rw [accounted_iff] at h ⊢
  exact h.update_same hsig hbalanced

/-! ### A fault report (R118 to R122, R126) -/

/-- The occurrence of a report is counted and not yet offered to the judge (R122). -/
def Owes (g : Sig) (s : State) : Prop := Accounts s.table.records fun k => s.openOf k + if k = g then 1 else 0

/-- A record of a new signature, at the end of the creation order (R119). -/
theorem created_owes {g : Sig} (h : s.Accounted) (hfind : s.table.find g = none) (t : Time) (cycle : Byte) (phase : Phase) :
    Owes g (s.setTable { s.table with records := s.table.records ++ [Record.created g t cycle phase] }) := by
  have hnew := ne_of_find_none hfind
  obtain ⟨hnodup, hrecorded, hbalanced⟩ := (accounted_iff s).1 h
  have hnone : s.openOf g = 0 := by
    by_contra hpos
    obtain ⟨r, hr, hrg⟩ := hrecorded g (Nat.pos_of_ne_zero hpos)
    exact hnew r hr hrg
  have hopen : ∀ x, (s.setTable x).openOf = s.openOf := fun _ => rfl
  rw [Owes, hopen, State.setTable_table]
  refine ⟨?_, fun k hk => ?_, fun r hr => ?_⟩
  · rw [List.map_append, List.nodup_append]
    refine ⟨hnodup, by simp, fun k hk l hl => ?_⟩
    obtain ⟨r, hr, rfl⟩ := List.mem_map.1 hk
    rw [show l = g by simpa [Record.created] using hl]
    exact hnew r hr
  · by_cases hkg : k = g
    · exact ⟨_, List.mem_append_right _ (List.mem_singleton_self _), hkg.symm⟩
    · obtain ⟨r, hr, hrk⟩ := hrecorded k (by simpa [hkg] using hk)
      exact ⟨r, List.mem_append_left _ hr, hrk⟩
  · rcases List.mem_append.1 hr with hr | hr
    · simpa [hnew r hr] using hbalanced r hr
    · rw [List.mem_singleton.1 hr]
      simp [Balanced, Record.created, hnone]

theorem opened_owes {g : Sig} {r : Record} (h : s.Accounted) (hfind : s.table.find g = some r) (t : Time) :
    Owes g (s.updateRecord g (Record.opened t)) := by
  have hopen : (s.updateRecord g (Record.opened t)).openOf = s.openOf := rfl
  rw [Owes, hopen]
  refine ((accounted_iff s).1 h).update (fun _ => rfl) (fun k hk => by simp [hk]) (fun _ => ⟨r, s.table.find_mem g r hfind⟩) fun r hr => ?_
  rw [if_pos rfl]
  exact hr.opened t

/-- The occurrence is open, or unjudged at once where the queue is full (R122, R140). -/
theorem offerOccurrence_accounted {g : Sig} (h : Owes g s) (p : Profile) (t : Time) : (s.offerOccurrence p g t).Accounted := by
  by_cases hroom : s.judge.occurrences.length < 8
  · rw [offerOccurrence_room p g t s hroom, accounted_iff]
    obtain ⟨hsig, -⟩ := newOccurrence_spec p s.judge.echoes g t
    have hopen : State.openOf (s.setJudge { s.judge with occurrences := s.judge.occurrences ++ [newOccurrence p s.judge.echoes g t] })
        = fun k => s.openOf k + if k = g then 1 else 0 := funext fun k => by
      simp [State.openOf, List.countP_append, List.countP_singleton, hsig, eq_comm (a := g)]
    rw [hopen]
    exact h
  · rw [offerOccurrence_full p g t s hroom]
    have hleft : (s.updateRecord g Record.leftUnjudged).Accounted := by
      rw [accounted_iff]
      refine Accounts.update h (fun _ => rfl) (fun k hk => by simp [hk]; rfl) (fun _ => h.recorded g (by simp)) fun r hr => ?_
      rw [if_pos rfl] at hr
      exact hr.leftUnjudged
    exact accounted_of_eq hleft (by simp) (by simp)

theorem announceOccurrence_accounted {g : Sig} (h : Owes g s) (p : Profile) (t : Time) : (s.announceOccurrence p g t).Accounted := by
  refine accounted_of_sigs (offerOccurrence_accounted h p t) ?_ ?_ <;> simp [State.announceOccurrence, State.setMaskBit]

theorem triggerSnapshot_accounted (h : s.Accounted) (p : Profile) (g : Sig) (t : Time) : (s.triggerSnapshot p g t).Accounted := by
  unfold State.triggerSnapshot
  split
  · have htriggered : (s.trigger p g t).1.Accounted := accounted_of_eq h (by simp) (by simp)
    exact updateRecord_accounted htriggered (fun _ => rfl) fun _ hr => hr
  · exact h

/-- A fault report, by what it finds of its signature: no record, with room for one or without, or a record within or past the re-arm time. -/
theorem faultReport_accounted (h : s.Accounted) (p : Profile) (g : Sig) (t : Time) : (s.faultReport p g t).Accounted := by
  unfold State.faultReport
  split
  · next hfind =>
    split
    · exact triggerSnapshot_accounted (announceOccurrence_accounted (created_owes h hfind t _ _) p t) p g t
    · exact accounted_of_sigs h (by simp [State.loseReport]) (by simp [State.loseReport])
  · next r hfind =>
    split
    · exact updateRecord_accounted h (fun _ => rfl) fun _ hr => hr
    · exact announceOccurrence_accounted (opened_owes h hfind t) p t

theorem faultReports_accounted (h : s.Accounted) (p : Profile) (cls : Nat) (details : List Nat) (t : Time) :
    (s.faultReports p cls details t).Accounted :=
  foldl_accounted (fun _ _ hu => faultReport_accounted hu p _ t) details s h

/-! ### Echoes, drops and closes (R136 to R147) -/

theorem matchEcho_accounted (h : s.Accounted) (p : Profile) (e : Echo) : (s.matchEcho p e).Accounted := by
  refine accounted_of_sigs h rfl ?_
  simp only [State.matchEcho, State.setJudge_judge, List.map_map]
  exact List.map_congr_left fun o _ => (matchedBy_spec p e o).1

theorem storeEcho_accounted (h : s.Accounted) (p : Profile) (e : Echo) : (s.storeEcho p e).Accounted := by
  refine accounted_of_sigs h (by simp) ?_
  unfold State.storeEcho
  (repeat' split) <;> simp

theorem lateTest_accounted (h : s.Accounted) (p : Profile) (g : Sig) (e : Echo) : (s.lateTest p g e).Accounted := by
  unfold State.lateTest
  (repeat' split)
  · exact updateRecord_accounted h (fun _ => rfl) fun _ hr => hr
  all_goals exact h

theorem sagEcho_accounted (h : s.Accounted) (p : Profile) (e : Echo) : (s.sagEcho p e).Accounted :=
  storeEcho_accounted (matchEcho_accounted h p e) p e

theorem takeSighting_accounted (h : s.Accounted) (hd : Header) (g : Sig) : (s.takeSighting hd g).Accounted := by
  unfold State.takeSighting
  split
  · exact h
  · split
    · unfold State.sightingEcho
      split
      · exact storeEcho_accounted (matchEcho_accounted h _ _) _ _
      · exact storeEcho_accounted (lateTest_accounted h _ _ _) _ _
    · exact h

theorem judgeSag_accounted (h : s.Accounted) (hd : Header) : (s.judgeSag hd).Accounted := by
  unfold State.judgeSag
  (repeat' split)
  · exact h
  · exact sagEcho_accounted h _ _
  · exact h

theorem echoRemoval_accounted (h : s.Accounted) : s.echoRemoval.Accounted := by
  refine accounted_of_sigs h (by simp) ?_
  unfold State.echoRemoval
  split <;> simp

/-- Every open occurrence is dropped: each record counts its own unjudged, and none is open (R147). -/
theorem dropOccurrences_accounted (h : s.Accounted) : s.dropOccurrences.Accounted := by
  rw [accounted_iff, State.dropOccurrences_spec]
  refine ((accounted_iff s).1 h).map (fun _ => rfl) (fun g hg => ?_) fun r hr => hr.dropped
  simp [State.openOf] at hg

/-- The oldest open occurrence is judged, and its record counts it local or common (R127, R144). -/
theorem closeOccurrence_accounted {o : Occurrence} {rest : List Occurrence} (h : s.Accounted) (ho : s.judge.occurrences = o :: rest) (p : Profile) :
    (s.closeOccurrence p o rest).Accounted := by
  have hopen : ∀ k, s.openOf k = State.openOf (s.closeOccurrence p o rest) k + if o.sig = k then 1 else 0 := fun k => by
    simp [State.openOf, ho, List.countP_cons]
  rw [accounted_iff] at h ⊢
  refine h.update (judge_sig p o) (fun k hk => ?_) (fun _ => h.recorded _ ?_) fun r hr => ?_
  · simpa [Ne.symm hk] using (hopen k).symm
  · rw [hopen, if_pos rfl]
    omega
  · rw [hopen, if_pos rfl] at hr
    exact hr.judge p o

/-! ### The sequencer and the closing work (R9 to R14, R67, R71 to R76, R89, R145) -/

theorem closingAdvance_accounted (h : s.Accounted) : s.closingAdvance.Accounted := accounted_of_eq h (by simp) (by simp)

theorem enterClosing_accounted (h : s.Accounted) (reason : EndReason) : (s.enterClosing reason).Accounted := by
  have hdrop : ∀ u : State, u.Accounted → (if reason = .aborted then u.dropOccurrences else u).Accounted := fun u hu => by
    split
    · exact dropOccurrences_accounted hu
    · exact hu
  have hnoted : (s.setRun { s.run with state := .closing, endTime := s.clock, endReason := reason }).Accounted := accounted_of_eq h rfl rfl
  exact closingAdvance_accounted (accounted_of_eq (hdrop _ hnoted) rfl rfl)

theorem endStanding_accounted (h : s.Accounted) (o : Byte) : (s.endStanding o).Accounted := accounted_of_eq h (by simp) (by simp)

theorem enterDrain_accounted (h : s.Accounted) (p : Profile) : (s.enterDrain p).Accounted := accounted_of_eq h (by simp) (by simp)

theorem endRun_accounted (h : s.Accounted) (reason : EndReason) : (s.endRun reason).Accounted :=
  enterClosing_accounted (accounted_of_eq h (by simp) (by simp)) reason

theorem runEnding_accounted (h : s.Accounted) (e : EndRequest) (reason : EndReason) (p : Profile) : (runEnding e reason p s).Accounted := by
  obtain ⟨x, c, hpart, -⟩ := partEnded_eq s
  have hended : (partEnded s).Accounted := by
    rw [hpart]
    exact accounted_of_eq h rfl rfl
  unfold runEnding
  cases s.seq.phase with
  | waiting | rest => exact endRun_accounted hended reason
  | drain => exact accounted_of_eq h (by simp) (by simp)
  | off => exact h
  | ramp | boot | stress => exact enterDrain_accounted (accounted_of_eq hended (by simp) (by simp)) p

theorem occurrenceClose_accounted (h : s.Accounted) : s.occurrenceClose.Accounted := by
  unfold State.occurrenceClose
  split
  · next p o rest hp ho =>
    split
    · have hclosed := closeOccurrence_accounted h ho p
      dsimp only
      split
      · rw [takeStop_eq]
        exact closingAdvance_accounted (runEnding_accounted hclosed _ _ p)
      · exact closingAdvance_accounted hclosed
    · exact h
  · exact h

theorem rampDeadlineOut_accounted (h : s.Accounted) : s.rampDeadlineOut.Accounted := by
  unfold State.rampDeadlineOut
  (repeat' split)
  · exact enterDrain_accounted (endStanding_accounted (faultReports_accounted h _ 3 _ s.clock) _) _
  all_goals exact h

theorem takeTrip_accounted (h : s.Accounted) (p : Profile) : (s.takeTrip p).Accounted := by
  unfold State.takeTrip
  split
  · have hopened : s.openSwitch.Accounted := accounted_of_eq h rfl rfl
    exact enterDrain_accounted (endStanding_accounted (faultReport_accounted hopened p _ s.clock) _) p
  · exact h

theorem endDrain_accounted (h : s.Accounted) (p : Profile) : (s.endDrain p).Accounted := by
  have hdone : (cycleDone s).Accounted := accounted_of_eq h rfl rfl
  rw [endDrain_eq]
  split
  · exact endRun_accounted hdone _
  · exact accounted_of_eq hdone (by simp) (by simp)

theorem drainComplete_accounted (h : s.Accounted) (p : Profile) : (s.drainComplete p).Accounted := by
  unfold State.drainComplete
  split
  · exact endDrain_accounted h p
  · exact h

theorem drainDeadlineOut_accounted (h : s.Accounted) : s.drainDeadlineOut.Accounted := by
  unfold State.drainDeadlineOut
  (repeat' split)
  · exact endDrain_accounted (faultReports_accounted h _ 4 _ s.clock) _
  all_goals exact h

theorem closingRemoval_accounted (h : s.Accounted) : s.closingRemoval.Accounted := by
  unfold State.closingRemoval
  split
  · exact accounted_of_eq (dropOccurrences_accounted h) (by simp) (by simp)
  all_goals exact accounted_of_eq h (by simp) (by simp)

/-! ### The run controller (R8, R9, R13 to R16) -/

/-- A START is accepted with table and queue cleared, or changes neither (R7, R8). -/
theorem takeStart_accounted (h : s.Accounted) : s.takeStart.Accounted := by
  have haccepted : ∀ p, (s.acceptStart p).Accounted := fun p =>
    accounted_of_cleared (by simp [acceptStart_eq, runBegun, State.clearForRun]) (by simp [acceptStart_eq, runBegun, State.clearForRun])
  have hlast : ∀ r, (s.setLastOrder r).Accounted := fun r => accounted_of_eq h rfl rfl
  unfold State.takeStart
  (repeat' split)
  · exact haccepted _
  · exact hlast _
  · exact haccepted _
  · exact hlast _
  · exact hlast _

theorem takeAbortOrder_accounted (h : s.Accounted) : s.takeAbortOrder.Accounted := by
  unfold State.takeAbortOrder
  split
  · rw [acceptAbort_eq]
    have hnoted : ((s.setLastOrder .accepted).setCondition .aborted).Accounted := accounted_of_eq h (by simp) (by simp)
    exact runEnding_accounted (dropOccurrences_accounted hnoted) _ _ _
  · exact accounted_of_eq h rfl rfl

theorem buttonPress_accounted (h : s.Accounted) : s.buttonPress.Accounted := by
  have hflipped : s.flipButton.Accounted := accounted_of_eq h rfl rfl
  unfold State.buttonPress
  split
  · unfold State.pressed
    split
    · split
      · exact accounted_of_eq hflipped rfl rfl
      · exact hflipped
    · exact takeStart_accounted hflipped
    · exact takeAbortOrder_accounted hflipped
    · exact takeStart_accounted hflipped
    · exact takeStart_accounted hflipped
  · exact h

theorem trayRemoval_accounted (h : s.Accounted) : s.trayRemoval.Accounted := by
  have hflipped : s.flipSeat.Accounted := accounted_of_eq h rfl rfl
  unfold State.trayRemoval
  split
  · unfold State.trayGone
    split
    · have hcut : s.flipSeat.cutPower.Accounted := accounted_of_eq hflipped (by simp) (by simp)
      exact accounted_of_eq (dropOccurrences_accounted hcut) rfl rfl
    · exact closingRemoval_accounted hflipped
    · exact accounted_of_eq hflipped rfl rfl
    · exact hflipped
    · exact hflipped
  · exact h

theorem fixtureChange_accounted (h : s.Accounted) : s.fixtureChange.Accounted := by
  unfold State.fixtureChange
  split
  · exact accounted_of_cleared (by simp [State.fixtureGone]) (by simp [State.fixtureGone])
  · exact h

/-! ### Rounds (R84, R90 to R94) -/

theorem windowStep_accounted (h : s.Accounted) (p : Profile) (i : Nat) : (s.windowStep p i).Accounted := by
  have hset : ∀ w, (s.setWatch i w).Accounted := fun w => accounted_of_eq h rfl rfl
  unfold State.windowStep
  dsimp only
  (repeat' split)
  · exact faultReport_accounted (hset _) p _ _
  · exact hset _
  · exact h

theorem restStep_accounted (h : s.Accounted) (p : Profile) (i : Nat) : (s.restStep p i).Accounted := by
  have hset : ∀ w, (s.setWatch i w).Accounted := fun w => accounted_of_eq h rfl rfl
  unfold State.restStep
  dsimp only
  (repeat' split)
  · exact faultReport_accounted (hset _) p _ _
  · exact hset _
  · exact h

theorem windowCheck_accounted (h : s.Accounted) (p : Profile) : (s.windowCheck p).Accounted :=
  foldl_accounted (fun _ i hu => windowStep_accounted hu p i) _ s h

theorem restCheck_accounted (h : s.Accounted) (p : Profile) : (s.restCheck p).Accounted :=
  foldl_accounted (fun _ i hu => restStep_accounted hu p i) _ s h

theorem poweredChecks_accounted (h : s.Accounted) (p : Profile) (tripFirst : Bool) : (s.poweredChecks p tripFirst).Accounted := by
  have hsettle : ∀ (b : Bool) (u : State), u.Accounted → (if b then u.railsSettled p else u).Accounted := fun b u hu => by
    split
    · exact accounted_of_eq hu (by simp) (by simp)
    · exact hu
  have htrip : ∀ (b : Bool) (u : State), u.Accounted → (if b then u.takeTrip p else u).Accounted := fun b u hu => by
    split
    · exact takeTrip_accounted hu p
    · exact hu
  have hflags : (if s.seq.phase == .ramp then s.rampFlags p else s).Accounted := by
    split
    · exact accounted_of_eq h rfl rfl
    · exact h
  have hcounted := accounted_of_eq (t := (if s.seq.phase == .ramp then s.rampFlags p else s).tripCounted p) hflags rfl rfl
  unfold State.poweredChecks
  dsimp only
  split
  · exact hsettle _ _ (htrip _ _ hcounted)
  · exact htrip _ _ (hsettle _ _ hcounted)

theorem phaseChecks_accounted (h : s.Accounted) (p : Profile) (tripFirst : Bool) : (s.phaseChecks p tripFirst).Accounted := by
  have hflags : (s.drainFlags p).Accounted := accounted_of_eq h rfl rfl
  unfold State.phaseChecks
  split
  · exact poweredChecks_accounted h p tripFirst
  · exact poweredChecks_accounted (windowCheck_accounted h p) p tripFirst
  · exact poweredChecks_accounted (windowCheck_accounted h p) p tripFirst
  · split
    · exact drainComplete_accounted hflags p
    · exact hflags
  · exact restCheck_accounted h p
  · exact h
  · exact h

theorem sagConfirmed_accounted (h : s.Accounted) (p : Profile) : (s.sagConfirmed p).Accounted := by
  have hmarked : (sagMarked p s).Accounted :=
    sagEcho_accounted (s := s.setRail { s.rail with sag := .inForce }) (accounted_of_eq h rfl rfl) p (ownMark s)
  exact accounted_of_eq hmarked (by simp [sagMarked]) sagConfirmed_judge

theorem sagCheck_accounted (h : s.Accounted) (p : Profile) : (s.sagCheck p).Accounted := by
  rcases sagCheck_cases p s with hc | ⟨x, hc⟩ <;> rw [hc]
  · exact sagConfirmed_accounted h p
  · exact accounted_of_eq h rfl rfl

theorem roundHandled_accounted (h : s.Accounted) (r : Round) (tripFirst : Bool) : (s.roundHandled r tripFirst).Accounted := by
  unfold State.roundHandled
  split
  · exact h
  · next p hp =>
    have hscaled : ((s.writeHistory r).scaleValues p r).Accounted := accounted_of_eq h (by simp) (by simp)
    exact sagCheck_accounted (phaseChecks_accounted hscaled p tripFirst) p

/-! ### The listener (R101, R106 to R112) -/

theorem finalStage_accounted (h : s.Accounted) (p : Profile) (j : Nat) : (s.finalStage p j).Accounted := accounted_of_eq h (by simp) (by simp)

theorem fallBack_accounted (h : s.Accounted) : s.fallBack.Accounted := accounted_of_eq h (by simp) (by simp)

theorem stageCode_accounted (h : s.Accounted) (p : Profile) (j : Nat) : (s.stageCode p j).Accounted := by
  have hreported : ∀ g, ((s.faultReport p g s.clock).moveStage p j).Accounted := fun g =>
    accounted_of_eq (faultReport_accounted h p g s.clock) rfl rfl
  unfold State.stageCode
  (repeat' split)
  · exact accounted_of_eq h (by simp) (by simp)
  · exact finalStage_accounted (hreported _) p j
  · exact fallBack_accounted (hreported _)
  · exact h

theorem classify_accounted (h : s.Accounted) (p : Profile) (code : BitVec 16) : (s.classify p code).Accounted := by
  unfold State.classify
  split
  · exact stageCode_accounted h p _
  · (repeat' split)
    · exact accounted_of_eq h (by simp) (by simp)
    · exact faultReport_accounted h p _ _
    · exact h

theorem parse_accounted (h : s.Accounted) (p : Profile) (b : Byte) : (s.parse p b).Accounted := by
  have hin : ∀ x, (s.parserIn x).Accounted := fun x => accounted_of_eq h rfl rfl
  have hhunts : s.parserHunts.Accounted := accounted_of_eq h rfl rfl
  cases hparser : s.lis.parser with
  | hunt =>
    rw [parse_hunt hparser]
    split
    · exact hin _
    · exact h
  | codeHi =>
    rw [parse_codeHi hparser]
    exact hin _
  | codeLo high =>
    rw [parse_codeLo hparser]
    split
    · exact hin _
    · exact classify_accounted hhunts p _
  | idLen =>
    rw [parse_idLen hparser]
    split
    · exact hin _
    · exact hhunts
  | idBytes n got =>
    rw [parse_idBytes hparser]
    split
    · exact hin _
    · exact accounted_of_eq hhunts rfl rfl

theorem byteReceived_accounted (h : s.Accounted) (b : Byte) : (s.byteReceived b).Accounted := by
  unfold State.byteReceived
  (repeat' split)
  · exact parse_accounted (accounted_of_eq (t := s.setLis { s.lis with trace := pushByte b s.lis.trace }) h (by simp) (by simp)) _ b
  all_goals exact h

theorem framingError_accounted (h : s.Accounted) : s.framingError.Accounted := by
  unfold State.framingError
  (repeat' split)
  · exact faultReport_accounted (s := framingNoted s) (accounted_of_eq h rfl rfl) _ _ _
  all_goals exact h

theorem awaitedStageOut_accounted (h : s.Accounted) : s.awaitedStageOut.Accounted := by
  unfold State.awaitedStageOut
  dsimp only
  (repeat' split)
  · exact accounted_of_eq h rfl rfl
  · refine faultReport_accounted ?_ _ _ _
    exact accounted_of_eq h rfl rfl
  all_goals exact h

theorem pulseDeadlineOut_accounted (h : s.Accounted) : s.pulseDeadlineOut.Accounted := by
  unfold State.pulseDeadlineOut
  (repeat' split)
  · exact enterDrain_accounted (faultReport_accounted h _ _ s.clock) _
  all_goals exact h

/-! ### The clock, received notices and every command -/

theorem Due.take_accounted (h : s.Accounted) (d : Due) : (Due.take s d).Accounted := by
  cases d with
  | fixtureChange => exact fixtureChange_accounted h
  | trayRemoval => exact trayRemoval_accounted h
  | buttonPress => exact buttonPress_accounted h
  | rampDeadline => exact rampDeadlineOut_accounted h
  | drainDeadline => exact drainDeadlineOut_accounted h
  | awaitedStageDeadline => exact awaitedStageOut_accounted h
  | pulseDeadline => exact pulseDeadlineOut_accounted h
  | occurrenceClose => exact occurrenceClose_accounted h
  | echoRemoval => exact echoRemoval_accounted h
  | entryExpiry =>
    change (match s.expiredEntry with | some e => s.entryExpiry e.source | none => s).Accounted
    split
    · exact accounted_of_eq h (by simp) (by simp)
    · exact h
  | firstState | fixtureFitted | traySeated | buttonRelease | holdEnd | onTimeDeadline | offTimeDeadline | gapDeadline | pollTimeout =>
    exact accounted_of_eq h (by simp [Due.take]) (by simp [Due.take])

theorem nextCount_accounted (h : s.Accounted) : s.nextCount.Accounted :=
  accounted_of_eq (State.settle_keeps State.Accounted (fun _ d hu => Due.take_accounted hu d) settleLimit s h) rfl rfl

theorem takeRound_accounted (h : s.Accounted) (inputs : Eight Int) (i : PanelSample) (tripFirst : Bool) :
    (s.takeRound inputs i tripFirst).Accounted := by
  have hcount : s.countForRound.Accounted := by
    unfold State.countForRound
    split
    · exact nextCount_accounted h
    · exact h
  have hbegun : (s.countForRound.roundBegun i).Accounted := accounted_of_eq hcount (by simp) (by simp)
  exact roundHandled_accounted hbegun _ tripFirst

theorem received_accounted (h : s.Accounted) (hd : Header) (order : Bool) {consume : State → State} (hc : (consume s).Accounted) :
    (s.received hd order consume).Accounted := by
  rcases State.received_cases hd order consume s with hr | hr | ⟨-, -, hr⟩ <;> rw [hr]
  · exact h
  · exact accounted_of_eq h (by simp) (by simp)
  · exact hc

theorem onLine_accounted (h : s.Accounted) (f : LinePort → LinePort) : (s.onLine f).Accounted := by
  unfold State.onLine
  split
  · exact h
  · exact accounted_of_eq h rfl rfl

/-- Every command but a power-on reset: the commands that report, judge, drop or clear by what these do, and the others by the blocks they leave. -/
theorem exec_accounted (h : s.Accounted) (c : Instr) (hexec : exec c s = .next t) (hc : ∀ straps, c ≠ .powerOnReset straps) : t.Accounted := by
  cases c with
  | powerOnReset straps => exact absurd rfl (hc straps)
  | buttonPress => cases hexec; exact buttonPress_accounted h
  | trayRemoval => cases hexec; exact trayRemoval_accounted h
  | fixtureChange => cases hexec; exact fixtureChange_accounted h
  | start hd arg => cases hexec; exact received_accounted h hd true (takeStart_accounted h)
  | abort hd arg => cases hexec; exact received_accounted h hd true (takeAbortOrder_accounted h)
  | sighting hd sig cycle phase => cases hexec; exact received_accounted h hd false (takeSighting_accounted h hd sig)
  | sag hd bus =>
    cases hexec
    have hclaim : s.claimSag.Accounted := accounted_of_eq h (by simp) (by simp)
    exact received_accounted h hd false (judgeSag_accounted hclaim hd)
  | round inputs panel tripFirst => cases hexec; exact takeRound_accounted h inputs panel tripFirst
  | rampDeadline => cases hexec; exact rampDeadlineOut_accounted h
  | drainDeadline => cases hexec; exact drainDeadlineOut_accounted h
  | byteReceived b => cases hexec; exact byteReceived_accounted h b
  | framingError => cases hexec; exact framingError_accounted h
  | awaitedStageDeadline => cases hexec; exact awaitedStageOut_accounted h
  | pulseDeadline => cases hexec; exact pulseDeadlineOut_accounted h
  | occurrenceClose => cases hexec; exact occurrenceClose_accounted h
  | echoRemoval => cases hexec; exact echoRemoval_accounted h
  | query hd arg | fetch hd arg | unknownOperation hd op arg => cases hexec; exact received_accounted h hd true (accounted_of_eq h (by simp) (by simp))
  | carrierAppears bt | endOfCarrier bt => cases hexec; exact onLine_accounted h _
  | claim hd weight duration cycle | withdraw hd | settled hd outcome =>
    cases hexec; exact received_accounted h hd false (accounted_of_eq h (by simp) (by simp))
  | debounceFirstState | buttonRelease | traySeated | fixtureFitted | frameDiscarded | quietGapEnd | collision
  | attemptCompletion | jamEnd | backoffEnd | backoffGeneratorAdvance | holdEnd | entryExpiry | onTimeDeadline | offTimeDeadline | idleFlagSet
  | gapDeadline | preSegmentWriteEnd | postRoundWriteEnd | pieceReadEnd | slotHeaderReadEnd | tagWriteEnd | pollAcknowledge | pollTimeout
  | tagNoAcknowledge | profileHeaderReadEnd | imageReadEnd | promNoAcknowledge =>
    cases hexec
    exact accounted_of_eq h (by simp) (by simp)

end

/-- Settles O57: a power-on reset leaves no record and nothing open, and every other step keeps the account. -/
theorem occurrencesAccounted : Obligations.OccurrencesAccounted := by
  unfold Obligations.OccurrencesAccounted
  intro s t h hstep
  rcases step_cases s t hstep with ⟨-, rfl⟩ | ⟨c, rest, -, hexec⟩
  · unfold State.idleStep
    split
    · exact nextCount_accounted h
    · exact h
  · by_cases hc : ∃ straps, c = .powerOnReset straps
    · obtain ⟨straps, rfl⟩ := hc
      cases hexec
      exact accounted_of_cleared rfl rfl
    · have hpending : (s.setPending rest).Accounted := accounted_of_eq h rfl rfl
      exact exec_accounted hpending c hexec fun straps hs => hc ⟨straps, hs⟩

end Sys2Proof.Proofs
end

section
/-! # Scope: the snapshot trigger of a first occurrence, as FRAMING_ERROR makes it (R126, R152, R153, R154, R157) -/

namespace Sys2Proof.Proofs

open Sys2Proof.Machine

/-! ### The slot of a trigger (R152) -/

theorem getElem_toList {α : Type} (v : Eight α) : ∀ (i : Nat) (h : i < v.toList.length), v.toList[i] = v.get i
  | 0, _ | 1, _ | 2, _ | 3, _ | 4, _ | 5, _ | 6, _ | 7, _ => rfl
  | n + 8, h => absurd h (by simp [Eight.toList])

theorem lowestEmpty_of_first {st : SnapshotStore} {i : Nat} (hi : i < 8) (hempty : st.slots.get i = none)
    (hfirst : ∀ j, j < i → st.slots.get j ≠ none) : st.lowestEmpty = some i := by
  have hlength : st.slots.toList.length = 8 := rfl
  rw [SnapshotStore.lowestEmpty, List.findIdx?_eq_some_iff_getElem]
  refine ⟨by rwa [hlength], ?_, fun j hj => ?_⟩
  · rw [getElem_toList, hempty]
    rfl
  · rw [getElem_toList]
    simpa [Option.isSome_iff_ne_none] using hfirst j hj

theorem newest_length {α : Type} (n : Nat) (l : List α) : (newest n l).length = min n l.length := by
  rw [newest, List.length_drop]
  omega

/-! ### The capture's request of the port (R157) -/

section
variable (s : State)

theorem captureRequest_kept :
    s.captureRequest.store.slots = s.store.slots ∧ s.captureRequest.store.engine = s.store.engine
      ∧ s.captureRequest.store.firstMissed = s.store.firstMissed := by
  unfold State.captureRequest
  (repeat' split) <;> exact ⟨rfl, rfl, rfl⟩

/-- A read that runs is suspended, at a byte of its piece no earlier than where it last resumed. -/
theorem captureRequest_of_reading {s : State} {r : Readout} {m : Nat} (hr : s.store.readout = some r) (hm : r.stage = .reading m) :
    ∃ n, n ≤ 20 ∧ (m ≤ (pieceAt (s.store.contentOf r.slot) r.offset).length → m ≤ n)
      ∧ s.captureRequest.store.readout = some { r with stage := .suspended n } := by
  refine ⟨min (max m (Config.bytesReached s.freeIndex)) (pieceAt (s.store.contentOf r.slot) r.offset).length, ?_, fun h => ?_, ?_⟩
  · have hpiece : (pieceAt (s.store.contentOf r.slot) r.offset).length ≤ 20 := List.length_take_le _ _
    omega
  · omega
  · simp only [State.captureRequest, hr, hm, State.setStore_store]

theorem captureRequest_of_not_reading {s : State} (h : ∀ r m, s.store.readout = some r → r.stage ≠ .reading m) :
    s.captureRequest = s.setStore { s.store with port := .capture } := by
  unfold State.captureRequest
  split
  · next r hr =>
    split
    · next m hm => exact absurd hm (h r m hr)
    · rfl
  · rfl

end

/-- A capture begun: the slot is CAPTURING, the engine in PRE with its copies, and the port and the readout as the request leaves them (R152, R154). -/
theorem beginCapture_store (p : Profile) (g : Sig) (t : Time) (i : Nat) (s : State) :
    (s.beginCapture p g t i).store =
      { s.captureRequest.store with
        slots := s.store.slots.set i (some (Snapshot.begun g t (min p.preRounds s.rail.ring.length) p.postRounds (min 128 s.lis.trace.length)))
        engine := .pre i (newest p.preRounds s.rail.ring) (newest 128 s.lis.trace) } := by
  obtain ⟨hslots, -⟩ := captureRequest_kept s
  simp only [State.beginCapture, State.setStore_store, newest_length, hslots]

/-! ### The answer to a trigger (R152, R153) -/

section
variable {s : State} (p : Profile) (g : Sig)

theorem trigger_of_first (t : Time) {i : Nat} (hi : i < 8) (hidle : s.store.engine = .idle) (hempty : s.store.slots.get i = none)
    (hfirst : ∀ j, j < i → s.store.slots.get j ≠ none) : s.trigger p g t = (s.beginCapture p g t i, .slot i) := by
  simp only [State.trigger, hidle, lowestEmpty_of_first hi hempty hfirst]

theorem snapshotMissed_store : (s.snapshotMissed g).store = { s.store with firstMissed := s.store.firstMissed.or (some g) } := by
  unfold State.snapshotMissed
  cases s.store.firstMissed <;> simp

/-- The state that the trigger of a first occurrence finds: its record created and its occurrence announced (R119, R122 to R124). -/
def triggering (p : Profile) (g : Sig) (s : State) : State := (recordCreated g s).announceOccurrence p g s.clock

@[simp] theorem triggering_frame :
    (triggering p g s).store = s.store ∧ (triggering p g s).rail = s.rail ∧ (triggering p g s).lis = s.lis
      ∧ (triggering p g s).freeIndex = s.freeIndex := by
  simp [triggering, recordCreated]

/-- What the first report of a signature leaves of the store is what its trigger leaves, and its record keeps the answer (R126). -/
structure TriggerTaken (g : Sig) (x : State × SnapField) (t : State) : Prop where
  store : t.store = x.1.store
  freeIndex : t.freeIndex = x.1.freeIndex
  run : t.run = x.1.run
  answer : ∃ r ∈ t.table.records, r.sig = g ∧ r.snapshot = x.2

theorem faultReport_triggerTaken {p : Profile} {g : Sig} (hfind : s.table.find g = none) (hroom : s.table.records.length < 48)
    (hsnap : (p.classOf g).snapshot = true) :
    TriggerTaken g ((triggering p g s).trigger p g s.clock) (s.faultReport p g s.clock) := by
  have hreport : s.faultReport p g s.clock = ((triggering p g s).trigger p g s.clock).1.updateRecord g
      (fun r => { r with snapshot := ((triggering p g s).trigger p g s.clock).2 }) :=
    (faultReport_created hfind hroom).trans (if_pos hsnap)
  have hrecords := created_records (p := p) hfind hroom
  refine ⟨by rw [hreport]; rfl, by rw [hreport]; rfl, by rw [hreport]; rfl, recordReported p g s, ?_, ?_, ?_⟩
  · rw [hrecords]
    exact List.mem_append_right _ (List.mem_singleton_self _)
  · rw [recordReported_spec.1]
    rfl
  · unfold recordReported
    rw [if_pos hsnap]
    rfl

end

/-- Settles O38: the trigger finds store and rings as the framing error found them, and is answered by the lowest EMPTY slot or MISSED. -/
theorem snapshotTriggered : Obligations.SnapshotTriggered := by
  unfold Obligations.SnapshotTriggered
  intro s p hh hfind hroom hsnap
  have hexec := exec_framingError hh
  obtain ⟨hstore, hfree, hrun, hanswer⟩ := faultReport_triggerTaken (s := framingNoted s) hfind hroom hsnap
  have hfinds : (triggering p 0xA000#16 (framingNoted s)).store = s.store ∧ (triggering p 0xA000#16 (framingNoted s)).rail = s.rail
      ∧ (triggering p 0xA000#16 (framingNoted s)).lis.trace = s.lis.trace ∧ (triggering p 0xA000#16 (framingNoted s)).freeIndex = s.freeIndex := by
    simp [framingNoted]
  generalize (framingNoted s).faultReport p 0xA000#16 (framingNoted s).clock = t at *
  generalize triggering p 0xA000#16 (framingNoted s) = u at *
  obtain ⟨hustore, hurail, hutrace, hufree⟩ := hfinds
  refine ⟨fun i hi hidle hempty hfirst => ?_, fun hmissed => ?_⟩
  · rw [← hustore] at hidle hempty hfirst
    rw [trigger_of_first p 0xA000#16 _ hi hidle hempty hfirst] at hstore hfree hanswer
    rw [beginCapture_store] at hstore
    refine ⟨t, hexec, hanswer, ?_, ?_, ?_, ?_, fun r m hr hm => ?_, fun hno => ?_⟩
    · rw [hstore, hustore, hurail, hutrace]
      rfl
    · rw [hstore, hurail, hutrace]
      rfl
    · rw [hstore]
      exact captureRequest_port u
    · rw [hstore, ← hustore]
      exact (captureRequest_kept u).2.2
    · rw [← hustore] at hr ⊢
      obtain ⟨n, hn, hlow, hreadout⟩ := captureRequest_of_reading hr hm
      exact ⟨n, hn, hlow, by rw [hstore]; exact hreadout⟩
    · rw [← hustore] at hno ⊢
      have hrequest := captureRequest_of_not_reading hno
      rw [hstore, hfree, ← hufree]
      exact ⟨by rw [hrequest]; rfl, by rw [State.beginCapture, hrequest]; rfl⟩
  · have hu : Missed u := by rwa [Missed, hustore]
    rw [trigger_of_missed p 0xA000#16 _ u hu] at hstore hrun hanswer
    refine ⟨t, hexec, hanswer, ?_, ?_⟩
    · rw [hstore, snapshotMissed_store, hustore]
      cases s.store.firstMissed <;> rfl
    · rw [hrun]
      exact (State.setCondition_spec .snapMissed _).1

end Sys2Proof.Proofs
end

section
/-! # Scope: a received SIGHTING at the judge: admission, matching, the late test and storage (R134, R136, R138, R142, R143) -/

namespace Sys2Proof.Proofs

open Sys2Proof.Machine

/-! ### An echo offered for storage (R138) -/

/-- What the offer of an echo leaves of the echo list and of the refusals. -/
structure EchoOffered (p : Profile) (e : Echo) (s t : State) : Prop where
  stored : (s.clock - e.eventTime).toInt ≤ p.window + e.allowance → s.judge.echoes.length < 32 → t.judge.echoes = s.judge.echoes ++ [e]
  refused : (s.clock - e.eventTime).toInt ≤ p.window + e.allowance → 32 ≤ s.judge.echoes.length →
    t.judge.echoes = s.judge.echoes ∧ t.run.conds.echoFull = true ∧ t.judge.firstRefused = s.judge.firstRefused.or (some e.source)
  stale : (p.window + e.allowance : Int) < (s.clock - e.eventTime).toInt → t.judge.echoes = s.judge.echoes

/-- The offer reads the clock, the echo list and the refusals alone. -/
theorem EchoOffered.congr {p : Profile} {e : Echo} {s u t : State} (h : EchoOffered p e u t) (hclock : u.clock = s.clock)
    (hechoes : u.judge.echoes = s.judge.echoes) (hfirst : u.judge.firstRefused = s.judge.firstRefused) : EchoOffered p e s t := by
  obtain ⟨hstored, hrefused, hstale⟩ := h
  rw [hclock, hechoes] at hstored hrefused hstale
  rw [hfirst] at hrefused
  exact ⟨hstored, hrefused, hstale⟩

section
variable (p : Profile) (e : Echo) (s : State)

theorem storeEcho_offered : EchoOffered p e s (s.storeEcho p e) := by
  refine ⟨fun hnear hroom => ?_, fun hnear hfull => ?_, fun hfar => ?_⟩
  · rw [storeEcho_of_room ((retained_iff p _ _).2 hnear) hroom]
    rfl
  · rw [storeEcho_of_full ((retained_iff p _ _).2 hnear) hfull]
    exact ⟨by simp, (State.setCondition_spec .echoFull _).1, by simp⟩
  · have hstale : e.retained p s.clock = false := Bool.eq_false_iff.2 fun hr => Int.not_le.2 hfar ((retained_iff p _ _).1 hr)
    rw [storeEcho_of_stale hstale]

theorem storeEcho_occurrences : (s.storeEcho p e).judge.occurrences = s.judge.occurrences := by
  cases hr : e.retained p s.clock with
  | false => rw [storeEcho_of_stale hr]
  | true =>
    by_cases hroom : s.judge.echoes.length < 32
    · rw [storeEcho_of_room hr hroom]
      rfl
    · rw [storeEcho_of_full hr (Nat.not_lt.1 hroom)]
      simp

end

/-! ### A sighting echo and the open occurrences (R142) -/

/-- A sighting echo matches an open occurrence. -/
def SightingMatched (p : Profile) (g : Sig) (e : Echo) (s : State) : Prop :=
  ∃ o ∈ s.judge.occurrences, o.sig = g ∧ ((e.eventTime - o.time).toInt).natAbs ≤ p.window + e.allowance

section
variable {p : Profile} {g : Sig} {e : Echo} {s : State} (he : e.kind = .sighting g)
include he

theorem matches_of_sighting (o : Occurrence) :
    e.matches p o = true ↔ o.sig = g ∧ ((e.eventTime - o.time).toInt).natAbs ≤ p.window + e.allowance := by
  simp only [matches_iff, he, EchoKind.sighting.injEq, reduceCtorEq, or_false]
  exact ⟨fun ⟨hnear, hsig⟩ => ⟨hsig.symm, hnear⟩, fun ⟨hsig, hnear⟩ => ⟨hnear, hsig.symm⟩⟩

/-- A source that the set holds already is not counted again (R140). -/
theorem matchedBy_of_sighting (o : Occurrence) :
    o.matchedBy p e = if o.sig = g ∧ ((e.eventTime - o.time).toInt).natAbs ≤ p.window + e.allowance ∧ e.source ∉ o.matched
      then { o with matched := o.matched ++ [e.source] } else o := by
  have hm := matches_of_sighting (p := p) he o
  unfold Occurrence.matchedBy
  by_cases hmatch : e.matches p o = true
  · obtain ⟨hsig, hnear⟩ := hm.1 hmatch
    rw [if_pos hmatch, he, addMember]
    by_cases hmem : e.source ∈ o.matched
    · rw [if_pos hmem, if_neg fun ⟨_, _, hnew⟩ => hnew hmem]
    · rw [if_neg hmem, if_pos ⟨hsig, hnear, hmem⟩]
  · rw [if_neg hmatch, if_neg fun ⟨hsig, hnear, _⟩ => hmatch (hm.2 ⟨hsig, hnear⟩)]

theorem sightingEcho_of_matched (h : SightingMatched p g e s) : s.sightingEcho p g e = (s.matchEcho p e).storeEcho p e := by
  obtain ⟨o, ho, hjoins⟩ := h
  exact if_pos (List.any_eq_true.2 ⟨o, ho, (matches_of_sighting he o).2 hjoins⟩)

theorem sightingEcho_of_unmatched (h : ¬SightingMatched p g e s) : s.sightingEcho p g e = (s.lateTest p g e).storeEcho p e := by
  refine if_neg fun hany => h ?_
  obtain ⟨o, ho, hmatch⟩ := List.any_eq_true.1 hany
  exact ⟨o, ho, (matches_of_sighting he o).1 hmatch⟩

/-- Where nothing matches, the scan leaves every occurrence as it is. -/
theorem sightingEcho_occurrences :
    (s.sightingEcho p g e).judge.occurrences = s.judge.occurrences.map (fun o =>
      if o.sig = g ∧ ((e.eventTime - o.time).toInt).natAbs ≤ p.window + e.allowance ∧ e.source ∉ o.matched
        then { o with matched := o.matched ++ [e.source] } else o) := by
  by_cases h : SightingMatched p g e s
  · rw [sightingEcho_of_matched he h, storeEcho_occurrences]
    exact List.map_congr_left fun o _ => matchedBy_of_sighting he o
  · have hsame : s.judge.occurrences.map (fun o =>
        if o.sig = g ∧ ((e.eventTime - o.time).toInt).natAbs ≤ p.window + e.allowance ∧ e.source ∉ o.matched
          then { o with matched := o.matched ++ [e.source] } else o) = s.judge.occurrences :=
      (List.map_congr_left fun o ho => if_neg fun ⟨hsig, hnear, _⟩ => h ⟨o, ho, hsig, hnear⟩).trans (List.map_id _)
    rw [sightingEcho_of_unmatched he h, storeEcho_occurrences, hsame]
    simp

theorem sightingEcho_offered : EchoOffered p e s (s.sightingEcho p g e) := by
  by_cases h : SightingMatched p g e s
  · rw [sightingEcho_of_matched he h]
    exact (storeEcho_offered p e (s.matchEcho p e)).congr rfl rfl rfl
  · rw [sightingEcho_of_unmatched he h]
    exact (storeEcho_offered p e (s.lateTest p g e)).congr (by simp) (by simp) (by simp)

end

/-! ### The late test (R143) -/

/-- The record of the signature was last closed within W + a of the echo's event. -/
def LateFor (p : Profile) (g : Sig) (e : Echo) (s : State) : Prop :=
  ∃ r c, s.table.find g = some r ∧ r.lastClosed = some c ∧ ((e.eventTime - c).toInt).natAbs ≤ p.window + e.allowance

section
variable {p : Profile} {g : Sig} {e : Echo} {s : State}

theorem lateTest_of_late (h : LateFor p g e s) : s.lateTest p g e = s.updateRecord g Record.gainedLate := by
  obtain ⟨r, c, hfind, hclosed, hnear⟩ := h
  simp only [State.lateTest, hfind, hclosed]
  exact if_pos (decide_eq_true hnear)

theorem lateTest_of_not_late (h : ¬LateFor p g e s) : s.lateTest p g e = s := by
  unfold State.lateTest
  split
  · next r hfind =>
    split
    · next c hclosed => exact if_neg fun hnear => h ⟨r, c, hfind, hclosed, of_decide_eq_true hnear⟩
    · rfl
  · rfl

/-- The whole of what a sighting echo does to the table: an unmatched late one is counted at its record. -/
theorem sightingEcho_table (he : e.kind = .sighting g) :
    (¬SightingMatched p g e s → LateFor p g e s → (s.sightingEcho p g e).table = s.table.update g Record.gainedLate)
      ∧ (SightingMatched p g e s ∨ ¬LateFor p g e s → (s.sightingEcho p g e).table = s.table) := by
  by_cases hmatched : SightingMatched p g e s
  · rw [sightingEcho_of_matched he hmatched]
    exact ⟨absurd hmatched, fun _ => by simp⟩
  · rw [sightingEcho_of_unmatched he hmatched]
    refine ⟨fun _ hlate => ?_, fun h => ?_⟩
    · rw [lateTest_of_late hlate]
      simp [State.updateRecord]
    · rw [lateTest_of_not_late (h.resolve_left hmatched)]
      simp

theorem sightingEcho_mask_firstLost (he : e.kind = .sighting g) :
    (s.sightingEcho p g e).table.mask = s.table.mask ∧ (s.sightingEcho p g e).table.firstLost = s.table.firstLost := by
  obtain ⟨hcounted, hkept⟩ := sightingEcho_table (p := p) (s := s) he
  by_cases h : SightingMatched p g e s ∨ ¬LateFor p g e s
  · rw [hkept h]
    exact ⟨rfl, rfl⟩
  · obtain ⟨hunmatched, hlate⟩ := not_or.1 h
    rw [hcounted hunmatched (not_not.1 hlate)]
    exact ⟨rfl, rfl⟩

/-- The record of an unmatched echo's signature, by the time of its last close. -/
theorem sightingEcho_of_record {r : Record} (he : e.kind = .sighting g) (hunmatched : ¬SightingMatched p g e s) (hfind : s.table.find g = some r) :
    (∀ c, r.lastClosed = some c → ((e.eventTime - c).toInt).natAbs ≤ p.window + e.allowance →
        (s.sightingEcho p g e).table.find g = some { r with late := satInc r.late })
      ∧ (∀ c, r.lastClosed = some c → p.window + e.allowance < ((e.eventTime - c).toInt).natAbs → (s.sightingEcho p g e).table = s.table)
      ∧ (r.lastClosed = none → (s.sightingEcho p g e).table = s.table) := by
  obtain ⟨hcounted, hkept⟩ := sightingEcho_table (p := p) (s := s) he
  refine ⟨fun c hclosed hnear => ?_, fun c hclosed hfar => hkept (.inr ?_), fun hopen => hkept (.inr ?_)⟩
  · rw [hcounted hunmatched ⟨r, c, hfind, hclosed, hnear⟩, SightingTable.find_update_same g Record.gainedLate fun _ => rfl, hfind]
    rfl
  · rintro ⟨r', c', hfind', hclosed', hnear⟩
    obtain rfl := Option.some.inj (hfind.symm.trans hfind')
    obtain rfl := Option.some.inj (hclosed.symm.trans hclosed')
    exact Nat.not_lt.2 hnear hfar
  · rintro ⟨r', c', hfind', hclosed', -⟩
    obtain rfl := Option.some.inj (hfind.symm.trans hfind')
    exact Option.some_ne_none c' (hclosed'.symm.trans hopen)

end

/-! ### Admission (R136) -/

/-- The echo of a received SIGHTING (R134). -/
def sightingEchoOf (h : Header) (g : Sig) (s : State) : Echo :=
  { kind := .sighting g, source := h.source, eventTime := s.clock - h.age.setWidth 32, allowance := 1 + (h.age.toNat + 255) / 256 }

theorem takeSighting_of_admitted {h : Header} {g : Sig} {s : State} {p : Profile} (hp : s.profile = some p) (hage : h.age ≠ 65535#16)
    (hlow : 1 ≤ sigClass g) (hhigh : sigClass g ≤ 11) (hmask : s.table.mask.getLsbD (hash6 g) = true) :
    s.takeSighting h g = s.sightingEcho p g (sightingEchoOf h g s) := by
  simp only [State.takeSighting, hp]
  exact if_pos ⟨(age_lt_iff _).2 hage, hlow, hhigh, hmask⟩

theorem takeSighting_of_not_admitted {h : Header} {g : Sig} {s : State}
    (hno : s.profile = none ∨ h.age = 65535#16 ∨ sigClass g = 0 ∨ 11 < sigClass g ∨ s.table.mask.getLsbD (hash6 g) = false) :
    s.takeSighting h g = s := by
  unfold State.takeSighting
  split
  · rfl
  · next p hp =>
    refine if_neg fun ⟨hage, hlow, hhigh, hmask⟩ => ?_
    rcases hno with hno | hno | hno | hno | hno
    · exact Option.some_ne_none p (hp.symm.trans hno)
    · exact (age_lt_iff _).1 hage hno
    · omega
    · omega
    · exact Bool.eq_false_iff.1 hno hmask

/-- Settles O18: a SIGHTING that is not admitted leaves the state as it was, and an admitted one is taken as its echo. -/
theorem sightingEcho : Obligations.SightingEcho := by
  unfold Obligations.SightingEcho
  intro h g cycle phase s hr
  have hexec : exec (.sighting h g cycle phase) s = .next (s.takeSighting h g) := congrArg _ (State.received_reaches _ _ _ hr _)
  refine ⟨fun hno => by rw [hexec, takeSighting_of_not_admitted hno], fun p hp hage hlow hhigh hmask => ⟨_, hexec, by simp [SameBut], ?_⟩⟩
  intro e a hevent hallowance
  have hecho : sightingEchoOf h g s = ⟨.sighting g, h.source, e, a⟩ := by rw [hevent, hallowance, sightingEchoOf]
  rw [takeSighting_of_admitted hp hage hlow hhigh hmask, hecho]
  have he : (Echo.mk (.sighting g) h.source e a).kind = .sighting g := rfl
  obtain ⟨hstored, hrefused, hstale⟩ := sightingEcho_offered (p := p) (s := s) he
  obtain ⟨hmaskKept, hlostKept⟩ := sightingEcho_mask_firstLost (p := p) (s := s) he
  refine ⟨sightingEcho_occurrences he, hmaskKept, hlostKept, fun hmatched => (sightingEcho_table he).2 (.inl hmatched),
    fun hunmatched r hfind => sightingEcho_of_record he (fun ⟨o, ho, hjoins⟩ => hunmatched o ho hjoins) hfind, hstored, fun hnear hfull => ?_, hstale⟩
  obtain ⟨hechoes, hset, hfirst⟩ := hrefused hnear hfull
  refine ⟨hechoes, hset, hfirst.trans ?_⟩
  cases s.judge.firstRefused <;> rfl

end Sys2Proof.Proofs
end

section
/-! # Scope: the capture engine's writes, and what the release of the store port leaves (R154 to R157) -/

namespace Sys2Proof.Proofs

open Sys2Proof.Machine

/-! ### The release of the port (R157) -/

section
variable (st : SnapshotStore)

/-- What the capture's release leaves of the port and of a readout: the one that waits reads from its piece's first byte, the one suspended from the byte
where it stopped, and any other leaves the port free (R157). -/
def Released (before after : Option Readout) (port : PortHolder) : Prop :=
  (before = none ∧ after = none ∧ port = .free)
    ∨ (∃ r, before = some r ∧ r.stage = .waiting ∧ after = some { r with stage := .reading 0 } ∧ port = .readout)
    ∨ (∃ r n, before = some r ∧ r.stage = .suspended n ∧ after = some { r with stage := .reading n } ∧ port = .readout)
    ∨ (∃ r, before = some r ∧ (r.stage = .held ∨ r.stage = .dataQueued ∨ r.stage = .finalQueued) ∧ after = some r ∧ port = .free)

theorem captureRelease_of_released {st : SnapshotStore} {after : Option Readout} {port : PortHolder} (h : Released st.readout after port) :
    st.captureRelease = { st with port := port, readout := after } := by
  unfold SnapshotStore.captureRelease
  rcases h with ⟨hr, rfl, rfl⟩ | ⟨r, hr, hstage, rfl, rfl⟩ | ⟨r, n, hr, hstage, rfl, rfl⟩ | ⟨r, hr, hstage, rfl, rfl⟩
  · rw [hr]
  · simp only [hr, hstage]
  · simp only [hr, hstage]
  · rcases hstage with hstage | hstage | hstage <;> simp only [hr, hstage]

@[simp] theorem captureRelease_slots : st.captureRelease.slots = st.slots := by
  unfold SnapshotStore.captureRelease
  (repeat' split) <;> rfl

@[simp] theorem captureRelease_engine : st.captureRelease.engine = st.engine := by
  unfold SnapshotStore.captureRelease
  (repeat' split) <;> rfl

end

/-! ### The ends of the writes (R154, R155) -/

section
variable {st : SnapshotStore} {i : Nat} {x : Snapshot}

theorem preWriteEnd_of_pre {rounds : List Round} {trace : List Byte} (he : st.engine = .pre i rounds trace) (hx : st.slots.get i = some x) :
    st.preWriteEnd = SnapshotStore.captureRelease
      { st with slots := st.slots.set i (some (x.preStored rounds trace)), engine := if x.postCount = 0 then .idle else .post i none } := by
  simp only [SnapshotStore.preWriteEnd, he, hx]

theorem postWriteEnd_of_post {r : Round} (he : st.engine = .post i (some r)) (hx : st.slots.get i = some x) :
    st.postWriteEnd = SnapshotStore.captureRelease
      { st with slots := st.slots.set i (some (x.roundStored r)), engine := if x.postCount ≤ x.postTaken + 1 then .idle else .post i none } := by
  simp only [SnapshotStore.postWriteEnd, he, hx, Snapshot.roundStored, decide_eq_true_eq]

end

/-- Settles O39: each write's end stores its bytes in the slot and releases the port. -/
theorem captureWrites : Obligations.CaptureWrites := by
  unfold Obligations.CaptureWrites
  intro s i x port readout _ hx hreleased
  refine ⟨fun rounds trace he => ⟨x.preStored rounds trace, ?_, rfl, rfl, rfl, rfl, rfl⟩,
    fun r he => ⟨x.roundStored r, ?_, rfl, rfl, rfl, rfl, rfl, rfl⟩⟩
  · have hstore := (preWriteEnd_of_pre he hx).trans (captureRelease_of_released hreleased)
    simp only [exec, execPreSegmentWriteEnd, hstore]
    rfl
  · have hstore := (postWriteEnd_of_post he hx).trans (captureRelease_of_released hreleased)
    simp only [exec, execPostRoundWriteEnd, hstore]
    rfl

end Sys2Proof.Proofs
end

section
/-! # Scope: QUERY, FETCH and unknown operations, and the STATUS that answers (R35, R158, R182, R184) -/

namespace Sys2Proof.Proofs

open Sys2Proof.Machine

/-- The reply is handed over as any notice is (R35). -/
theorem reply_handed (s : State) (source : Byte) : ∃ taken, Handed (handedAs (.status false none) source s) s (s.reply source) taken :=
  ⟨_, s.handNotice_handed (handedAs (.status false none) source s)⟩

/-- A readout that ends gives the port back (R158). -/
theorem endReadout_eq (st : SnapshotStore) :
    st.endReadout = { st with readout := none, port := if st.port = .readout then .free else st.port } := by
  rw [SnapshotStore.endReadout, readRelease_eq]

/-- The store after a FETCH that it cannot serve (R158). -/
def fetchUnserved (r : FetchResult) (s : State) : State :=
  { s with
    run := { s.run with lastOrder := .refusedState }
    store := { s.store with fetchResult := r, readout := none, port := if s.store.port = .readout then .free else s.store.port } }

theorem takeFetch_of_unserved {s : State} {source arg : Byte} {r : FetchResult} (harg : arg.toNat ≤ 7)
    (h : s.store.slots.get arg.toNat = none ∧ r = .empty
      ∨ (∃ x, s.store.slots.get arg.toNat = some x ∧ x.complete = false) ∧ r = .busy) :
    s.takeFetch source arg = (fetchUnserved r s).reply source := by
  rw [State.takeFetch, if_pos harg, State.fetchSlot, endReadout_eq]
  rcases h with ⟨hx, rfl⟩ | ⟨⟨x, hx, hc⟩, rfl⟩
  · simp only [State.setStore_store, hx]
    rfl
  · simp only [State.setStore_store, hx, hc]
    rfl

/-- A COMPLETE slot is read: the readout has the port at once, or waits while the capture holds it (R157, R158). -/
theorem takeFetch_of_complete {s : State} {source arg : Byte} {x : Snapshot} (harg : arg.toNat ≤ 7) (hx : s.store.slots.get arg.toNat = some x)
    (hc : x.complete = true) :
    s.takeFetch source arg =
      { s with
        run := { s.run with lastOrder := .accepted }
        store := { s.store with
          fetchResult := .reading
          port := if s.store.port = .capture then .capture else .readout
          readout := some { slot := arg.toNat, target := source, offset := 0,
                            stage := if s.store.port = .capture then .waiting else .reading 0 } } } := by
  rw [State.takeFetch, if_pos harg, State.fetchSlot, endReadout_eq]
  simp only [State.setStore_store, hx, hc, if_true, SnapshotStore.readRequest]
  cases s.store.port <;> rfl

/-- Settles O10: an order that reaches the run controller has its effect there and at the store, and its reply is handed over. -/
theorem otherOrders : Obligations.OtherOrders := by
  unfold Obligations.OtherOrders
  refine ⟨fun h arg s hr => ?_, fun h arg s hr => ?_, fun h op arg s hr hop => ?_⟩
  · obtain ⟨taken, hreply⟩ := reply_handed s h.source
    have hexec : exec (.query h arg) s = .next (s.reply h.source) := congrArg _ (State.received_reaches _ _ _ hr _)
    exact ⟨_, taken, hexec, hreply⟩
  · have hexec : exec (.fetch h arg) s = .next (s.takeFetch h.source arg) := congrArg _ (State.received_reaches _ _ _ hr _)
    rw [hexec]
    refine ⟨fun x harg hx hc => congrArg _ (takeFetch_of_complete harg hx hc), fun r harg hslot => ?_, fun harg => ?_⟩
    · obtain ⟨taken, hreply⟩ := reply_handed (fetchUnserved r s) h.source
      exact ⟨_, taken, congrArg _ (takeFetch_of_unserved harg hslot), hreply⟩
    · obtain ⟨taken, hreply⟩ := reply_handed (s.setLastOrder .badArgument) h.source
      exact ⟨_, taken, congrArg _ (if_neg (by omega)), hreply⟩
  · have hexec : exec (.unknownOperation h op arg) s = .next (s.takeUnknown op) := congrArg _ (State.received_reaches _ _ _ hr _)
    exact hexec.trans (congrArg _ (if_pos hop))

end Sys2Proof.Proofs
end

section
/-! # Scope: slots, checksums and the capture engine agree, and every step keeps the agreement (R151, R152, R154 to R156, R163, R164) -/

namespace Sys2Proof.Proofs

open Sys2Proof.Machine

/-! ### The bytes of a slot (R156, R190) -/

theorem byteSum_eq_sum (l : List Byte) : byteSum l = (l.map (BitVec.setWidth 32)).sum := by
  rw [List.sum_eq_foldl, List.foldl_map]
  rfl

theorem byteSum_append (a b : List Byte) : byteSum (a ++ b) = byteSum a + byteSum b := by
  simp only [byteSum_eq_sum, List.map_append, List.sum_append]

theorem roundBytes_length (r : Round) : (roundBytes r).length = 16 := rfl

theorem flatMap_roundBytes_length (rounds : List Round) : (rounds.flatMap roundBytes).length = 16 * rounds.length := by
  simp [List.length_flatMap, roundBytes_length, Nat.mul_comm]

theorem header_length (x : Snapshot) : x.header.length = 9 := rfl

/-! ### A slot through its capture (R152, R154, R155) -/

/-- The pre-segment of a slot that is CAPTURING is stored, and rounds of its post-segment are still to come (R154, R155). -/
structure AwaitsRounds (x : Snapshot) : Prop where
  capturing : x.complete = false
  unfinished : x.postTaken < x.postCount
  head : x.headBytes.length = 9 + 16 * x.preCount
  trace : x.traceBytes.length = x.traceCount

section
variable {x : Snapshot}

theorem begun_sound (g : Sig) (t : Time) (pre post trace : Nat) : (Snapshot.begun g t pre post trace).Sound := ⟨rfl, rfl, fun h => nomatch h⟩

section
variable {rounds : List Round} {trace : List Byte}

theorem preStored_sound (h : x = Snapshot.begun x.sig x.time rounds.length x.postCount trace.length) : (x.preStored rounds trace).Sound := by
  rw [h]
  refine ⟨?_, rfl, fun hc => ?_⟩
  · simp [Snapshot.preStored, Snapshot.begun, Snapshot.content]
  · have hpost : x.postCount = 0 := of_decide_eq_true hc
    simp only [Snapshot.preStored, Snapshot.begun, Snapshot.content, Snapshot.length, List.length_append, List.length_nil, header_length,
      flatMap_roundBytes_length, hpost]
    exact ⟨rfl, trivial⟩

theorem preStored_awaits (h : x = Snapshot.begun x.sig x.time rounds.length x.postCount trace.length) (hpost : x.postCount ≠ 0) :
    AwaitsRounds (x.preStored rounds trace) := by
  rw [h]
  refine ⟨decide_eq_false hpost, Nat.pos_of_ne_zero hpost, ?_, rfl⟩
  simp only [Snapshot.preStored, Snapshot.begun, List.length_append, header_length, flatMap_roundBytes_length]

end

theorem roundStored_sound (h : x.Sound) (hx : AwaitsRounds x) (r : Round) : (x.roundStored r).Sound := by
  obtain ⟨hsum, hpost, -⟩ := h
  have hunfinished := hx.unfinished
  refine ⟨?_, ?_, fun hc => ?_⟩
  · simp only [Snapshot.roundStored, Snapshot.content, hsum, byteSum_append]
    ac_rfl
  · simp only [Snapshot.roundStored, List.length_append, hpost, roundBytes_length]
    omega
  · have hlast : x.postCount ≤ x.postTaken + 1 := of_decide_eq_true hc
    have htaken : x.postTaken + 1 = x.postCount := by omega
    refine ⟨?_, htaken⟩
    simp only [Snapshot.roundStored, Snapshot.content, Snapshot.length, List.length_append, hx.head, hx.trace, hpost, roundBytes_length, ← htaken]
    omega

theorem roundStored_awaits (hx : AwaitsRounds x) (r : Round) (hmore : ¬x.postCount ≤ x.postTaken + 1) : AwaitsRounds (x.roundStored r) :=
  ⟨decide_eq_false hmore, Nat.lt_of_not_le hmore, hx.head, hx.trace⟩

end

/-! ### Slots and engine -/

/-- The capture engine works on a slot as far as it has stored it (R154, R155). -/
def EngineAgrees (slots : Eight (Option Snapshot)) : Engine → Prop
  | .idle => True
  | .pre i rounds trace => i < 8 ∧ ∃ x, slots.get i = some x ∧ x = Snapshot.begun x.sig x.time rounds.length x.postCount trace.length
  | .post i _ => i < 8 ∧ ∃ x, slots.get i = some x ∧ AwaitsRounds x

/-- A store whose slots are sound and whose engine agrees with them. -/
structure StoreAgrees (st : SnapshotStore) : Prop where
  slots : ∀ i, i < 8 → ∀ x, st.slots.get i = some x → x.Sound
  engine : EngineAgrees st.slots st.engine

theorem storeSound_iff (s : State) : s.StoreSound ↔ StoreAgrees s.store := by
  have hengine : s.StoreSound ↔ (∀ i, i < 8 → ∀ x, s.store.slots.get i = some x → x.Sound) ∧ EngineAgrees s.store.slots s.store.engine := by
    unfold State.StoreSound
    cases s.store.engine with
    | idle | pre => rfl
    | post =>
      refine and_congr_right fun _ => and_congr_right fun _ => exists_congr fun x => and_congr_right fun _ => ?_
      exact ⟨fun ⟨hc, hu, hh, ht⟩ => ⟨hc, hu, hh, ht⟩, fun ⟨hc, hu, hh, ht⟩ => ⟨hc, hu, hh, ht⟩⟩
  exact hengine.trans ⟨fun ⟨hs, he⟩ => ⟨hs, he⟩, fun ⟨hs, he⟩ => ⟨hs, he⟩⟩

section
variable {st st' : SnapshotStore} {i : Nat} {x : Snapshot}

/-- Port, readout, fetch result and first missed signature are not read. -/
theorem StoreAgrees.congr (h : StoreAgrees st) (hslots : st'.slots = st.slots) (hengine : st'.engine = st.engine) : StoreAgrees st' :=
  ⟨by rw [hslots]; exact h.slots, by rw [hslots, hengine]; exact h.engine⟩

/-- One slot written with a sound content, and the engine where that leaves it. -/
theorem StoreAgrees.set_slot (h : StoreAgrees st) (hi : i < 8) (hx : x.Sound) {e : Engine}
    (he : (st.slots.set i (some x)).get i = some x → EngineAgrees (st.slots.set i (some x)) e) :
    StoreAgrees { st with slots := st.slots.set i (some x), engine := e } := by
  refine ⟨fun j hj y hy => ?_, he (Eight.get_set_same _ _ i hi)⟩
  by_cases hij : i = j
  · subst hij
    obtain rfl : x = y := Option.some.inj ((Eight.get_set_same st.slots (some x) i hi).symm.trans hy)
    exact hx
  · exact h.slots j hj y ((Eight.get_set_other st.slots (some x) i j hi hj hij).symm.trans hy)

theorem preWriteEnd_agrees (h : StoreAgrees st) : StoreAgrees st.preWriteEnd := by
  have hengine := h.engine
  cases he : st.engine with
  | idle | post => simpa only [SnapshotStore.preWriteEnd, he] using h
  | pre i rounds trace =>
    rw [he] at hengine
    obtain ⟨hi, x, hx, hbegun⟩ := hengine
    rw [preWriteEnd_of_pre he hx]
    refine (h.set_slot hi (preStored_sound hbegun) fun hget => ?_).congr (captureRelease_slots _) (captureRelease_engine _)
    split
    · trivial
    · next hpost => exact ⟨hi, _, hget, preStored_awaits hbegun hpost⟩

theorem postWriteEnd_agrees (h : StoreAgrees st) : StoreAgrees st.postWriteEnd := by
  have hengine := h.engine
  rcases he : st.engine with _ | _ | ⟨i, _ | r⟩
  case post.some =>
    rw [he] at hengine
    obtain ⟨hi, x, hx, hawaits⟩ := hengine
    rw [postWriteEnd_of_post he hx]
    refine (h.set_slot hi (roundStored_sound (h.slots i hi x hx) hawaits r) fun hget => ?_).congr (captureRelease_slots _) (captureRelease_engine _)
    split
    · trivial
    · next hmore => exact ⟨hi, _, hget, roundStored_awaits hawaits r hmore⟩
  all_goals simpa only [SnapshotStore.postWriteEnd, he] using h

theorem cleared_agrees : StoreAgrees SnapshotStore.cleared :=
  ⟨fun i _ x hx => by simp [SnapshotStore.cleared, Eight.get_all] at hx, trivial⟩

theorem lowestEmpty_lt (h : st.lowestEmpty = some i) : i < 8 := by
  obtain ⟨hi, -⟩ := List.findIdx?_eq_some_iff_getElem.1 h
  exact hi

end

section
variable {s t : State}

theorem storeSound_of_store (h : s.StoreSound) (hstore : t.store = s.store) : t.StoreSound := by
  rw [storeSound_iff] at h ⊢
  rwa [hstore]

theorem storeSound_of_cleared (hstore : t.store = SnapshotStore.cleared) : t.StoreSound := by
  rw [storeSound_iff, hstore]
  exact cleared_agrees

/-! ### Triggers and rounds taken (R152, R155) -/

theorem beginCapture_storeSound (h : s.StoreSound) {i : Nat} (hi : i < 8) (p : Profile) (g : Sig) (t : Time) : (s.beginCapture p g t i).StoreSound := by
  obtain ⟨hslots, hengine, -⟩ := captureRequest_kept s
  rw [storeSound_iff] at h ⊢
  rw [beginCapture_store, ← hslots]
  refine (h.congr hslots hengine).set_slot hi (begun_sound _ _ _ _ _) fun hget => ⟨hi, _, hget, ?_⟩
  simp only [newest_length, Snapshot.begun]

theorem trigger_storeSound (h : s.StoreSound) (p : Profile) (g : Sig) (t : Time) : (s.trigger p g t).1.StoreSound := by
  unfold State.trigger
  split
  · next i _ hempty => exact beginCapture_storeSound h (lowestEmpty_lt hempty) p g t
  · rw [storeSound_iff] at h ⊢
    exact h.congr (by rw [snapshotMissed_store]) (by rw [snapshotMissed_store])

theorem offerRound_storeSound (h : s.StoreSound) (r : Round) : (s.offerRound r).StoreSound := by
  unfold State.offerRound
  split
  · next i he =>
    obtain ⟨hslots, -⟩ := captureRequest_kept s
    rw [storeSound_iff] at h ⊢
    have hengine := h.engine
    rw [he] at hengine
    rw [← hslots] at hengine
    refine ⟨?_, hengine⟩
    simpa only [State.setStore_store, hslots] using h.slots
  · exact h

theorem triggerSnapshot_storeSound (h : s.StoreSound) (p : Profile) (g : Sig) (t : Time) : (s.triggerSnapshot p g t).StoreSound := by
  unfold State.triggerSnapshot
  split
  · exact storeSound_of_store (trigger_storeSound h p g t) rfl
  · exact h

/-- A fault report reaches the store by its trigger alone (R126). -/
theorem faultReport_storeSound (h : s.StoreSound) (p : Profile) (g : Sig) (t : Time) : (s.faultReport p g t).StoreSound := by
  unfold State.faultReport
  split
  · split
    · exact triggerSnapshot_storeSound (storeSound_of_store h (by simp)) p g t
    · exact storeSound_of_store h (by simp)
  · split <;> exact storeSound_of_store h (by simp)

theorem faultReports_storeSound (h : s.StoreSound) (p : Profile) (cls : Nat) (details : List Nat) (t : Time) :
    (s.faultReports p cls details t).StoreSound :=
  List.foldlRecOn details _ h fun _ hu _ _ => faultReport_storeSound hu p _ t

/-! ### Readouts: slots and engine as they were (R157 to R161) -/

/-- Slots and capture engine are as they were. -/
structure CaptureKept (s t : State) : Prop where
  slots : t.store.slots = s.store.slots
  engine : t.store.engine = s.store.engine

theorem CaptureKept.refl (s : State) : CaptureKept s s := ⟨rfl, rfl⟩

theorem CaptureKept.trans {u : State} (h : CaptureKept s t) (k : CaptureKept t u) : CaptureKept s u :=
  ⟨k.slots.trans h.slots, k.engine.trans h.engine⟩

theorem CaptureKept.of_store (h : t.store = s.store) : CaptureKept s t := ⟨by rw [h], by rw [h]⟩

theorem CaptureKept.storeSound (k : CaptureKept s t) (h : s.StoreSound) : t.StoreSound := by
  rw [storeSound_iff] at h ⊢
  exact h.congr k.slots k.engine

theorem readRequest_captureKept (s : State) (r : Readout) : CaptureKept s (s.setStore (s.store.readRequest r)) := by
  unfold SnapshotStore.readRequest
  split <;> exact ⟨rfl, rfl⟩

theorem handPiece_captureKept (r : Readout) (payload : List Byte) (next : ReadStage) (s : State) : CaptureKept s (s.handPiece r payload next) := by
  obtain ⟨u, taken, -, hstore⟩ := s.handPiece_spec r payload next
  rw [hstore]
  cases taken <;> exact ⟨rfl, rfl⟩

theorem detailDeparted_captureKept (s : State) : CaptureKept s s.detailDeparted := by
  unfold State.detailDeparted
  split
  · exact .refl s
  · next r _ =>
    split
    · split
      · unfold State.handFinal
        split
        · exact .refl s
        · exact handPiece_captureKept r _ _ s
      · exact readRequest_captureKept s _
    · rw [endReadout_eq]
      exact ⟨rfl, rfl⟩
    · exact handPiece_captureKept r _ _ s
    all_goals exact .refl s

theorem pieceReadEnd_captureKept (s : State) : CaptureKept s s.pieceReadEnd := by
  have hreleased : CaptureKept s (s.setStore s.store.readRelease) := by
    rw [readRelease_eq]
    exact ⟨rfl, rfl⟩
  unfold State.pieceReadEnd
  split
  · next r _ =>
    split
    · dsimp only
      split
      · exact hreleased.trans ⟨rfl, rfl⟩
      · exact hreleased.trans (handPiece_captureKept r _ _ _)
    · exact .refl s
  · exact .refl s

theorem departed_captureKept (n : Notice) (alertFirst : Bool) (s : State) : CaptureKept s (s.departed n alertFirst) := by
  have halert : ∀ u : State, CaptureKept u u.alertOnDeparture := fun u => .of_store (by simp)
  unfold State.departed
  split
  · exact .refl s
  · split
    · split
      · exact (halert s).trans (detailDeparted_captureKept _)
      · exact (detailDeparted_captureKept s).trans (halert _)
    · exact halert s

theorem dropReported_captureKept (n : Notice) (alertFirst : Bool) (s : State) : CaptureKept s (s.dropReported n alertFirst) := by
  unfold State.dropReported
  split
  · exact (detailDeparted_captureKept s).trans (.of_store (by simp))
  · exact CaptureKept.trans (.of_store (by simp)) (departed_captureKept n alertFirst _)

theorem attemptCompletion_captureKept (bt : Nat) (alertFirst : Bool) (s : State) : CaptureKept s (s.attemptCompletion bt alertFirst) := by
  unfold State.attemptCompletion State.sent
  split
  · split
    · dsimp only
      split
      · exact .of_store (by simp)
      · exact CaptureKept.trans (.of_store (by simp)) (departed_captureKept _ alertFirst _)
    · exact .refl s
  · exact .refl s

theorem jamEnd_captureKept (bt : Nat) (alertFirst : Bool) (s : State) : CaptureKept s (s.jamEnd bt alertFirst) := by
  unfold State.jamEnd State.jamOver
  split
  · split
    · dsimp only
      split
      · exact .of_store (by simp)
      · split
        · split
          · exact .of_store (by simp)
          · exact CaptureKept.trans (.of_store (by simp)) (dropReported_captureKept _ alertFirst _)
        · exact .of_store (by simp)
    · exact .refl s
  · exact .refl s

theorem takeFetch_captureKept (source arg : Byte) (s : State) : CaptureKept s (s.takeFetch source arg) := by
  have hended : CaptureKept s (s.setStore s.store.endReadout) := by
    rw [endReadout_eq]
    exact ⟨rfl, rfl⟩
  have hrefused : ∀ (u : State) (r : FetchResult), CaptureKept u (u.fetchRefused r source) := fun u r =>
    CaptureKept.trans (t := u.setStore { u.store with fetchResult := r }) ⟨rfl, rfl⟩ (.of_store (by simp [State.fetchRefused]))
  unfold State.takeFetch State.fetchSlot
  dsimp only
  split
  · split
    · exact hended.trans (hrefused _ _)
    · split
      · have hrequested := readRequest_captureKept (s.setStore s.store.endReadout)
          { slot := arg.toNat, target := source, offset := 0, stage := .reading 0 }
        exact (hended.trans hrequested).trans ⟨rfl, rfl⟩
      · exact hended.trans (hrefused _ _)
  · exact .of_store (by simp)

/-! ### The run controller (R8, R16, R163, R164) -/

/-- A START is accepted with the store cleared, or leaves it (R7, R8). -/
theorem takeStart_storeSound (h : s.StoreSound) : s.takeStart.StoreSound := by
  have haccepted : ∀ p, (s.acceptStart p).StoreSound := fun p => storeSound_of_cleared (by simp [acceptStart_eq, runBegun, State.clearForRun])
  have hlast : ∀ r, (s.setLastOrder r).StoreSound := fun r => storeSound_of_store h rfl
  have hseated : ∀ p, (if s.panel.seat.level then s.acceptStart p else s.setLastOrder .refusedUnseated).StoreSound := fun p => by
    split
    · exact haccepted p
    · exact hlast _
  unfold State.takeStart
  split
  · exact hseated _
  · exact hseated _
  · exact hlast _

theorem buttonPress_storeSound (h : s.StoreSound) : s.buttonPress.StoreSound := by
  have hflipped : s.flipButton.StoreSound := storeSound_of_store h rfl
  unfold State.buttonPress
  split
  · unfold State.pressed
    split
    · split
      · exact storeSound_of_store hflipped rfl
      · exact hflipped
    · exact takeStart_storeSound hflipped
    · exact storeSound_of_store hflipped (by simp)
    · exact takeStart_storeSound hflipped
    · exact takeStart_storeSound hflipped
  · exact h

theorem fixtureChange_storeSound (h : s.StoreSound) : s.fixtureChange.StoreSound := by
  unfold State.fixtureChange
  split
  · exact storeSound_of_cleared rfl
  · exact h

/-! ### The sequencer's reports (R67, R71, R72, R87, R89) -/

theorem enterDrain_storeSound (h : s.StoreSound) (p : Profile) : (s.enterDrain p).StoreSound := storeSound_of_store h (by simp)

theorem endStanding_storeSound (h : s.StoreSound) (o : Byte) : (s.endStanding o).StoreSound := storeSound_of_store h (by simp)

theorem endDrain_storeSound (h : s.StoreSound) (p : Profile) : (s.endDrain p).StoreSound := storeSound_of_store h (by simp)

theorem rampDeadlineOut_storeSound (h : s.StoreSound) : s.rampDeadlineOut.StoreSound := by
  unfold State.rampDeadlineOut
  (repeat' split)
  · exact enterDrain_storeSound (endStanding_storeSound (faultReports_storeSound h _ 3 _ s.clock) _) _
  all_goals exact h

theorem takeTrip_storeSound (h : s.StoreSound) (p : Profile) : (s.takeTrip p).StoreSound := by
  unfold State.takeTrip
  split
  · have hopened : s.openSwitch.StoreSound := storeSound_of_store h rfl
    exact enterDrain_storeSound (endStanding_storeSound (faultReport_storeSound hopened p _ s.clock) _) p
  · exact h

theorem drainDeadlineOut_storeSound (h : s.StoreSound) : s.drainDeadlineOut.StoreSound := by
  unfold State.drainDeadlineOut
  (repeat' split)
  · exact endDrain_storeSound (faultReports_storeSound h _ 4 _ s.clock) _
  all_goals exact h

/-! ### Rounds (R84, R90 to R92, R96, R155) -/

theorem windowStep_storeSound (h : s.StoreSound) (p : Profile) (i : Nat) : (s.windowStep p i).StoreSound := by
  have hset : ∀ w, (s.setWatch i w).StoreSound := fun w => storeSound_of_store h rfl
  unfold State.windowStep
  dsimp only
  (repeat' split)
  · exact faultReport_storeSound (hset _) p _ _
  · exact hset _
  · exact h

theorem restStep_storeSound (h : s.StoreSound) (p : Profile) (i : Nat) : (s.restStep p i).StoreSound := by
  have hset : ∀ w, (s.setWatch i w).StoreSound := fun w => storeSound_of_store h rfl
  unfold State.restStep
  dsimp only
  (repeat' split)
  · exact faultReport_storeSound (hset _) p _ _
  · exact hset _
  · exact h

theorem windowCheck_storeSound (h : s.StoreSound) (p : Profile) : (s.windowCheck p).StoreSound :=
  List.foldlRecOn _ _ h fun _ hu i _ => windowStep_storeSound hu p i

theorem restCheck_storeSound (h : s.StoreSound) (p : Profile) : (s.restCheck p).StoreSound :=
  List.foldlRecOn _ _ h fun _ hu i _ => restStep_storeSound hu p i

theorem poweredChecks_storeSound (h : s.StoreSound) (p : Profile) (tripFirst : Bool) : (s.poweredChecks p tripFirst).StoreSound := by
  have hsettle : ∀ (b : Bool) (u : State), u.StoreSound → (if b then u.railsSettled p else u).StoreSound := fun b u hu =>
    storeSound_of_store hu (by split <;> simp)
  have htrip : ∀ (b : Bool) (u : State), u.StoreSound → (if b then u.takeTrip p else u).StoreSound := fun b u hu => by
    split
    · exact takeTrip_storeSound hu p
    · exact hu
  have hcounted : ((if s.seq.phase == .ramp then s.rampFlags p else s).tripCounted p).StoreSound :=
    storeSound_of_store h (by split <;> rfl)
  unfold State.poweredChecks
  dsimp only
  split
  · exact hsettle _ _ (htrip _ _ hcounted)
  · exact htrip _ _ (hsettle _ _ hcounted)

theorem phaseChecks_storeSound (h : s.StoreSound) (p : Profile) (tripFirst : Bool) : (s.phaseChecks p tripFirst).StoreSound := by
  unfold State.phaseChecks
  cases s.seq.phase with
  | off | waiting => exact h
  | ramp => exact poweredChecks_storeSound h p tripFirst
  | boot | stress => exact poweredChecks_storeSound (windowCheck_storeSound h p) p tripFirst
  | rest => exact restCheck_storeSound h p
  | drain => exact storeSound_of_store h (by dsimp only; split <;> simp)

theorem sagCheck_storeSound (h : s.StoreSound) (p : Profile) : (s.sagCheck p).StoreSound := storeSound_of_store h (by simp)

/-- A write that ends before the round is stored, the round is offered to the store, and the checks report (R154, R155). -/
theorem takeRound_storeSound (inputs : Eight Int) (i : PanelSample) (tripFirst : Bool) (hcount : s.countForRound.StoreSound) :
    (s.takeRound inputs i tripFirst).StoreSound := by
  have hbegun : (s.countForRound.roundBegun i).StoreSound := by
    rw [storeSound_iff] at hcount ⊢
    exact postWriteEnd_agrees (preWriteEnd_agrees hcount)
  unfold State.takeRound State.roundHandled
  split
  · exact hbegun
  · next p hp =>
    have hwritten : ∀ r, ((s.countForRound.roundBegun i).writeHistory r).StoreSound := fun r =>
      offerRound_storeSound (storeSound_of_store hbegun (by simp)) r
    have hscaled := fun r => storeSound_of_store (t := ((s.countForRound.roundBegun i).writeHistory r).scaleValues p r) (hwritten r) rfl
    exact sagCheck_storeSound (phaseChecks_storeSound (hscaled _) p tripFirst) p

/-! ### The listener (R101, R106 to R112) -/

theorem finalStage_storeSound (h : s.StoreSound) (p : Profile) (j : Nat) : (s.finalStage p j).StoreSound := storeSound_of_store h (by simp)

theorem fallBack_storeSound (h : s.StoreSound) : s.fallBack.StoreSound := storeSound_of_store h (by simp)

theorem stageCode_storeSound (h : s.StoreSound) (p : Profile) (j : Nat) : (s.stageCode p j).StoreSound := by
  have hmoved : (s.moveStage p j).StoreSound := storeSound_of_store h rfl
  have hreported : ∀ g, ((s.faultReport p g s.clock).moveStage p j).StoreSound := fun g =>
    storeSound_of_store (faultReport_storeSound h p g s.clock) rfl
  unfold State.stageCode
  (repeat' split)
  · exact finalStage_storeSound hmoved p j
  · exact finalStage_storeSound (hreported _) p j
  · exact fallBack_storeSound (hreported _)
  · exact h

theorem classify_storeSound (h : s.StoreSound) (p : Profile) (code : BitVec 16) : (s.classify p code).StoreSound := by
  unfold State.classify
  (repeat' split)
  · exact stageCode_storeSound h p _
  · exact storeSound_of_store h (by simp)
  · exact faultReport_storeSound h p _ _
  · exact h

/-- Of the parser's states the low byte of a code alone can bring a report (R103, R106). -/
theorem parse_storeSound (h : s.StoreSound) (p : Profile) (b : Byte) : (s.parse p b).StoreSound := by
  cases hparser : s.lis.parser with
  | codeLo high =>
    rw [parse_codeLo hparser]
    split
    · exact storeSound_of_store h rfl
    · exact classify_storeSound (s := s.parserHunts) (storeSound_of_store h rfl) p _
  | codeHi =>
    rw [parse_codeHi hparser]
    exact storeSound_of_store h rfl
  | hunt =>
    rw [parse_hunt hparser]
    exact storeSound_of_store h (by split <;> rfl)
  | idLen =>
    rw [parse_idLen hparser]
    exact storeSound_of_store h (by split <;> rfl)
  | idBytes n got =>
    rw [parse_idBytes hparser]
    exact storeSound_of_store h (by split <;> rfl)

theorem byteReceived_storeSound (h : s.StoreSound) (b : Byte) : (s.byteReceived b).StoreSound := by
  unfold State.byteReceived
  (repeat' split)
  · exact parse_storeSound (s := s.setLis { s.lis with trace := pushByte b s.lis.trace }) (storeSound_of_store h (by simp)) _ b
  all_goals exact h

theorem framingError_storeSound (h : s.StoreSound) : s.framingError.StoreSound := by
  unfold State.framingError
  (repeat' split)
  · exact faultReport_storeSound (s := framingNoted s) (storeSound_of_store h rfl) _ _ _
  all_goals exact h

theorem awaitedStageOut_storeSound (h : s.StoreSound) : s.awaitedStageOut.StoreSound := by
  unfold State.awaitedStageOut
  dsimp only
  (repeat' split)
  · exact storeSound_of_store h rfl
  · refine faultReport_storeSound ?_ _ _ _
    exact storeSound_of_store h rfl
  all_goals exact h

theorem pulseDeadlineOut_storeSound (h : s.StoreSound) : s.pulseDeadlineOut.StoreSound := by
  unfold State.pulseDeadlineOut
  (repeat' split)
  · exact enterDrain_storeSound (faultReport_storeSound h _ _ s.clock) _
  all_goals exact h

/-! ### The clock and every command -/

theorem Due.take_storeSound (h : s.StoreSound) (d : Due) : (Due.take s d).StoreSound := by
  cases d with
  | fixtureChange => exact fixtureChange_storeSound h
  | buttonPress => exact buttonPress_storeSound h
  | rampDeadline => exact rampDeadlineOut_storeSound h
  | drainDeadline => exact drainDeadlineOut_storeSound h
  | awaitedStageDeadline => exact awaitedStageOut_storeSound h
  | pulseDeadline => exact pulseDeadlineOut_storeSound h
  | entryExpiry => exact storeSound_of_store h (by dsimp only [Due.take]; split <;> simp)
  | firstState | fixtureFitted | trayRemoval | traySeated | buttonRelease | holdEnd | onTimeDeadline | offTimeDeadline | gapDeadline
  | occurrenceClose | echoRemoval | pollTimeout =>
    exact storeSound_of_store h (by simp [Due.take])

theorem nextCount_storeSound (h : s.StoreSound) : s.nextCount.StoreSound :=
  storeSound_of_store (State.settle_keeps State.StoreSound (fun _ d hu => Due.take_storeSound hu d) settleLimit s h) rfl

/-- The count ended or not, as idleStep and countForRound choose (R2). -/
theorem nextCount_ite_storeSound (h : s.StoreSound) (b : Bool) : (if b then s.nextCount else s).StoreSound := by
  split
  · exact nextCount_storeSound h
  · exact h

theorem received_storeSound (h : s.StoreSound) (hd : Header) (order : Bool) {consume : State → State} (hc : (consume s).StoreSound) :
    (s.received hd order consume).StoreSound := by
  rcases State.received_cases hd order consume s with hr | hr | ⟨-, -, hr⟩ <;> rw [hr]
  · exact h
  · exact storeSound_of_store h (by simp)
  · exact hc

/-- Every command but a power-on reset: those that capture, clear, report or read out by what these do, and the others by the store they leave. -/
theorem exec_storeSound (h : s.StoreSound) (c : Instr) (hexec : exec c s = .next t) (hc : ∀ straps, c ≠ .powerOnReset straps) : t.StoreSound := by
  cases c with
  | powerOnReset straps => exact absurd rfl (hc straps)
  | preSegmentWriteEnd => cases hexec; exact (storeSound_iff _).2 (preWriteEnd_agrees ((storeSound_iff s).1 h))
  | postRoundWriteEnd => cases hexec; exact (storeSound_iff _).2 (postWriteEnd_agrees ((storeSound_iff s).1 h))
  | round inputs panel tripFirst => cases hexec; exact takeRound_storeSound inputs panel tripFirst (nextCount_ite_storeSound h _)
  | start hd arg => cases hexec; exact received_storeSound h hd true (takeStart_storeSound h)
  | buttonPress => cases hexec; exact buttonPress_storeSound h
  | fixtureChange => cases hexec; exact fixtureChange_storeSound h
  | rampDeadline => cases hexec; exact rampDeadlineOut_storeSound h
  | drainDeadline => cases hexec; exact drainDeadlineOut_storeSound h
  | byteReceived b => cases hexec; exact byteReceived_storeSound h b
  | framingError => cases hexec; exact framingError_storeSound h
  | awaitedStageDeadline => cases hexec; exact awaitedStageOut_storeSound h
  | pulseDeadline => cases hexec; exact pulseDeadlineOut_storeSound h
  | pieceReadEnd => cases hexec; exact (pieceReadEnd_captureKept s).storeSound h
  | attemptCompletion bt alertFirst => cases hexec; exact (attemptCompletion_captureKept bt alertFirst s).storeSound h
  | jamEnd bt alertFirst => cases hexec; exact (jamEnd_captureKept bt alertFirst s).storeSound h
  | fetch hd arg => cases hexec; exact received_storeSound h hd true ((takeFetch_captureKept hd.source arg s).storeSound h)
  | abort hd arg | query hd arg | unknownOperation hd op arg =>
    cases hexec; exact received_storeSound h hd true (storeSound_of_store h (by simp))
  | claim hd weight duration cycle | withdraw hd | settled hd outcome | sighting hd sig cycle phase | sag hd bus =>
    cases hexec; exact received_storeSound h hd false (storeSound_of_store h (by simp))
  | carrierAppears bt | endOfCarrier bt => cases hexec; exact storeSound_of_store h (by unfold State.onLine; split <;> rfl)
  | debounceFirstState | buttonRelease | traySeated | trayRemoval | fixtureFitted | frameDiscarded | quietGapEnd | collision | backoffEnd
  | backoffGeneratorAdvance | holdEnd | entryExpiry | onTimeDeadline | offTimeDeadline | idleFlagSet | gapDeadline | occurrenceClose | echoRemoval
  | slotHeaderReadEnd | tagWriteEnd | pollAcknowledge | pollTimeout | tagNoAcknowledge | profileHeaderReadEnd | imageReadEnd | promNoAcknowledge =>
    cases hexec
    exact storeSound_of_store h (by simp)

end

/-- Settles O58: a power-on reset leaves the store cleared, and every other step keeps the agreement. -/
theorem storeKept : Obligations.StoreKept := by
  unfold Obligations.StoreKept
  intro s t h hstep
  rcases step_cases s t hstep with ⟨-, rfl⟩ | ⟨c, rest, -, hexec⟩
  · exact nextCount_ite_storeSound h _
  · by_cases hc : ∃ straps, c = .powerOnReset straps
    · obtain ⟨straps, rfl⟩ := hc
      cases hexec
      exact storeSound_of_cleared rfl
    · have hpending : (s.setPending rest).StoreSound := storeSound_of_store h rfl
      exact exec_storeSound hpending c hexec fun straps hs => hc ⟨straps, hs⟩

end Sys2Proof.Proofs
end

section
/-! # Scope: the ranking of the records, the docket and its first write (R167, R168, R171, R172, R174) -/

namespace Sys2Proof.Proofs

open Sys2Proof.Machine

/-! ### The order of R168 is a strict weak order, and ties go by creation -/

section
variable (start : Time)

theorem ahead_iff (a b : Record) :
    a.ahead start b = true ↔ b.localCount < a.localCount
      ∨ (a.localCount = b.localCount ∧ (b.commonCount < a.commonCount
        ∨ (a.commonCount = b.commonCount ∧ signedDiff a.firstSeen start < signedDiff b.firstSeen start))) := by
  unfold Record.ahead
  (repeat' split) <;> simp only [decide_eq_true_eq] <;> omega

theorem ahead_asymm {a b : Record} (h : a.ahead start b = true) : ¬b.ahead start a = true := by
  rw [ahead_iff] at h ⊢
  omega

/-- Where one record is ahead of another, any third is behind the first or ahead of the second. -/
theorem ahead_split {a c : Record} (b : Record) (h : a.ahead start c = true) : a.ahead start b = true ∨ b.ahead start c = true := by
  rw [ahead_iff] at h ⊢
  rw [ahead_iff]
  omega

/-- A record numbered by its creation ranks before another: ahead by the three keys, or tied with it and created earlier. -/
def NumberedBefore (a b : Record × Nat) : Prop := a.1.ahead start b.1 = true ∨ (¬b.1.ahead start a.1 = true ∧ a.2 < b.2)

/-- The relation by which the ranking inserts a numbered record: it goes before each one that is not ahead of it. -/
abbrev NotBehind (a b : Record × Nat) : Prop := ¬b.1.ahead start a.1 = true

/-- The records in the order of R168, each with its number in the order of creation. -/
def rankNumbered (records : List Record) : List (Record × Nat) := records.zipIdx.insertionSort (NotBehind start)

/-- An insertion ahead of the ties is the library's. -/
theorem placeRecord_eq_orderedInsert (r : Record) (l : List Record) :
    placeRecord start r l = l.orderedInsert (fun a b => ¬b.ahead start a = true) r := by
  induction l with
  | nil => rfl
  | cons x l ih => simp only [placeRecord, List.orderedInsert_cons, ih, ite_not]

theorem rankRecords_eq_insertionSort (l : List Record) :
    rankRecords start l = l.insertionSort (fun a b => ¬b.ahead start a = true) := by
  induction l with
  | nil => rfl
  | cons r l ih => rw [List.insertionSort_cons, ← ih, ← placeRecord_eq_orderedInsert]; rfl

theorem rankNumbered_perm (records : List Record) : (rankNumbered start records).Perm records.zipIdx := List.perm_insertionSort _ _

/-- The numbered ranking is the model's ranking with the numbers. -/
theorem map_fst_rankNumbered (records : List Record) : (rankNumbered start records).map Prod.fst = rankRecords start records := by
  have hmap := List.map_insertionSort (NotBehind start) (fun a b => ¬b.ahead start a = true) Prod.fst records.zipIdx fun _ _ _ _ => Iff.rfl
  rw [List.zipIdx_map_fst] at hmap
  rw [rankRecords_eq_insertionSort, rankNumbered, hmap]

/-- A numbered record inserted among later ones that are in order leaves them in order. -/
theorem orderedInsert_numberedBefore (a : Record × Nat) : ∀ {l : List (Record × Nat)}, l.Pairwise (NumberedBefore start) →
    (∀ b ∈ l, a.2 < b.2) → (l.orderedInsert (NotBehind start) a).Pairwise (NumberedBefore start)
  | [], _, _ => by simp
  | x :: l, hl, hlater => by
    obtain ⟨hx, hrest⟩ := List.pairwise_cons.1 hl
    rw [List.orderedInsert_cons]
    split
    · next htop =>
      refine List.pairwise_cons.2 ⟨fun b hb => .inr ⟨fun hahead => ?_, hlater b hb⟩, hl⟩
      rcases List.mem_cons.1 hb with rfl | hmem
      · exact htop hahead
      · have hxb : ¬b.1.ahead start x.1 = true := (hx b hmem).elim (ahead_asymm start) And.left
        exact (ahead_split start x.1 hahead).elim hxb htop
    · next htop =>
      refine List.pairwise_cons.2 ⟨fun b hb => ?_, orderedInsert_numberedBefore a hrest fun b hb => hlater b (List.mem_cons_of_mem _ hb)⟩
      rcases (List.mem_orderedInsert _).1 hb with rfl | hmem
      · exact .inl (not_not.1 htop)
      · exact hx b hmem

theorem insertionSort_numberedBefore : ∀ {l : List (Record × Nat)}, l.Pairwise (fun a b => a.2 < b.2) →
    (l.insertionSort (NotBehind start)).Pairwise (NumberedBefore start)
  | [], _ => by simp
  | a :: l, hl => by
    obtain ⟨hlater, hrest⟩ := List.pairwise_cons.1 hl
    exact orderedInsert_numberedBefore start a (insertionSort_numberedBefore hrest) fun b hb => hlater b ((List.mem_insertionSort _).1 hb)

theorem zipIdx_rising (records : List Record) : records.zipIdx.Pairwise (fun a b => a.2 < b.2) := by
  rw [← List.pairwise_map (f := Prod.snd), List.zipIdx_map_snd]
  exact List.pairwise_lt_range'

theorem rankNumbered_numberedBefore (records : List Record) : (rankNumbered start records).Pairwise (NumberedBefore start) :=
  insertionSort_numberedBefore start (zipIdx_rising records)

theorem mem_rankNumbered {records : List Record} {a : Record × Nat} (h : a ∈ rankNumbered start records) : records[a.2]? = some a.1 := by
  obtain ⟨r, i⟩ := a
  exact List.mem_zipIdx_iff_getElem?.1 ((rankNumbered_perm start records).mem_iff.1 h)

/-- Between numbered records of a table the two ways to state the rank agree. -/
theorem NumberedBefore.ranksBefore {records : List Record} {a b : Record × Nat} (h : NumberedBefore start a b)
    (ha : records[a.2]? = some a.1) (hb : records[b.2]? = some b.1) : RanksBefore start records a.2 b.2 := by
  refine ⟨a.1, b.1, ha, hb, ?_⟩
  unfold NumberedBefore at h
  rw [ahead_iff, ahead_iff] at h
  simp only [signedDiff] at h
  rw [← BitVec.toInt_inj]
  omega

/-- The creation numbers in the order of R168. -/
def rankOrder (records : List Record) : List Nat := (rankNumbered start records).map Prod.snd

theorem rankOrder_perm (records : List Record) : (rankOrder start records).Perm (List.range records.length) := by
  have := (rankNumbered_perm start records).map Prod.snd
  rwa [List.zipIdx_map_snd, ← List.range_eq_range'] at this

theorem rankOrder_ranksBefore (records : List Record) : (rankOrder start records).Pairwise (RanksBefore start records) :=
  List.pairwise_map.2 <| (rankNumbered_numberedBefore start records).imp_of_mem fun ha hb h =>
    h.ranksBefore start (mem_rankNumbered start ha) (mem_rankNumbered start hb)

/-- The records that lead by number are those that the model's ranking has in front. -/
theorem filterMap_take_rankOrder (n : Nat) (records : List Record) :
    ((rankOrder start records).take n).filterMap (fun i => records[i]?) = (rankRecords start records).take n := by
  rw [rankOrder, ← List.map_take, List.filterMap_map, ← map_fst_rankNumbered, ← List.map_take, ← List.filterMap_eq_map]
  exact List.filterMap_congr fun a ha => mem_rankNumbered start (List.mem_of_mem_take ha)

end

/-! ### The fields of the docket -/

theorem padTo_of_le {n : Nat} {l : List Byte} (h : l.length ≤ n) : padTo n l = l ++ List.replicate (n - l.length) 0#8 := by
  rw [padTo, List.take_append, List.take_of_length_le h, List.take_replicate, Nat.min_eq_left (Nat.sub_le ..)]

@[simp] theorem padTo_length (n : Nat) (l : List Byte) : (padTo n l).length = n := by simp [padTo]

theorem identityBytes_length (m : Option (List Byte)) : (identityBytes m).length = 17 := by cases m <;> simp [identityBytes]

theorem identityBytes_some {l : List Byte} (h : l.length ≤ 16) :
    identityBytes (some l) = [BitVec.ofNat 8 l.length] ++ l ++ List.replicate (16 - l.length) 0#8 := by
  simp [identityBytes, padTo_of_le h, count8]

theorem leadingBytes_length (r : LeadingRecord) : r.bytes.length = 7 := rfl

/-- The head of the docket: marker, sequence, verdict, cycles done, station ID and profile tag. -/
def docketHead (p : Profile) (sequence : Byte) (m : Summary) (s : State) : List Byte :=
  [0xC5#8, sequence, s.run.verdict.code, m.done, s.ownId] ++ be16 p.profileTag

/-- The four totals of the docket. -/
def docketTotals (m : Summary) : List Byte :=
  count16 m.occurrences ++ count16 m.localTotal ++ count16 m.commonTotal ++ count16 m.unjudgedTotal

/-- The leading records of the docket, filled up to four. -/
def docketLeading (m : Summary) : List Byte := padTo 28 (m.leading.flatMap LeadingRecord.bytes)

theorem docket_eq (p : Profile) (sequence : Byte) (m : Summary) (s : State) :
    s.docket p sequence m =
      docketHead p sequence m s ++ (docketTotals m ++ (identityBytes m.identity ++ (docketLeading m ++ be32 s.run.endTime))) := by
  simp only [State.docket, docketHead, docketTotals, docketLeading, List.append_assoc]

/-- The fields of a docket stand one behind another at the offsets of R171. -/
structure DocketFields (docket head totals identity leading endTime : List Byte) : Prop where
  length : docket.length = 64
  head : docket.take 7 = head
  totals : (docket.drop 7).take 8 = totals
  identity : (docket.drop 15).take 17 = identity
  leading : (docket.drop 32).take 28 = leading
  endTime : docket.drop 60 = endTime

theorem docketFields_of_append {head totals identity leading endTime : List Byte} (hh : head.length = 7) (ht : totals.length = 8)
    (hi : identity.length = 17) (hl : leading.length = 28) (he : endTime.length = 4) :
    DocketFields (head ++ (totals ++ (identity ++ (leading ++ endTime)))) head totals identity leading endTime := by
  constructor <;> simp [List.drop_append, List.drop_of_length_le, *]

theorem docket_fields (p : Profile) (sequence : Byte) (m : Summary) (s : State) :
    DocketFields (s.docket p sequence m) (docketHead p sequence m s) (docketTotals m) (identityBytes m.identity) (docketLeading m)
      (be32 s.run.endTime) := by
  rw [docket_eq]
  exact docketFields_of_append rfl rfl (identityBytes_length _) (padTo_length ..) rfl

theorem summary_leading (s : State) :
    s.summary.leading = ((rankRecords s.run.startTime s.table.records).take 4).map Record.leading := rfl

/-- At most four records lead, so their bytes fit the field and fill it up with 0x00. -/
theorem docketLeading_summary {s : State} {lead : List Record} (h : lead = (rankRecords s.run.startTime s.table.records).take 4) :
    docketLeading s.summary =
      lead.flatMap (fun r => be16 r.sig ++ be16 (BitVec.ofNat 16 r.localCount) ++ be16 (BitVec.ofNat 16 r.commonCount) ++ [r.firstCycle])
        ++ List.replicate (28 - 7 * lead.length) 0#8 := by
  have hbytes : s.summary.leading.flatMap LeadingRecord.bytes = lead.flatMap fun r => r.leading.bytes := by
    rw [summary_leading, ← h, List.flatMap_map]
  have hlen : (lead.flatMap fun r => r.leading.bytes).length = 7 * lead.length :=
    length_flatMap_of_length (f := fun r : Record => r.leading.bytes) (fun r => leadingBytes_length r.leading) lead
  have hfour : lead.length ≤ 4 := h ▸ List.length_take_le 4 _
  rw [docketLeading, hbytes, padTo_of_le (by omega), hlen]
  rfl

/-! ### The end of the header read -/

/-- The state at the end of the header read: the tag as learnt, and the verdict computed. -/
def headersTaken (p : Profile) (h : SlotHeaders) (s : State) : State := (s.learnSlots h).computeVerdict p

theorem headersTaken_summary (p : Profile) (h : SlotHeaders) (s : State) : (headersTaken p h s).summary = s.summary :=
  summary_congr (by simp [headersTaken]) (by simp [headersTaken]) (by simp [headersTaken]) (by simp [headersTaken])

/-- Write 1 with the docket, by the headers read, the verdict computed and the count summary, which the read leaves as it was (R11, R172). -/
def firstWrite (p : Profile) (h : SlotHeaders) (s : State) : DocketWrite :=
  { slot := (tagPlan h).1, docket := (headersTaken p h s).docket p (tagPlan h).2 s.summary, summary := s.summary, number := 1, poll := none }

theorem slotHeaderReadEnd_eq {s : State} {p : Profile} (h : SlotHeaders) (hc : s.closing = .headers) (hp : s.profile = some p) :
    s.slotHeaderReadEnd h = (headersTaken p h s).setClosing (.write (firstWrite p h s)) := by
  rw [firstWrite, ← headersTaken_summary p h s]
  simp only [State.slotHeaderReadEnd, hc, hp]
  rfl

/-- What the header read tells of one slot (R174). -/
theorem learnSlots_slot (h : SlotHeaders) (s : State) {i : Nat} {x : SlotHeader}
    (hi : (i = 0 ∧ x = h.s0) ∨ (i = 1 ∧ x = h.s1) ∨ (i = 2 ∧ x = h.s2) ∨ (i = 3 ∧ x = h.s3)) :
    Memory.read (s.learnSlots h).tag (64 * i) = some x.marker ∧ Memory.read (s.learnSlots h).tag (64 * i + 1) = some x.sequence
      ∧ (SlotAgrees i x s → ∀ a, 64 * i + 2 ≤ a → a < 64 * i + 64 → Memory.read (s.learnSlots h).tag a = Memory.read s.tag a)
      ∧ (¬SlotAgrees i x s → ∀ a, 64 * i + 2 ≤ a → a < 64 * i + 64 → Memory.read (s.learnSlots h).tag a = none) := by
  have hread := fun a => s.learnSlots_spec h i x a hi
  have hrest : ∀ a, 64 * i + 2 ≤ a → a < 64 * i + 64 →
      Memory.read (s.learnSlots h).tag a = if s.slotAgrees i x = false then none else Memory.read s.tag a := fun a hlow hhigh => by
    rw [hread a (by omega) hhigh, if_neg (by omega), if_neg (by omega)]
  refine ⟨?_, ?_, fun hagree a hlow hhigh => ?_, fun hdiffer a hlow hhigh => ?_⟩
  · rw [hread _ (by omega) (by omega), if_pos rfl]
  · rw [hread _ (by omega) (by omega), if_neg (by omega), if_pos rfl]
  · rw [hrest a hlow hhigh, (State.slotAgrees_iff i x s).2 hagree]
    rfl
  · rw [hrest a hlow hhigh, if_pos]
    rwa [← State.slotAgrees_iff, Bool.not_eq_true] at hdiffer

/-- Settles O43: the fields of the docket in their places, the numbered ranking for its leading records, and the four slots as the read
leaves them. -/
theorem docketWrites : Obligations.DocketWrites := by
  unfold Obligations.DocketWrites
  intro s p h hc hp hid
  have hfields := docket_fields p (tagPlan h).2 s.summary (headersTaken p h s)
  have hlead := filterMap_take_rankOrder s.run.startTime 4 s.table.records
  refine ⟨(headersTaken p h s).setClosing (.write (firstWrite p h s)), firstWrite p h s,
    congrArg Host.Outcome.next (slotHeaderReadEnd_eq h hc hp), rfl, rfl, rfl, rfl, hfields.length, hfields.head, hfields.totals, ?identity,
    ⟨rankOrder s.run.startTime s.table.records, rankOrder_perm .., rankOrder_ranksBefore .., _, rfl, ?summary, ?leading⟩,
    fun i x hi => learnSlots_slot h s hi, rfl, hfields.endTime, ?sixWrites⟩
  case identity =>
    rw [firstWrite, hfields.identity]
    change identityBytes s.lis.identity = _
    cases hl : s.lis.identity with
    | none => rfl
    | some l => exact identityBytes_some (hid l hl)
  case summary =>
    rw [hlead]
    exact summary_leading s
  case leading => rw [firstWrite, hfields.leading, docketLeading_summary hlead]
  case sixWrites => exact ⟨rfl, rfl, rfl, rfl, rfl, rfl, rfl, rfl, rfl, rfl, rfl, rfl⟩

end Sys2Proof.Proofs
end

section
/-! # Scope: the tag plan (R170) -/

namespace Sys2Proof.Proofs

open Sys2Proof.Machine

/-! ### The candidates by slot number -/

/-- The header read from the slot of this number. -/
def slotAt (h : SlotHeaders) : Nat → SlotHeader
  | 0 => h.s0
  | 1 => h.s1
  | 2 => h.s2
  | _ => h.s3

theorem numberedSlots_eq (h : SlotHeaders) : numberedSlots h = (List.range 4).map fun i => (i, slotAt h i) := rfl

theorem mem_numberedSlots {h : SlotHeaders} {c : Nat × SlotHeader} : c ∈ numberedSlots h ↔ c.1 < 4 ∧ c.2 = slotAt h c.1 := by
  obtain ⟨i, x⟩ := c
  simp [numberedSlots_eq, eq_comm]

theorem mem_slotCandidates {h : SlotHeaders} {c : Nat × SlotHeader} :
    c ∈ slotCandidates h ↔ (c.1 < 4 ∧ c.2 = slotAt h c.1) ∧ c.2.marker = 0xC5#8
      ∧ ∀ j, j < 4 → j ≠ c.1 → (slotAt h j).marker = 0xC5#8 → (slotAt h j).sequence ≠ c.2.sequence + 1#8 := by
  simp only [slotCandidates, List.mem_filter, mem_numberedSlots, Bool.and_eq_true, List.all_eq_true, slotValid, Bool.or_eq_true,
    Bool.not_eq_true', beq_iff_eq, beq_eq_false_iff_ne]
  refine and_congr_right fun _ => and_congr_right fun _ => ⟨fun hall j hj hne hmark => ?_, fun hall o ⟨ho, hread⟩ => ?_⟩
  · have := hall (j, slotAt h j) ⟨hj, rfl⟩
    simpa [hne, hmark] using this
  · by_cases hne : o.1 = c.1
    · exact .inl (.inl hne)
    · by_cases hmark : o.2.marker = 0xC5#8
      · exact .inr (hread ▸ hall o.1 ho hne (hread ▸ hmark))
      · exact .inl (.inr hmark)

/-- The slots are listed by rising number, and so are the candidates. -/
theorem slotCandidates_rising (h : SlotHeaders) : (slotCandidates h).Pairwise (fun c d => c.1 < d.1) :=
  .filter _ (by simp [numberedSlots])

/-! ### The newest of a list -/

/-- `c` has the greatest sequence in `l`, and the lowest number among those that share it. -/
def NewestOf (l : List (Nat × SlotHeader)) (c : Nat × SlotHeader) : Prop :=
  c ∈ l ∧ ∀ d ∈ l, d.2.sequence.toNat < c.2.sequence.toNat ∨ (d.2.sequence = c.2.sequence ∧ c.1 ≤ d.1)

theorem newestSlot_eq_none_iff (l : List (Nat × SlotHeader)) : newestSlot l = none ↔ l = [] := by
  cases l with
  | nil => simp [newestSlot]
  | cons c l =>
    simp only [newestSlot, reduceCtorEq, iff_false]
    split
    · simp
    · split <;> simp

/-- In a list of rising numbers the slot found is the newest: a slot ahead of the newest of the rest gives way to a greater sequence alone. -/
theorem newestSlot_newestOf : ∀ {l : List (Nat × SlotHeader)}, l.Pairwise (fun c d => c.1 < d.1) →
    ∀ c, newestSlot l = some c → NewestOf l c
  | [], _, _, h => by simp [newestSlot] at h
  | x :: l, hl, c, h => by
    obtain ⟨hx, hrest⟩ := List.pairwise_cons.1 hl
    cases hd : newestSlot l with
    | none =>
      obtain rfl := (newestSlot_eq_none_iff l).1 hd
      obtain rfl : x = c := by simpa [newestSlot] using h
      simp [NewestOf]
    | some d =>
      obtain ⟨hmem, hbest⟩ := newestSlot_newestOf hrest d hd
      simp only [newestSlot, hd] at h
      split at h
      · next hlt =>
        obtain rfl := Option.some.inj h
        refine ⟨List.mem_cons_of_mem _ hmem, fun e he => ?_⟩
        rcases List.mem_cons.1 he with rfl | he
        · exact .inl hlt
        · exact hbest e he
      · next hge =>
        obtain rfl := Option.some.inj h
        refine ⟨List.mem_cons_self, fun e he => ?_⟩
        rcases List.mem_cons.1 he with rfl | he
        · exact .inr ⟨rfl, le_rfl⟩
        · have hnum := hx e he
          have hle : e.2.sequence.toNat ≤ x.2.sequence.toNat := by
            rcases hbest e he with hlt | ⟨heq, -⟩
            · omega
            · rw [heq]
              omega
          rcases Nat.lt_or_eq_of_le hle with hlt | heq
          · exact .inl hlt
          · exact .inr ⟨BitVec.eq_of_toNat_eq heq, by omega⟩

/-- Two newest slots of one list agree in number and sequence. -/
theorem NewestOf.unique {l : List (Nat × SlotHeader)} {c d : Nat × SlotHeader} (hc : NewestOf l c) (hd : NewestOf l d) :
    c.1 = d.1 ∧ c.2.sequence = d.2.sequence := by
  obtain ⟨hmemc, hbestc⟩ := hc
  obtain ⟨hmemd, hbestd⟩ := hd
  rcases hbestc d hmemd with hlt | ⟨heq, hle⟩ <;> rcases hbestd c hmemc with hlt' | ⟨heq', hle'⟩
  · omega
  · rw [heq'] at hlt
    omega
  · rw [heq] at hlt'
    omega
  · exact ⟨by omega, heq'⟩

theorem tagPlan_of_no_candidate {h : SlotHeaders} (hnone : slotCandidates h = []) : tagPlan h = (0, 0#8) := by
  simp [tagPlan, hnone, newestSlot]

theorem tagPlan_of_newest {h : SlotHeaders} {c : Nat × SlotHeader} (hc : NewestOf (slotCandidates h) c) :
    tagPlan h = ((c.1 + 1) % 4, c.2.sequence + 1#8) := by
  cases hd : newestSlot (slotCandidates h) with
  | none =>
    have hnone := (newestSlot_eq_none_iff _).1 hd
    exact absurd hc.1 (by simp [hnone])
  | some d =>
    obtain ⟨hnum, hseq⟩ := hc.unique (newestSlot_newestOf (slotCandidates_rising h) d hd)
    simp [tagPlan, hd, hnum, hseq]

/-- Settles O41: the list of candidates holds exactly the slots that the statement calls candidates, and the plan goes by its newest. -/
theorem tagPlan : Obligations.TagPlan := by
  unfold Obligations.TagPlan
  rintro h marker seq ⟨hm0, hm1, hm2, hm3⟩ ⟨hq0, hq1, hq2, hq3⟩ candidate hcandidate
  have hmarker : ∀ j, j < 4 → marker j = (slotAt h j).marker := fun j hj => by interval_cases j <;> assumption
  have hseq : ∀ j, j < 4 → seq j = (slotAt h j).sequence := fun j hj => by interval_cases j <;> assumption
  have hmem : ∀ c, c ∈ slotCandidates h ↔ candidate c.1 ∧ c.2 = slotAt h c.1 := by
    intro c
    rw [mem_slotCandidates, hcandidate]
    constructor
    · rintro ⟨⟨hlt, heq⟩, hmark, hall⟩
      refine ⟨⟨hlt, ?_, fun j hj hne hmj => ?_⟩, heq⟩
      · rw [hmarker _ hlt, ← heq, hmark]
      · rw [hseq _ hj, hseq _ hlt, ← heq]
        exact hall j hj hne (hmarker j hj ▸ hmj)
    · rintro ⟨⟨hlt, hmark, hall⟩, heq⟩
      refine ⟨⟨hlt, heq⟩, ?_, fun j hj hne hmj => ?_⟩
      · rw [heq, ← hmarker _ hlt, hmark]
      · rw [heq, ← hseq _ hj, ← hseq _ hlt]
        exact hall j hj hne ((hmarker j hj).trans hmj)
  have hlt : ∀ i, candidate i → i < 4 := fun i hi => ((hcandidate i).1 hi).1
  refine ⟨fun hnone => ?_, fun i hi hbest => ?_⟩
  · exact tagPlan_of_no_candidate (List.eq_nil_iff_forall_not_mem.2 fun c hc => hnone _ ((hmem c).1 hc).1)
  · rw [hseq i (hlt i hi)]
    refine tagPlan_of_newest (c := (i, slotAt h i)) ⟨(hmem _).2 ⟨hi, rfl⟩, fun d hd => ?_⟩
    obtain ⟨hcd, hread⟩ := (hmem d).1 hd
    simpa only [hread, ← hseq _ (hlt _ hcd), ← hseq i (hlt i hi)] using hbest d.1 hcd

end Sys2Proof.Proofs
end

section
/-! # Scope: the commands in their queue, and the agreement of run state, profile, load, phase, closing work and claim state -/

namespace Sys2Proof.Proofs

open Sys2Proof.Machine

theorem step_of_pending_cons {s : State} {c : Instr} {rest : List Instr} (h : s.pending = c :: rest) : step s = exec c (s.setPending rest) := by
  unfold step
  rw [h]

/-- Settles O1: the step takes the command joined at the front, and the queue behind it is the one that the state had. -/
theorem stepTakesFrontCommand : Obligations.StepTakesFrontCommand := by
  unfold Obligations.StepTakesFrontCommand
  intro c s
  exact step_of_pending_cons (State.setPending_pending s (c :: s.pending))

/-- Settles O59: at a reset, and by what every other step keeps. -/
theorem runStatesAgree : Obligations.RunStatesAgree := by
  unfold Obligations.RunStatesAgree
  intro s t hrun hclaim h
  rcases step_kept h with ⟨straps, x, n, rfl⟩ | hk
  · obtain ⟨-, -, -, -, -, -, -, -, hr, hc, -⟩ := invariantsAtReset straps _ rfl
    exact ⟨hr, hc⟩
  · exact hk.agree ⟨hrun, hclaim⟩

end Sys2Proof.Proofs
end

section
/-! # Scope: the clamps of a profile (R180) -/

namespace Sys2Proof.Proofs

open Sys2Proof.Machine

/-! ### One field -/

theorem max_one_eq_ite (v : Nat) : max v 1 = if v = 0 then 1 else v := by
  simp only [max_def_lt, Nat.lt_one_iff]

theorem min_eq_ite_lt (v high : Nat) : min v high = if high < v then high else v :=
  (min_comm v high).trans (min_def_lt high v)

theorem clampTo_eq_ite {low high : Nat} (h : low ≤ high) (v : Nat) :
    clampTo low high v = if v < low then low else if high < v then high else v := by
  unfold clampTo
  split
  · omega
  · split <;> omega

theorem clampTo_one_eq_ite {high : Nat} (h : 1 ≤ high) (v : Nat) :
    clampTo 1 high v = if v = 0 then 1 else if high < v then high else v := by
  simp only [clampTo_eq_ite h, Nat.lt_one_iff]

theorem clampTo_mem {low high : Nat} (h : low ≤ high) (v : Nat) : low ≤ clampTo low high v ∧ clampTo low high v ≤ high := by
  unfold clampTo
  omega

theorem clampTo_of_mem {low high v : Nat} (h : low ≤ v ∧ v ≤ high) : clampTo low high v = v := by
  unfold clampTo
  omega

theorem clampPulse_of_pos {v : Nat} (h : v ≠ 0) : clampPulse v = clampTo 100 60000 v := if_neg h

theorem clampPulse_eq_ite (v : Nat) : clampPulse v = if 1 ≤ v ∧ v ≤ 99 then 100 else if 60000 < v then 60000 else v := by
  by_cases h : v = 0
  · subst h; rfl
  · rw [clampPulse_of_pos h, clampTo_eq_ite (by decide)]
    exact if_congr (by omega) rfl rfl

theorem clampPulse_mem (v : Nat) : clampPulse v = 0 ∨ (100 ≤ clampPulse v ∧ clampPulse v ≤ 60000) := by
  by_cases h : v = 0
  · subst h; exact .inl rfl
  · rw [clampPulse_of_pos h]
    exact .inr (clampTo_mem (by decide) v)

theorem clampPulse_of_mem {v : Nat} (h : v = 0 ∨ (100 ≤ v ∧ v ≤ 60000)) : clampPulse v = v := by
  rcases h with rfl | h
  · rfl
  · rw [clampPulse_of_pos (by omega), clampTo_of_mem h]

theorem clampErrorHigh_le (low high : Nat) : clampErrorHigh low high ≤ low + 4095 := by
  unfold clampErrorHigh
  split <;> omega

theorem clampErrorHigh_of_le {low high : Nat} (h : high ≤ low + 4095) : clampErrorHigh low high = high := if_neg (by omega)

theorem baudCode_le (v : Nat) : (if 5 < v then 3 else v) ≤ 5 := by
  split <;> omega

/-- What a limited P2 may take beside a limited P1, of the 256 rounds held (R180). -/
theorem postRounds_eq_ite {pre : Nat} (h : pre ≤ 192) (post : Nat) :
    min post (256 - pre) = if 256 < pre + post then 256 - pre else post := by
  split <;> omega

/-! ### One class, one stage, one channel -/

theorem classClamp_eq (c : ClassEntry) : c.clamp = { c with threshold := if 15 < c.threshold then 15 else c.threshold } := by
  rw [ClassEntry.clamp, min_eq_ite_lt]

theorem classClamp_of_mem {c : ClassEntry} (h : c.threshold ≤ 15) : c.clamp = c := by
  rw [ClassEntry.clamp, Nat.min_eq_left h]

theorem stageClamp_eq (st : Stage) : st.clamp = { st with maxWait := if st.maxWait = 0 then 1 else st.maxWait } := by
  rw [Stage.clamp, max_one_eq_ite]

theorem stageClamp_of_mem {st : Stage} (h : 1 ≤ st.maxWait) : st.clamp = st := by
  rw [Stage.clamp, Nat.max_eq_left h]

theorem channelClamp_eq (ch : Channel) :
    ch.clamp = { ch with
      scale := if ch.scale = 0 then 1 else ch.scale
      dwell := if ch.dwell = 0 then 1 else ch.dwell
      low := if ch.high < ch.low then ch.high else ch.low
      high := if ch.high < ch.low then ch.low else ch.high } := by
  rw [Channel.clamp, max_one_eq_ite, max_one_eq_ite, min_eq_ite_lt, max_comm, max_def_lt]

theorem channelClamp_mem (ch : Channel) : 1 ≤ ch.clamp.scale ∧ 1 ≤ ch.clamp.dwell ∧ ch.clamp.low ≤ ch.clamp.high :=
  ⟨Nat.le_max_right _ _, Nat.le_max_right _ _, min_le_max⟩

theorem channelClamp_of_mem {ch : Channel} (h : 1 ≤ ch.scale ∧ 1 ≤ ch.dwell ∧ ch.low ≤ ch.high) : ch.clamp = ch := by
  obtain ⟨hscale, hdwell, hwindow⟩ := h
  rw [Channel.clamp, Nat.max_eq_left hscale, Nat.max_eq_left hdwell, Nat.min_eq_left hwindow, Nat.max_eq_right hwindow]

theorem eightMap_eq_self {α : Type} {f : α → α} {v : Eight α} (h : ∀ k, k < 8 → f (v.get k) = v.get k) : v.map f = v := by
  have hmember : ∀ k, k < 8 → (v.map f).get k = v.get k := fun k hk => (Eight.get_map f v k hk).trans (h k hk)
  rw [Eight.mk.injEq]
  exact ⟨hmember 0 (by decide), hmember 1 (by decide), hmember 2 (by decide), hmember 3 (by decide), hmember 4 (by decide),
    hmember 5 (by decide), hmember 6 (by decide), hmember 7 (by decide)⟩

theorem listMap_eq_self {α : Type} {f : α → α} {l : List α} (h : ∀ x ∈ l, f x = x) : l.map f = l :=
  (List.map_congr_left h).trans (List.map_id l)

/-! ### The whole profile -/

section
variable (p : Profile)

theorem clamp_allowance_pos : 1 ≤ p.clamp.allowance := (clampTo_mem (by decide) p.allowance).1

theorem clamp_preRounds_le : p.clamp.preRounds ≤ 192 := Nat.min_le_right _ _

theorem clamp_postRounds : p.clamp.postRounds = min (min p.postRounds 192) (256 - p.clamp.preRounds) := rfl

theorem clamp_rounds_le : p.clamp.preRounds + p.clamp.postRounds ≤ 256 := by
  have hpre := clamp_preRounds_le p
  rw [clamp_postRounds]
  omega

theorem clamp_channel {k : Nat} (hk : k < 8) : p.clamp.channels.get k = (p.channels.get k).clamp := Eight.get_map _ _ k hk

theorem clamp_inRanges : p.clamp.InRanges := by
  unfold Profile.InRanges
  refine ⟨clampTo_mem (by decide) _, clampTo_mem (clamp_allowance_pos p) _, clampTo_mem (by decide) _, Nat.le_max_right _ _, Nat.le_max_right _ _,
    Nat.le_max_right _ _, clampTo_mem (by decide) _, clampTo_mem (by decide) _, Nat.min_le_right _ _, clampTo_mem (by decide) _,
    Nat.min_le_right _ _, Nat.le_max_right _ _, fun k hk => ?_, Nat.le_max_right _ _, Nat.le_max_right _ _, Nat.min_le_right _ _, baudCode_le _,
    Nat.min_le_right _ _, ?_, clampPulse_mem _, clampErrorHigh_le _ _, ?_, clamp_preRounds_le p,
    (Nat.min_le_left _ _).trans (Nat.min_le_right _ _), clamp_rounds_le p⟩
  · rw [clamp_channel p hk]
    exact channelClamp_mem _
  · exact List.forall_mem_map.2 fun st _ => Nat.le_max_right _ _
  · exact List.forall_mem_map.2 fun c _ => Nat.min_le_right _ _

end

theorem clamp_of_inRanges {p : Profile} (h : p.InRanges) : p.clamp = p := by
  obtain ⟨hallowance, hweight, hduration, hcycles, honTime, hoffTime, hdrain, hwindow, hholdOff, hquorum, hrearm, hsuspect, hchannels, htrip, hsag,
    hhysteresis, hbaud, hstageCount, hstages, hpulse, herror, hclasses, hpre, hpost, hrounds⟩ := h
  have hpostLeft : p.postRounds ≤ 256 - p.preRounds := by omega
  rw [Profile.clamp, clampTo_of_mem hallowance, clampTo_of_mem hweight, clampTo_of_mem hduration, Nat.max_eq_left hcycles, Nat.max_eq_left honTime,
    Nat.max_eq_left hoffTime, clampTo_of_mem hdrain, clampTo_of_mem hwindow, Nat.min_eq_left hholdOff, clampTo_of_mem hquorum,
    Nat.min_eq_left hrearm, Nat.max_eq_left hsuspect, eightMap_eq_self fun k hk => channelClamp_of_mem (hchannels k hk), Nat.max_eq_left htrip,
    Nat.max_eq_left hsag, Nat.min_eq_left hhysteresis, if_neg hbaud.not_gt, Nat.min_eq_left hstageCount,
    listMap_eq_self fun st hst => stageClamp_of_mem (hstages st hst), clampPulse_of_mem hpulse, clampErrorHigh_of_le herror,
    listMap_eq_self fun c hc => classClamp_of_mem (hclasses c hc), Nat.min_eq_left hpre, Nat.min_eq_left hpost, Nat.min_eq_left hpostLeft]

/-- Settles O47: each field of a clamped profile is its raw field through one of the operations above, and each of these brings its field into range,
leaves it there, and has the table's value. -/
theorem clampRanges : Obligations.ClampRanges := by
  unfold Obligations.ClampRanges
  intro p
  refine ⟨clamp_inRanges p, clamp_of_inRanges, clampTo_one_eq_ite (by decide) _, clampTo_one_eq_ite (clamp_allowance_pos p) _,
    clampTo_eq_ite (by decide) _, max_one_eq_ite _, max_def_lt _ _, max_one_eq_ite _, clampTo_eq_ite (by decide) _, clampTo_eq_ite (by decide) _,
    min_eq_ite_lt _ _, clampTo_one_eq_ite (by decide) _, min_eq_ite_lt _ _, max_one_eq_ite _, fun k hk => ?_, max_one_eq_ite _, max_one_eq_ite _,
    min_eq_ite_lt _ _, rfl, min_eq_ite_lt _ _, ?_, clampPulse_eq_ite _, rfl, ?_, min_eq_ite_lt _ _, ?_, rfl, rfl, rfl, rfl, rfl, rfl, rfl, rfl, rfl⟩
  · rw [clamp_channel p hk, channelClamp_eq]
  · exact List.map_congr_left fun st _ => stageClamp_eq st
  · exact List.map_congr_left fun c _ => classClamp_eq c
  · rw [clamp_postRounds, postRounds_eq_ite (clamp_preRounds_le p), min_eq_ite_lt]

end Sys2Proof.Proofs
end
